-- ==== Sys2Proof/Word.lean ====
section
/-! DEFINITION. The words of the two links (spec/11, 11.1): 16-bit words on the command link, bytes on
the station line. -/

namespace Sys2Proof

/-- A word of the command link (spec/11, 11.1). -/
abbrev Word := BitVec 16

/-- A byte of a station message, or of a name (spec/11, 11.1, R176). -/
abbrev Byte := BitVec 8

end Sys2Proof
end

