-- ==== Sys2Proof/Syntax.lean ====
section
/-! DEFINITION. The commands of the 740: one constructor of `Instr` per row of spec/opcode_table.json. -/

namespace Sys2Proof

/-- The two mud pumps (spec/00, spec/05). -/
inductive Pump where
  | p1 | p2
deriving DecidableEq, Repr

/-- The five stations, in the order of their addresses 1 to 5 (spec/11, 11.1). -/
inductive Station where
  | head | wrench | loader | tongs | gauge
deriving DecidableEq, Repr

/-- The two cab key switches (R31). -/
structure KeyLines where
  office     : Bool
  supervisor : Bool
deriving DecidableEq, Repr

/-- A frame of the command link as the assembler gathered it (R177): its whole words in order, then the
bits left over when the bit count is not a whole number of words. -/
structure RawFrame where
  words : List Word
  tail  : List Bool
deriving DecidableEq, Repr

/-- A request frame whose header names the command's request code (spec/11, 11.1), with the key lines
sampled when it is taken (R31). `level` and `count` are the header's other two fields; `words` are the
whole words after the header, the CRC word among them; `tail` the bits left over. -/
structure Request where
  keys  : KeyLines
  level : BitVec 2
  count : BitVec 6
  words : List Word
  tail  : List Bool
deriving DecidableEq, Repr

/-- A seven-byte station message whose kind byte names the command (spec/11, 11.1): the address byte, the
four value bytes as one value, and the sum byte. -/
structure Message where
  address : Byte
  value   : BitVec 32
  sum     : Byte
deriving DecidableEq, Repr

/-- The commands: one constructor per row of spec/opcode_table.json. -/
inductive Instr where
  /-- NOP (R181). -/
  | nop (r : Request)
  /-- READ_MODE (R1). -/
  | readMode (r : Request)
  /-- SET_MODE (R3). -/
  | setMode (r : Request)
  /-- SET_WAKE_WINDOW (R9). -/
  | setWakeWindow (r : Request)
  /-- SET_CLOCK (R11). -/
  | setClock (r : Request)
  /-- INITIALISE (R14). -/
  | initialise (r : Request)
  /-- READ_JOB (R15). -/
  | readJob (r : Request)
  /-- OPEN_JOB (R17). -/
  | openJob (r : Request)
  /-- ACTIVATE_JOB (R18). -/
  | activateJob (r : Request)
  /-- SUSPEND_JOB (R19). -/
  | suspendJob (r : Request)
  /-- CLOSE_JOB (R20). -/
  | closeJob (r : Request)
  /-- RELEASE_JOB (R21). -/
  | releaseJob (r : Request)
  /-- SET_BHA (R23). -/
  | setBha (r : Request)
  /-- SET_RATE (R24). -/
  | setRate (r : Request)
  /-- SET_RATE_BANDS (R25). -/
  | setRateBands (r : Request)
  /-- SET_HOLE_SECTION (R26). -/
  | setHoleSection (r : Request)
  /-- CLEAR_HOLE_SECTION (R27). -/
  | clearHoleSection (r : Request)
  /-- DECLARE_DOWN (R28). -/
  | declareDown (r : Request)
  /-- CLEAR_DOWN (R28). -/
  | clearDown (r : Request)
  /-- READ_ROD_TYPE (R33). -/
  | readRodType (r : Request)
  /-- SET_ROD_TYPE (R34). -/
  | setRodType (r : Request)
  /-- ENROL_ROD (R39). -/
  | enrolRod (r : Request)
  /-- AMEND_ROD (R40). -/
  | amendRod (r : Request)
  /-- MOVE_ROD (R41). -/
  | moveRod (r : Request)
  /-- RETIRE_ROD (R42). -/
  | retireRod (r : Request)
  /-- FIND_ROD (R43). -/
  | findRod (r : Request)
  /-- READ_ROD (R43). -/
  | readRod (r : Request)
  /-- LIST_STRING (R44). -/
  | listString (r : Request)
  /-- READ_ROSTER (R44). -/
  | readRoster (r : Request)
  /-- DECLARE_STRING_LOST (R51). -/
  | declareStringLost (r : Request)
  /-- READ_CENTRE (R52). -/
  | readCentre (r : Request)
  /-- READ_OPERATION (R57). -/
  | readOperation (r : Request)
  /-- MAKE_UP (R59). -/
  | makeUp (r : Request)
  /-- BREAK_OUT (R62). -/
  | breakOut (r : Request)
  /-- STOW (R63). -/
  | stow (r : Request)
  /-- RUN_BHA (R64). -/
  | runBha (r : Request)
  /-- PULL_BHA (R64). -/
  | pullBha (r : Request)
  /-- ABORT_OP (R67). -/
  | abortOp (r : Request)
  /-- READ_DEPTH (R71). -/
  | readDepth (r : Request)
  /-- SET_HEAD_CONFIG (R71). -/
  | setHeadConfig (r : Request)
  /-- READ_PUMPS (R76). -/
  | readPumps (r : Request)
  /-- SET_PUMP_CONFIG (R77). -/
  | setPumpConfig (r : Request)
  /-- SET_CIRC_CONFIG (R77). -/
  | setCircConfig (r : Request)
  /-- SET_PUMP_RATE (R83). -/
  | setPumpRate (r : Request)
  /-- STOP_CIRCULATION (R85). -/
  | stopCirculation (r : Request)
  /-- CLEAR_CIRC_TOTAL (R80). -/
  | clearCircTotal (r : Request)
  /-- READ_TANKS (R92). -/
  | readTanks (r : Request)
  /-- SET_TANK_CONFIG (R93). -/
  | setTankConfig (r : Request)
  /-- SWAP_TANKS (R98). -/
  | swapTanks (r : Request)
  /-- ADD_WATER (R104). -/
  | addWater (r : Request)
  /-- SET_BALANCE_PERIOD (R105). -/
  | setBalancePeriod (r : Request)
  /-- READ_BALANCE (R105). -/
  | readBalance (r : Request)
  /-- SET_LOSS_THRESHOLDS (R108). -/
  | setLossThresholds (r : Request)
  /-- ADD_ADDITIVE (R100). -/
  | addAdditive (r : Request)
  /-- SET_ADDITIVE_PRICE (R100). -/
  | setAdditivePrice (r : Request)
  /-- READ_ADDITIVE (R100). -/
  | readAdditive (r : Request)
  /-- RECEIVE_ADDITIVE (R101). -/
  | receiveAdditive (r : Request)
  /-- STOCK_COUNT (R101). -/
  | stockCount (r : Request)
  /-- DRAW_ADDITIVE (R102). -/
  | drawAdditive (r : Request)
  /-- RETIRE_ADDITIVE (R103). -/
  | retireAdditive (r : Request)
  /-- READ_LAG (R119). -/
  | readLag (r : Request)
  /-- SET_SURFACE_LINE (R113). -/
  | setSurfaceLine (r : Request)
  /-- READ_TRANSIT (R126). -/
  | readTransit (r : Request)
  /-- READ_PARCEL (R126). -/
  | readParcel (r : Request)
  /-- SET_PARCEL_STEP (R126). -/
  | setParcelStep (r : Request)
  /-- TAKE_SAMPLE (R136). -/
  | takeSample (r : Request)
  /-- REJECT_SAMPLE (R137). -/
  | rejectSample (r : Request)
  /-- READ_LITHOLOGY (R139). -/
  | readLithology (r : Request)
  /-- SET_LITHOLOGY (R139). -/
  | setLithology (r : Request)
  /-- FORMATION_CHANGE (R145). -/
  | formationChange (r : Request)
  /-- REVISE_INTERVAL (R154). -/
  | reviseInterval (r : Request)
  /-- NOTE_WATER (R155). -/
  | noteWater (r : Request)
  /-- READ_INTERVAL (R141). -/
  | readInterval (r : Request)
  /-- READ_SHEET (R160). -/
  | readSheet (r : Request)
  /-- READ_RATES (R160). -/
  | readRates (r : Request)
  /-- SETTLE (R171). -/
  | settle (r : Request)
  /-- READ_ATTENTION (R187). -/
  | readAttention (r : Request)
  /-- CLEAR_ATTENTION (R188). -/
  | clearAttention (r : Request)
  /-- SET_ATTENTION_MASK (R189). -/
  | setAttentionMask (r : Request)
  /-- REQUEST (R53). -/
  | request (m : Message)
  /-- RELEASE (R55). -/
  | release (m : Message)
  /-- PRESENTED (R60). -/
  | presented (m : Message)
  /-- TAG (R65). -/
  | tag (m : Message)
  /-- STOWED (R62). -/
  | stowed (m : Message)
  /-- TORQUE_MADE (R60). -/
  | torqueMade (m : Message)
  /-- JOINT_BROKEN (R62). -/
  | jointBroken (m : Message)
  /-- BHA_SET (R64). -/
  | bhaSet (m : Message)
  /-- BHA_CLEAR (R64). -/
  | bhaClear (m : Message)
  /-- FAULT (R68). -/
  | fault (m : Message)
  /-- COUPLED (R72). -/
  | coupled (m : Message)
  /-- FREE (R72). -/
  | free (m : Message)
  /-- HEIGHT (R73). -/
  | height (m : Message)
  /-- LEVEL (R94). -/
  | level (m : Message)
  /-- FLOW (R110). -/
  | flow (m : Message)
  /-- STROKE_PULSE (R79). -/
  | strokePulse (p : Pump)
  /-- LINK_RESET (R182). -/
  | linkReset (gathered : List Bool)
  /-- POWER_UP (R12). -/
  | powerUp
  /-- SECOND_EXPIRY (R10). -/
  | secondExpiry
  /-- MINUTE_EXPIRY (R10). -/
  | minuteExpiry
  /-- RAMP_EXPIRY (R84). -/
  | rampExpiry (p : Pump)
  /-- STILL_EXPIRY (R86). -/
  | stillExpiry
  /-- BALANCE_EXPIRY (R105). -/
  | balanceExpiry
  /-- MIX_HOLD_EXPIRY (R95). -/
  | mixHoldExpiry
  /-- WAKE_WINDOW_EXPIRY (R8). -/
  | wakeWindowExpiry
  /-- DISCARDED_FRAME (R179). -/
  | discardedFrame (f : RawFrame)
  /-- DISCARDED_STATION_MESSAGE (R183). -/
  | discardedStationMessage (bytes : List Byte)
deriving DecidableEq, Repr

end Sys2Proof
end

