-- ==== Sys2Proof/Machine/State.lean ====
section
/-! DEFINITION. The state of the 740: one structure per block of spec/00's block table, plain data
throughout, and `State.reset`. Counts and volumes are natural numbers kept in the ranges their rules give
by the operations that write them; signed quantities of the job sheet are integers. -/

namespace Sys2Proof.Machine

/-! ### Names -/

/-- The rig modes (R1). -/
inductive RigMode where
  | setup | operate | standby | waking
deriving DecidableEq, Repr

/-- What woke the rig (R6). -/
inductive WakeSource where
  | stroke (p : Pump)
  | height
  | request (st : Station)
deriving DecidableEq, Repr

/-- The request classes of the mode check (R2). -/
inductive ReqClass where
  | read | mode | setup | operation | general
deriving DecidableEq, Repr

/-- The status codes, in the order of their codes 0 to 25 (spec/11, 11.1). -/
inductive Status where
  | ok | pending | badRequest | badField | level | key | mode | stale | notFound | busy | notStopped
  | notReady | full | duplicate | type | worn | string | columnFull | settled | closed | noJob | noParcel
  | inUse | linkCrc | linkShort | linkLong
deriving DecidableEq, Repr

/-- The states of a job that is not FREE (R15). -/
inductive JobPhase where
  | opened | active | suspended | closed
deriving DecidableEq, Repr

/-- The states of a job's bottom-hole assembly (R15). -/
inductive BhaPlace where
  | stowed | inString | lost
deriving DecidableEq, Repr

/-- The wear classes of a rod (R49). -/
inductive WearClass where
  | a | b | c | d
deriving DecidableEq, Repr

/-- The rock hardness classes 1 to 4 (R139). -/
inductive RockClass where
  | soft | loose | medium | hard
deriving DecidableEq, Repr

/-- How an interval's lithology came to be logged (R140). -/
inductive Source where
  | none | driller | sample | revised
deriving DecidableEq, Repr

/-- What became of the cuttings of an interval (R140). -/
inductive CutStatus where
  | pending | sampled | notSampled | noReturns
deriving DecidableEq, Repr

/-- The circulation states (R76). -/
inductive Circ where
  | stopped | running | stopping
deriving DecidableEq, Repr

/-- The two suction tanks (R92). -/
inductive TankId where
  | a | b
deriving DecidableEq, Repr

/-- The standby states of the STANDBY tank (R92). -/
inductive StandbyState where
  | filling | mixing | ready
deriving DecidableEq, Repr

/-- The suction conditions (R81, R92). -/
inductive Suction where
  | normal | low | empty
deriving DecidableEq, Repr

/-- The loss classes (spec/06, 6.5). -/
inductive LossClass where
  | gain | normal | seepage | severe | total
deriving DecidableEq, Repr

/-- The values of a FLOW report (R110). -/
inductive Flow where
  | flow | noFlow
deriving DecidableEq, Repr

/-- The kinds of rod operation (R57). -/
inductive OpKind where
  | makeUp | breakOut | stow | runBha | pullBha
deriving DecidableEq, Repr

/-- The steps of the rod operations, in the order of the table of spec/04, 4.2. -/
inductive OpStep where
  | awaitLoader | awaitPresent | awaitTag | awaitTorque | awaitWrench | awaitBreak | awaitStow
  | awaitTongs | awaitSet | awaitClear
deriving DecidableEq, Repr

/-- The outcomes of a rod operation (R70). -/
inductive OpOutcome where
  | done | mismatch | aborted | faulted
deriving DecidableEq, Repr

/-- The events that move circulation out of STOPPED (R56). -/
inductive BreachEvent where
  | target | stroke
deriving DecidableEq, Repr

/-- The causes of a tank swap (R97). -/
inductive SwapCause where
  | automatic | request
deriving DecidableEq, Repr

/-- The reasons for which a station message is discarded (R183). -/
inductive StationReason where
  | length | sum | address
deriving DecidableEq, Repr

/-- The kinds of change COLUMN_FULL names: an extension (R144) or a status mark (R149). -/
inductive FullKind where
  | extension | notSampled | noReturns
deriving DecidableEq, Repr

/-- The kinds of saturation AMOUNT_SATURATED names (R158, R171). -/
inductive SatKind where
  | quantity | settled
deriving DecidableEq, Repr

/-- The 22 attention kinds, in the order of their numbers (spec/11, 11.6). -/
inductive AttnKind where
  | powerUp | circStopped | uncommandedPump | interlockBreach | lowSuction | suctionEmpty | tankSwapped
  | lossClass | inventoryShort | sensorRange | depthJump | tagMismatch | rodOpDone | rodWorn
  | parcelArrived | sampleDropped | transitMerged | columnFull | unexplainedWake | amountSaturated
  | linkError | stationUnexpected
deriving DecidableEq, Repr

/-! ### Shared records -/

/-- A record handle: table, slot (from 0 here, from 1 in the guide) and generation (spec/02, 2.4). -/
inductive Handle where
  | rod (slot : Fin 128) (gen : Nat)
  | additive (slot : Fin 16) (gen : Nat)
  | job (slot : Fin 4) (gen : Nat)
deriving DecidableEq, Repr

/-- A name of eight characters (R176). -/
abbrev Name := Vector Byte 8

/-- A rack place, the destination of a rod (R39, R62): a carousel slot (0 to 39 for 1 to 40) or the truck. -/
inductive RackPlace where
  | carousel (slot : Fin 40)
  | truck
deriving DecidableEq, Repr

/-- The source of a MAKE_UP (R59). -/
inductive OpSource where
  | carousel (slot : Fin 40)
  | truck (tag : Nat)
  | centre
deriving DecidableEq, Repr

/-! ### Attention -/

/-- The latest detail of an attention, one constructor per shape of the table of spec/11, 11.6. -/
inductive Detail where
  | none
  | volume (total : Nat)
  | pump (p : Pump)
  | breach (event : BreachEvent) (p : Pump)
  | suction (tank : TankId) (litres : Nat)
  | swapped (incoming : TankId) (cause : SwapCause)
  | loss (cls : LossClass) (depth : Option Nat)
  | short (additive : Handle) (units : Nat)
  | sensor (st : Station) (tank : Option TankId) (value : Int)
  | jump (candidate hole : Nat)
  | tags (expected confirmed : Nat)
  | opDone (kind : OpKind) (outcome : OpOutcome) (rod : Option Handle) (st : Option Station) (value : Nat)
  | worn (rod : Handle) (cls : WearClass)
  | arrived (ordinal top bottom : Nat) (merged : Bool)
  | dropped (ordinal top bottom : Nat)
  | merged (absorbing top bottom absorbed : Nat)
  | columnFull (job : Handle) (kind : FullKind) (top bottom : Nat)
  | wake (source : WakeSource)
  | saturated (job : Handle) (line : Fin 40) (kind : SatKind)
  | command (status : Status)
  | message (reason : StationReason) (address : Nat)
  | unexpected (address kind : Nat) (step : Option OpStep)
deriving DecidableEq, Repr

/-- One kind's entry in the attention set (R185). -/
structure AttnEntry where
  pending : Bool
  mask    : Bool
  count   : Nat
  detail  : Option Detail
deriving DecidableEq, Repr

/-! ### Mode Controller -/

/-- The wake window while it runs: its count and the wake source (R1). -/
structure WakeWindow where
  count  : Nat
  source : WakeSource
deriving DecidableEq, Repr

/-- The Mode Controller: rig mode, wake window and rig clock (R1, R10). -/
structure ModeCtl where
  mode         : RigMode
  windowLen    : Nat
  window       : Option WakeWindow
  minute       : Nat
  second       : Nat
  geometryMark : Bool
deriving DecidableEq, Repr

/-! ### Job Table, with each job's column and sheet -/

/-- A job's BHA record (R15): length in cm, OD in mm, price in cents. -/
structure Bha where
  length : Nat
  od     : Nat
  price  : Nat
  place  : BhaPlace
deriving DecidableEq, Repr

/-- An entry of a hole section table (R26): top in cm, diameter in mm. -/
structure Section where
  top      : Nat
  diameter : Nat
deriving DecidableEq, Repr

/-- A job's rate set (R24): the footage rates of lines 1 to 12, the activity rates of lines 13 to 17 (the
DOWN rate is fixed at 0 and not held) and the lost-mud rate. -/
structure Rates where
  footage  : Vector Nat 12
  activity : Vector Nat 5
  lostMud  : Nat
deriving DecidableEq, Repr

/-- An interval record of a strata column (R140). -/
structure Interval where
  top      : Nat
  bottom   : Nat
  lith     : Fin 64
  cls      : RockClass
  source   : Source
  status   : CutStatus
  lossZone : Bool
  water    : Bool
  merged   : Bool
  yield    : Option Nat
  minutes  : Nat
deriving DecidableEq, Repr

/-- A line of a job sheet (R158). -/
structure Line where
  settled   : Int
  unsettled : Int
  amount    : Int
deriving DecidableEq, Repr

/-- A job context that is not FREE (R15), with its column (R140) and its sheet (R158; line n at index
n − 1). Rod type t stands at index t − 1. -/
structure Job where
  number     : Nat
  phase      : JobPhase
  startDepth : Nat
  holeDepth  : Nat
  bitDepth   : Nat
  declared   : Fin 64
  rodType    : Fin 4
  bha        : Bha
  b1         : Nat
  b2         : Nat
  sections   : List Section
  rates      : Rates
  down       : Bool
  settleMark : Nat
  column     : List Interval
  sheet      : Vector Line 40
deriving DecidableEq, Repr

/-- A slot of the Job Table (R15, R29); `job = none` is the state FREE. -/
structure JobSlot where
  gen : Nat
  job : Option Job
deriving DecidableEq, Repr

/-! ### Protection -/

/-- Protection: the role level of the request in hand and the key lines as sampled with it (R31). -/
structure Protection where
  level : BitVec 2
  keys  : KeyLines
deriving DecidableEq, Repr

/-! ### Rod Roster -/

/-- Wear thresholds for classes B, C and D (R33). -/
structure Thresholds where
  b : Nat
  c : Nat
  d : Nat
deriving DecidableEq, Repr

/-- A rod-type record (R33). -/
structure RodType where
  length  : Nat
  od      : Nat
  makeUps : Thresholds
  drilled : Thresholds
  price   : Nat
deriving DecidableEq, Repr

/-- Where a rod is (R35): string positions count from 1. -/
inductive RodPlace where
  | carousel (slot : Fin 40)
  | truck
  | string (position : Nat)
  | centre
deriving DecidableEq, Repr

/-- A job slot and generation: a rod's last job (R35). -/
structure JobName where
  slot : Fin 4
  gen  : Nat
deriving DecidableEq, Repr

/-- A live rod record (R35). -/
structure Rod where
  tag        : Nat
  type       : Fin 4
  length     : Nat
  place      : RodPlace
  makeUps    : Nat
  drilled    : Nat
  wear       : WearClass
  lastJob    : Option JobName
  unverified : Bool
deriving DecidableEq, Repr

/-- A rod-record slot (R35, R29). -/
structure RodSlot where
  gen : Nat
  rod : Option Rod
deriving DecidableEq, Repr

/-- The Rod Roster (R33, R35, R38). -/
structure Roster where
  types     : Vector RodType 4
  slots     : Vector RodSlot 128
  worn      : Nat
  damaged   : Nat
  lost      : Nat
  stringLen : Nat
deriving DecidableEq, Repr

/-! ### Well centre -/

/-- The Well-Centre Arbiter (R52): the holder, and the request set as one flag per member. -/
structure Arbiter where
  holder : Station
  wrench : Bool
  loader : Bool
  tongs  : Bool
deriving DecidableEq, Repr

/-- The record of the rod operation in flight (R57). -/
structure Operation where
  kind     : OpKind
  step     : OpStep
  rod      : Option (Fin 128)
  expected : Option Nat
  source   : Option OpSource
  dest     : Option RackPlace
  tagReg   : Option Nat
deriving DecidableEq, Repr

/-- The Rod Operation Engine (R57); `op = none` is IDLE. -/
structure Engine where
  op       : Option Operation
  tripping : Bool
deriving DecidableEq, Repr

/-- The Depth Tracker (R71). -/
structure DepthTracker where
  coupled    : Bool
  lastHeight : Nat
  held       : Option Nat
  headStroke : Nat
  jumpLimit  : Nat
deriving DecidableEq, Repr

/-! ### Pumps -/

/-- A pump record (R76); a ramp timer of `none` is stopped. -/
structure PumpRec where
  displacement : Nat
  efficiency   : Nat
  ceiling      : Nat
  rampStep     : Nat
  rampInterval : Nat
  vps          : Nat
  target       : Nat
  setpoint     : Nat
  rampTimer    : Option Nat
  inForce      : Nat
  strokes      : Nat
deriving DecidableEq, Repr

/-- The Pump Controller (R76); a still timer of `none` is stopped. -/
structure PumpCtl where
  p1        : PumpRec
  p2        : PumpRec
  holdRate  : Nat
  stillHold : Nat
  circ      : Circ
  still     : Option Nat
  total     : Nat
deriving DecidableEq, Repr

/-! ### Tanks, balance, additives -/

/-- A tank record (R92), less its role, standby state and mix hold count, which `TankUnit` holds once for
the one STANDBY tank. -/
structure Tank where
  capacity : Nat
  mlPerMm  : Nat
  level    : Nat
  low      : Nat
  empty    : Nat
  ready    : Nat
  mixHold  : Nat
  fresh    : Bool
deriving DecidableEq, Repr

/-- An additive record (R100). -/
structure Additive where
  name      : Name
  price     : Nat
  onHand    : Nat
  received  : Nat
  drawn     : Nat
  shortfall : Nat
deriving DecidableEq, Repr

/-- A slot of the additive store (R100, R29). -/
structure AdditiveSlot where
  gen  : Nat
  item : Option Additive
deriving DecidableEq, Repr

/-- The Tank and Balance Unit: tanks and suction (R92), balance (R105), loss classes (R108), return-flow
filter (R110) and additive store (R100). `standby` and `mixCount` belong to the tank that is not
`active`; `reference = none` is a reference that is not valid. -/
structure TankUnit where
  a            : Tank
  b            : Tank
  active       : TankId
  standby      : StandbyState
  mixCount     : Option Nat
  condition    : Suction
  reference    : Option Nat
  additions    : Nat
  elapsed      : Nat
  fill         : Nat
  remainder    : Nat
  coarse       : Nat
  fine         : Nat
  gain         : Nat
  seepage      : Nat
  severe       : Nat
  lossClass    : LossClass
  flowAccepted : Option Flow
  flowLast     : Option Flow
  additives    : Vector AdditiveSlot 16
deriving DecidableEq, Repr

/-! ### Transit List -/

/-- A parcel record (R125). -/
structure Parcel where
  ordinal  : Nat
  top      : Nat
  bottom   : Nat
  lag      : Nat
  advanced : Nat
  arrived  : Bool
  merged   : Bool
deriving DecidableEq, Repr

/-- The Transit List, oldest parcel first (R125), and the surface line volume (R113). -/
structure Transit where
  parcels     : List Parcel
  formingTop  : Option Nat
  births      : Nat
  step        : Nat
  surfaceLine : Nat
deriving DecidableEq, Repr

/-- An entry of the lithology table (R139). -/
structure LithEntry where
  name : Name
  cls  : RockClass
deriving DecidableEq, Repr

/-! ### Command Link -/

/-- A response: its status and payload (spec/11, 11.1); the count and the CRC follow from them. -/
structure Response where
  status  : Status
  payload : List Word
deriving DecidableEq, Repr

/-- The Command Link (R177, R180). `dataOut` is the model's own: the bits the latest frame clocked out on
DATA OUT (log 4). -/
structure CommandLink where
  assembler : List Bool
  buffer    : Option Response
  dataOut   : List Bool
deriving DecidableEq, Repr

/-! ### The whole machine -/

/-- The state of the 740, one field per block of spec/00. `draws` (free choices drawn so far, log 6) and
`pending` (the queue of waiting commands, log 10) are the model's own. -/
structure State where
  mode       : ModeCtl
  jobs       : Vector JobSlot 4
  protection : Protection
  roster     : Roster
  arbiter    : Arbiter
  engine     : Engine
  depth      : DepthTracker
  pumps      : PumpCtl
  tanks      : TankUnit
  transit    : Transit
  lith       : Vector LithEntry 64
  drilling   : Bool
  attn       : Vector AttnEntry 22
  link       : CommandLink
  receiver   : List Byte
  draws      : Nat
  pending    : List Instr
deriving DecidableEq, Repr

/-- The ways a command stops the 740: none. The spec gives every command a next state; a failed check is
answered with a status or an attention, which are next states. -/
inductive Fault where
deriving DecidableEq, Repr

/-- The ways the model has no meaning for a term. -/
inductive Refusal where
  /-- Raised by `exec`'s arms for a row that has no meaning yet: none. Safe. -/
  | notModelled (mnemonic : String)
deriving DecidableEq, Repr

/-! ### Initial records -/

/-- The character codes of a name (R176). -/
def blankName : Name := Vector.replicate 8 32

/-- The name UNKNOWN (R139), filled out with a space. -/
def unknownName : Name := #v[85, 78, 75, 78, 79, 87, 78, 32]

/-- The initial rod-type record (R33). -/
def RodType.initial : RodType :=
  { length := 600, od := 89, makeUps := ⟨400, 800, 1200⟩, drilled := ⟨150000, 300000, 450000⟩, price := 0 }

/-- The initial pump record under SUCTION_EMPTY (R76, R81). -/
def PumpRec.initial : PumpRec :=
  { displacement := 8000, efficiency := 90, ceiling := 120, rampStep := 5, rampInterval := 5, vps := 7200
    target := 0, setpoint := 0, rampTimer := none, inForce := 0, strokes := 0 }

/-- The initial tank record (R92). -/
def Tank.initial : Tank :=
  { capacity := 30000, mlPerMm := 15000, level := 0, low := 0, empty := 0, ready := 20000, mixHold := 10
    fresh := false }

/-- The initial lithology table (R139). -/
def lithInitial : Vector LithEntry 64 :=
  (Vector.replicate 64 ⟨blankName, .soft⟩).set 0 ⟨unknownName, .soft⟩

/-- An attention entry with nothing pending and its mask off (R185). -/
def AttnEntry.clear : AttnEntry := { pending := false, mask := false, count := 0, detail := none }

/-- The 740 right after its first power-up: every record at the initial value its chapter gives, brought up
as R12, R90, R99, R105, R108, R110 and R185 give (log 1; the minute count and the last height, which have
no initial value, log 2; the sampled lines, log 3). -/
def State.reset : State where
  mode := { mode := .standby, windowLen := 10, window := none, minute := 0, second := 0, geometryMark := false }
  jobs := Vector.replicate 4 ⟨1, none⟩
  protection := { level := 3, keys := ⟨false, false⟩ }
  roster :=
    { types := Vector.replicate 4 RodType.initial, slots := Vector.replicate 128 ⟨1, none⟩
      worn := 0, damaged := 0, lost := 0, stringLen := 0 }
  arbiter := { holder := .head, wrench := false, loader := false, tongs := false }
  engine := { op := none, tripping := false }
  depth := { coupled := true, lastHeight := 0, held := none, headStroke := 700, jumpLimit := 30 }
  pumps :=
    { p1 := PumpRec.initial, p2 := PumpRec.initial, holdRate := 20, stillHold := 10, circ := .stopping
      still := some 10, total := 0 }
  tanks :=
    { a := Tank.initial, b := Tank.initial, active := .a, standby := .filling, mixCount := none
      condition := .empty, reference := none, additions := 0, elapsed := 0, fill := 0, remainder := 0
      coarse := 0, fine := 9, gain := 200, seepage := 100, severe := 1000, lossClass := .normal
      flowAccepted := none, flowLast := none, additives := Vector.replicate 16 ⟨1, none⟩ }
  transit := { parcels := [], formingTop := none, births := 0, step := 50, surfaceLine := 60000 }
  lith := lithInitial
  drilling := false
  attn := (Vector.replicate 22 AttnEntry.clear).set 0
    { pending := true, mask := false, count := 1, detail := some .none }
  link := { assembler := [], buffer := none, dataOut := [] }
  receiver := []
  draws := 0
  pending := []

end Sys2Proof.Machine
end

