-- ==== Sys2Proof/Machine/Operands.lean ====
section
/-! DEFINITION. The operand forms of the two links (spec/11, 11.1, R176, R178): field words, codes of named
values, handle words, names, rod places, the CRC, request and response frames, station messages. -/

namespace Sys2Proof.Machine

/-! ### Field words (R176) -/

/-- A field of one word. -/
def u16 (n : Nat) : List Word := [BitVec.ofNat 16 n]

/-- A field of two words, the high word first. -/
def u32 (n : Nat) : List Word := [BitVec.ofNat 16 (n / 65536), BitVec.ofNat 16 n]

/-- A signed field of two words, two's complement. -/
def i32 (z : Int) : List Word := u32 (z % 4294967296).toNat

/-- The hole-fill accumulator's 64 bits in four words, high word first (log 15). -/
def u64 (n : Nat) : List Word := u32 (n / 4294967296) ++ u32 n

/-- A field that is set or clear (R176). -/
def flag (b : Bool) : List Word := u16 b.toNat

/-- The value of a field of one word. -/
def one (w : Word) : Nat := w.toNat

/-- The value of a field of two words. -/
def two (hi lo : Word) : Nat := hi.toNat * 65536 + lo.toNat

/-! ### Codes of named values (R176) -/

/-- Rig mode codes (R176). -/
def RigMode.code : RigMode → Nat
  | .setup => 1 | .operate => 2 | .standby => 3 | .waking => 4

/-- The rig mode a target word names (R176). -/
def RigMode.ofCode : Nat → Option RigMode
  | 1 => some .setup | 2 => some .operate | 3 => some .standby | 4 => some .waking | _ => none

/-- Pump codes (R176). -/
def pumpCode : Pump → Nat
  | .p1 => 1 | .p2 => 2

/-- The pump a word names (R176). -/
def pumpOf : Nat → Option Pump
  | 1 => some .p1 | 2 => some .p2 | _ => none

/-- Tank codes (R176). -/
def TankId.code : TankId → Nat
  | .a => 1 | .b => 2

/-- The tank a word names (R176). -/
def TankId.ofCode : Nat → Option TankId
  | 1 => some .a | 2 => some .b | _ => none

/-- Station addresses (spec/11, 11.1). -/
def stationCode : Station → Nat
  | .head => 1 | .wrench => 2 | .loader => 3 | .tongs => 4 | .gauge => 5

/-- The station an address names (spec/11, 11.1). -/
def stationOf : Nat → Option Station
  | 1 => some .head | 2 => some .wrench | 3 => some .loader | 4 => some .tongs | 5 => some .gauge | _ => none

/-- Status codes (spec/11, 11.1). -/
def Status.code : Status → Nat
  | .ok => 0 | .pending => 1 | .badRequest => 2 | .badField => 3 | .level => 4 | .key => 5 | .mode => 6
  | .stale => 7 | .notFound => 8 | .busy => 9 | .notStopped => 10 | .notReady => 11 | .full => 12
  | .duplicate => 13 | .type => 14 | .worn => 15 | .string => 16 | .columnFull => 17 | .settled => 18
  | .closed => 19 | .noJob => 20 | .noParcel => 21 | .inUse => 22 | .linkCrc => 23 | .linkShort => 24
  | .linkLong => 25

/-- Job states, by the position in R15's table; FREE is 1 and is never read. -/
def JobPhase.code : JobPhase → Nat
  | .opened => 2 | .active => 3 | .suspended => 4 | .closed => 5

/-- BHA states, by the position in R15's table. -/
def BhaPlace.code : BhaPlace → Nat
  | .stowed => 1 | .inString => 2 | .lost => 3

/-- Wear classes, by the position in R35's table. -/
def WearClass.code : WearClass → Nat
  | .a => 1 | .b => 2 | .c => 3 | .d => 4

/-- Rock classes 1 to 4 (R139). -/
def RockClass.code : RockClass → Nat
  | .soft => 1 | .loose => 2 | .medium => 3 | .hard => 4

/-- The rock class a word names (R139). -/
def RockClass.ofCode : Nat → Option RockClass
  | 1 => some .soft | 2 => some .loose | 3 => some .medium | 4 => some .hard | _ => none

/-- Interval sources, by the position in R140's table (log 18). -/
def Source.code : Source → Nat
  | .none => 1 | .driller => 2 | .sample => 3 | .revised => 4

/-- Interval statuses, by the position in R140's table. -/
def CutStatus.code : CutStatus → Nat
  | .pending => 1 | .sampled => 2 | .notSampled => 3 | .noReturns => 4

/-- Circulation states, by the position in R76's table. -/
def Circ.code : Circ → Nat
  | .stopped => 1 | .running => 2 | .stopping => 3

/-- Standby states, by the position in R92's table. -/
def StandbyState.code : StandbyState → Nat
  | .filling => 1 | .mixing => 2 | .ready => 3

/-- Suction conditions, in R92's order. -/
def Suction.code : Suction → Nat
  | .normal => 1 | .low => 2 | .empty => 3

/-- Loss classes: no rule or table lists all five, and that they are numbered in the order of 6.5's prose is the
model's choice (log 37). -/
def LossClass.code : LossClass → Nat
  | .gain => 1 | .normal => 2 | .seepage => 3 | .severe => 4 | .total => 5

/-- Operation kinds, in R57's order. -/
def OpKind.code : OpKind → Nat
  | .makeUp => 1 | .breakOut => 2 | .stow => 3 | .runBha => 4 | .pullBha => 5

/-- Operation steps, in the order of the table of spec/04, 4.2. -/
def OpStep.code : OpStep → Nat
  | .awaitLoader => 1 | .awaitPresent => 2 | .awaitTag => 3 | .awaitTorque => 4 | .awaitWrench => 5
  | .awaitBreak => 6 | .awaitStow => 7 | .awaitTongs => 8 | .awaitSet => 9 | .awaitClear => 10

/-- Outcomes, in the order of spec/04, 4.2. -/
def OpOutcome.code : OpOutcome → Nat
  | .done => 1 | .mismatch => 2 | .aborted => 3 | .faulted => 4

/-- The events of INTERLOCK_BREACH, in R56's order. -/
def BreachEvent.code : BreachEvent → Nat
  | .target => 1 | .stroke => 2

/-- Swap causes, in R97's order. -/
def SwapCause.code : SwapCause → Nat
  | .automatic => 1 | .request => 2

/-- Discard reasons, in R183's order. -/
def StationReason.code : StationReason → Nat
  | .length => 1 | .sum => 2 | .address => 3

/-- The kinds of change of COLUMN_FULL: no rule lists all three, and their order here, R144's extension and then
the marks in R140's order of statuses, is the model's choice (log 38). -/
def FullKind.code : FullKind → Nat
  | .extension => 1 | .notSampled => 2 | .noReturns => 3

/-- The kinds of AMOUNT_SATURATED, in the order of spec/11, 11.6. -/
def SatKind.code : SatKind → Nat
  | .quantity => 1 | .settled => 2

/-- Wake sources in two words: the kind of event, then the pump or the station (R6). -/
def WakeSource.words : WakeSource → List Word
  | .stroke p => u16 1 ++ u16 (pumpCode p)
  | .height => u16 2 ++ u16 1
  | .request st => u16 3 ++ u16 (stationCode st)

/-! ### Handles (spec/11, 11.1) -/

/-- The handle word: slot code in bits 15 to 8, generation in bits 7 to 0. -/
def Handle.word : Handle → Word
  | .rod slot gen => BitVec.ofNat 16 ((slot.val + 1) * 256 + gen)
  | .additive slot gen => BitVec.ofNat 16 ((slot.val + 129) * 256 + gen)
  | .job slot gen => BitVec.ofNat 16 ((slot.val + 145) * 256 + gen)

/-- A handle where one is present, and 0 where none is (R176). -/
def handleWord (h : Option Handle) : List Word := [(h.map Handle.word).getD 0]

/-- The slot code of a handle word. -/
def slotCode (w : Word) : Nat := w.toNat / 256

/-- The generation of a handle word. -/
def genOf (w : Word) : Nat := w.toNat % 256

/-- The ROD slot a handle word names (R30). -/
def rodSlotOf (w : Word) : Option (Fin 128) :=
  if h : 1 ≤ slotCode w ∧ slotCode w ≤ 128 then some ⟨slotCode w - 1, by omega⟩ else none

/-- The ADDITIVE slot a handle word names (R30). -/
def additiveSlotOf (w : Word) : Option (Fin 16) :=
  if h : 129 ≤ slotCode w ∧ slotCode w ≤ 144 then some ⟨slotCode w - 129, by omega⟩ else none

/-- The JOB slot a handle word names (R30). -/
def jobSlotOf (w : Word) : Option (Fin 4) :=
  if h : 145 ≤ slotCode w ∧ slotCode w ≤ 148 then some ⟨slotCode w - 145, by omega⟩ else none

/-! ### Names (R176) -/

/-- A name's four words, two characters to a word, the first in the high byte. -/
def nameWords (n : Name) : List Word :=
  [n[0] ++ n[1], n[2] ++ n[3], n[4] ++ n[5], n[6] ++ n[7]]

/-- The name four words hold. -/
def nameOf (w0 w1 w2 w3 : Word) : Name :=
  let hi (w : Word) : Byte := BitVec.ofNat 8 (w.toNat / 256)
  let lo (w : Word) : Byte := BitVec.ofNat 8 w.toNat
  #v[hi w0, lo w0, hi w1, lo w1, hi w2, lo w2, hi w3, lo w3]

/-- Every character is printable: codes 32 to 126 (R176). -/
def printable (n : Name) : Bool := n.toList.all fun c => 32 ≤ c.toNat && c.toNat ≤ 126

/-! ### Indices -/

/-- The index of a number counted from 1, in a table of `n` entries. -/
def indexFrom1 (n k : Nat) : Option (Fin n) :=
  if h : 1 ≤ k ∧ k ≤ n then some ⟨k - 1, by omega⟩ else none

/-- The index of a number counted from 0, in a table of `n` entries. -/
def indexFrom0 (n k : Nat) : Option (Fin n) :=
  if h : k < n then some ⟨k, h⟩ else none

/-! ### Rod places (R176) -/

/-- A destination: three words, a kind and a value. A kind other than 1 or 2, CENTRE among them, and a
carousel slot outside 1 to 40 name no destination. The value of TRUCK is not read (log 19). -/
def rackPlaceOf (kind hi lo : Word) : Option RackPlace :=
  match one kind with
  | 1 => (indexFrom1 40 (two hi lo)).map .carousel
  | 2 => some .truck
  | _ => none

/-- A MAKE_UP source (R59): a TRUCK source with tag 0 is none. The value of CENTRE is not read (log 19). -/
def opSourceOf (kind hi lo : Word) : Option OpSource :=
  match one kind with
  | 1 => (indexFrom1 40 (two hi lo)).map .carousel
  | 2 => if two hi lo = 0 then none else some (.truck (two hi lo))
  | 3 => some .centre
  | _ => none

/-- The three words of a destination; zeros where there is none. -/
def rackPlaceWords : Option RackPlace → List Word
  | none => u16 0 ++ u32 0
  | some (.carousel slot) => u16 1 ++ u32 (slot.val + 1)
  | some .truck => u16 2 ++ u32 0

/-- The three words of a source; zeros where there is none. -/
def opSourceWords : Option OpSource → List Word
  | none => u16 0 ++ u32 0
  | some (.carousel slot) => u16 1 ++ u32 (slot.val + 1)
  | some (.truck tag) => u16 2 ++ u32 tag
  | some .centre => u16 3 ++ u32 0

/-- The three words of a rod's location: its position in R35's list, then the carousel slot or string
position (log 17). -/
def rodPlaceWords : RodPlace → List Word
  | .carousel slot => u16 1 ++ u32 (slot.val + 1)
  | .truck => u16 2 ++ u32 0
  | .string position => u16 3 ++ u32 position
  | .centre => u16 4 ++ u32 0

/-! ### CRC (R178) -/

/-- A word's bits, most significant first. -/
def wordBits (w : Word) : List Bool := (List.range 16).map fun i => w.getLsbD (15 - i)

/-- One bit shifted into the CRC register, generator 0x1021, no reflection. -/
def crcBit (reg : Word) (b : Bool) : Word :=
  if reg.getLsbD 15 != b then (reg <<< 1) ^^^ 0x1021#16 else reg <<< 1

/-- The CRC of a run of words, from a register of all ones, with no inversion. -/
def crc (ws : List Word) : Word := (ws.flatMap wordBits).foldl crcBit 0xFFFF#16

/-! ### Request frames (spec/11, 11.1) -/

/-- A header word: request code, role level, payload count. -/
def header (code : Byte) (level : BitVec 2) (count : BitVec 6) : Word := code ++ level ++ count

/-- The payload count a header word declares. -/
def headerCount (h : Word) : Nat := h.toNat % 64

/-- The request code of a header word. -/
def headerCode (h : Word) : Byte := BitVec.ofNat 8 (h.toNat / 256)

/-- The frame a request of code `code` came in. -/
def requestFrame (code : Byte) (r : Request) : RawFrame :=
  { words := header code r.level r.count :: r.words, tail := r.tail }

/-- The number of bits of a frame. -/
def frameBits (f : RawFrame) : Nat := 16 * f.words.length + f.tail.length

/-- The checks of R179 on a frame that carried a bit, in their order: the payload, or the link status the
frame is discarded with. -/
def judgeFrame (f : RawFrame) : Except Status (List Word) :=
  match f.words with
  | [] => .error .linkShort
  | h :: rest =>
    if f.tail ≠ [] ∨ f.words.length < headerCount h + 2 then .error .linkShort
    else if headerCount h + 2 < f.words.length then .error .linkLong
    else if rest.getLast? ≠ some (crc (h :: rest.dropLast)) then .error .linkCrc
    else .ok rest.dropLast

/-! ### Response frames (spec/11, 11.1, R180) -/

/-- A response's words: status word, payload, CRC. -/
def Response.words (r : Response) : List Word :=
  let body := BitVec.ofNat 16 (r.status.code * 256 + r.payload.length % 64) :: r.payload
  body ++ [crc body]

/-- What `n` clocks put on DATA OUT: the buffer's words from their first bit, then zeros (R180). -/
def clockedOut (buffer : Option Response) (n : Nat) : List Bool :=
  let bits := ((buffer.map Response.words).getD []).flatMap wordBits
  bits.take n ++ List.replicate (n - bits.length) false

/-! ### Station messages (spec/11, 11.1) -/

/-- The seven bytes of a message of the given kind. -/
def messageBytes (kind : Byte) (m : Message) : List Byte :=
  [m.address, kind, m.value.extractLsb' 24 8, m.value.extractLsb' 16 8, m.value.extractLsb' 8 8,
    m.value.extractLsb' 0 8, m.sum]

/-- The bytes add to 0 modulo 256 (R183). -/
def sumsToZero (bytes : List Byte) : Bool := bytes.foldl (· + ·) 0#8 == 0#8

/-- The checks of R183 in their order: the reason a message is discarded for, if any. -/
def judgeMessage (bytes : List Byte) : Option StationReason :=
  if bytes.length ≠ 7 then some .length
  else if !sumsToZero bytes then some .sum
  else if stationOf ((bytes.head?.map BitVec.toNat).getD 0) = none then some .address
  else none

/-- The kind byte of a message, 0 where it has none. -/
def kindByte (bytes : List Byte) : Nat := (bytes[1]?.map BitVec.toNat).getD 0

/-- The kind of a message is one of 1 to 15 (R184). -/
def kindNamed (bytes : List Byte) : Bool := 1 ≤ kindByte bytes && kindByte bytes ≤ 15

/-- A LEVEL value's tank byte (spec/11, 11.1). -/
def levelTank (v : BitVec 32) : Option TankId := TankId.ofCode (v.extractLsb' 24 8).toNat

/-- A LEVEL value's signed level in mm (spec/11, 11.1). -/
def levelValue (v : BitVec 32) : Int := (v.extractLsb' 0 24).toInt

/-- A FLOW value (spec/11, 11.1). -/
def flowOf (v : BitVec 32) : Option Flow :=
  match v.toNat with
  | 1 => some .flow | 2 => some .noFlow | _ => none

/-- The members of a set of attention kinds given in two words: bit k − 1 for kind k (R176). -/
def kindSet (n : Nat) (k : Fin 22) : Bool := n.testBit k.val

end Sys2Proof.Machine
end

