-- ==== Sys2Proof/Machine/Flags.lean ====
section
/-! DEFINITION. The attention set and the ATTN line (spec/11, 11.6): raising, clearing and masking a kind,
and the eight detail words READ_ATTENTION returns. -/

namespace Sys2Proof.Machine

/-- A kind's place in the attention set: its number less 1 (spec/11, 11.6). -/
def AttnKind.ix : AttnKind → Fin 22
  | .powerUp => 0 | .circStopped => 1 | .uncommandedPump => 2 | .interlockBreach => 3 | .lowSuction => 4
  | .suctionEmpty => 5 | .tankSwapped => 6 | .lossClass => 7 | .inventoryShort => 8 | .sensorRange => 9
  | .depthJump => 10 | .tagMismatch => 11 | .rodOpDone => 12 | .rodWorn => 13 | .parcelArrived => 14
  | .sampleDropped => 15 | .transitMerged => 16 | .columnFull => 17 | .unexplainedWake => 18
  | .amountSaturated => 19 | .linkError => 20 | .stationUnexpected => 21

/-- One raising of a kind on its entry (R185): pending set, the count one more and at most 255, the detail
replaced. -/
def AttnEntry.raised (e : AttnEntry) (d : Detail) : AttnEntry :=
  { e with pending := true, count := min (e.count + 1) 255, detail := some d }

/-- Raising a kind (R185). -/
def State.raise (k : AttnKind) (d : Detail) (s : State) : State :=
  { s with attn := s.attn.set k.ix ((s.attn[k.ix]).raised d) }

/-- Clearing the kinds of a set; one that is not pending is left as it is (R188). -/
def clearKinds (n : Nat) (attn : Vector AttnEntry 22) : Vector AttnEntry 22 :=
  Vector.ofFn fun k =>
    if kindSet n k && attn[k].pending then { attn[k] with pending := false, count := 0, detail := none } else attn[k]

/-- Replacing every mask (R189). -/
def maskKinds (n : Nat) (attn : Vector AttnEntry 22) : Vector AttnEntry 22 :=
  Vector.ofFn fun k => { attn[k] with mask := kindSet n k }

/-- What power-up leaves of an entry: its mask alone (R185). -/
def AttnEntry.powerUp (e : AttnEntry) : AttnEntry := { e with pending := false, count := 0, detail := none }

/-- The ATTN line (R186): asserted while a kind is pending and not masked. -/
def State.attnLine (s : State) : Bool := s.attn.toList.any fun e => e.pending && !e.mask

/-- The fields of a detail in the words their ranges need, in the order of the table of spec/11, 11.6. -/
def Detail.fields : Detail → List Word
  | .none => []
  | .volume total => u32 total
  | .pump p => u16 (pumpCode p)
  | .breach event p => u16 (stationCode .wrench) ++ u16 event.code ++ u16 (pumpCode p)
  | .suction tank litres => u16 tank.code ++ u32 litres
  | .swapped incoming cause => u16 incoming.code ++ u16 cause.code
  | .loss cls depth => u16 cls.code ++ u32 (depth.getD 0)
  | .short additive units => [additive.word] ++ u16 units
  | .sensor st tank value => u16 (stationCode st) ++ u16 ((tank.map TankId.code).getD 0) ++ i32 value
  | .jump candidate hole => u32 candidate ++ u32 hole
  | .tags expected confirmed => u32 expected ++ u32 confirmed
  | .opDone kind outcome rod st value =>
    u16 kind.code ++ u16 outcome.code ++ handleWord rod ++ u16 ((st.map stationCode).getD 0) ++ u32 value
  | .worn rod cls => [rod.word] ++ u16 cls.code
  | .arrived ordinal top bottom isMerged => u32 ordinal ++ u32 top ++ u32 bottom ++ flag isMerged
  | .dropped ordinal top bottom => u32 ordinal ++ u32 top ++ u32 bottom
  | .merged absorbing top bottom absorbed => u32 absorbing ++ u32 top ++ u32 bottom ++ u32 absorbed
  | .columnFull job kind top bottom => [job.word] ++ u16 kind.code ++ u32 top ++ u32 bottom
  | .wake source => source.words
  | .saturated job line kind => [job.word] ++ u16 (line.val + 1) ++ u16 kind.code
  | .command status => u16 1 ++ u16 status.code ++ u16 0
  | .message reason address => u16 2 ++ u16 reason.code ++ u16 address
  | .unexpected address kind step => u16 address ++ u16 kind ++ u16 ((step.map OpStep.code).getD 0)

/-- The eight words a detail is held in (spec/11, 11.6). -/
def Detail.words (d : Detail) : List Word := (d.fields ++ List.replicate 8 0).take 8

/-- A pending kind's entry in the READ_ATTENTION response (R187): nine words. -/
def AttnEntry.words (k : Fin 22) (e : AttnEntry) : List Word :=
  BitVec.ofNat 16 ((k.val + 1) * 256 + e.count) :: (e.detail.getD .none).words

/-- The kinds pending, from kind index `first` upward (R187). -/
def pendingFrom (attn : Vector AttnEntry 22) (first : Nat) : List (Fin 22) :=
  (List.finRange 22).filter fun k => first ≤ k.val && attn[k].pending

end Sys2Proof.Machine
end

