-- ==== Sys2Proof/Machine/Ops.lean ====
section
/-! DEFINITION. The named operations over the records: slots and generations, the ACTIVE job, rods by place,
pumps, tanks, and the replies of the owning blocks. -/

namespace Sys2Proof.Machine

/-! ### Quantities (spec/00, Conventions) -/

/-- The largest unsigned 32-bit quantity. -/
def max32 : Nat := 4294967295

/-- A sum that saturates at the 32-bit limit. -/
def satAdd32 (a b : Nat) : Nat := min (a + b) max32

/-- A count that wraps from the 32-bit limit to 0. -/
def wrap32 (n : Nat) : Nat := n % 4294967296

/-- A generation raised by 1, wrapping from 255 to 1 (R29). -/
def nextGen (g : Nat) : Nat := if 255 ≤ g then 1 else g + 1

/-- `n` lies in `lo` to `hi`. -/
def within (lo hi n : Nat) : Bool := lo ≤ n && n ≤ hi

/-! ### Replies of the owning blocks (R32) -/

/-- What an accepted request leaves: its status (OK or PENDING), its payload and the state (R2). -/
structure Accepted where
  status  : Status
  payload : List Word
  state   : State

/-- A block's answer to a request: a refusal's status, or an acceptance (R2, R32). -/
abbrev Reply := Except Status Accepted

/-- Answered OK with no payload. -/
def accept (s : State) : Reply := .ok ⟨.ok, [], s⟩

/-- Answered OK with a payload. -/
def answer (payload : List Word) (s : State) : Reply := .ok ⟨.ok, payload, s⟩

/-! ### Jobs -/

/-- The job context in a slot; none when the slot is FREE. -/
def State.job? (s : State) (i : Fin 4) : Option Job := s.jobs[i].job

/-- Writing the job context of a slot. -/
def State.setJob (i : Fin 4) (j : Job) (s : State) : State :=
  { s with jobs := s.jobs.set i { s.jobs[i] with job := some j } }

/-- Changing the job context of a slot; a FREE slot stays FREE. -/
def State.modifyJob (i : Fin 4) (f : Job → Job) (s : State) : State :=
  match s.job? i with
  | none => s
  | some j => s.setJob i (f j)

/-- The handle of the job in a slot. -/
def State.jobHandle (s : State) (i : Fin 4) : Handle := .job i s.jobs[i].gen

/-- The slot holds the ACTIVE job. -/
def State.isActive (s : State) (i : Fin 4) : Bool := (s.job? i).any fun j => j.phase == .active

/-- The slot of the ACTIVE job (R15: at most one). -/
def State.active? (s : State) : Option (Fin 4) := (List.finRange 4).find? s.isActive

/-- The ACTIVE job. -/
def State.activeJob? (s : State) : Option Job := s.active?.bind s.job?

/-- The handle check of a JOB handle (R30), then the block's own checks. -/
def withJob (w : Word) (s : State) (k : Fin 4 → Job → Reply) : Reply :=
  match jobSlotOf w with
  | none => .error .badField
  | some i =>
    match s.job? i with
    | none => .error .notFound
    | some j => if s.jobs[i].gen ≠ genOf w then .error .stale else k i j

/-- The handle check of a JOB handle, then that the job is not CLOSED (R22, R32). -/
def withUnclosedJob (w : Word) (s : State) (k : Fin 4 → Job → Reply) : Reply :=
  withJob w s fun i j => if j.phase = .closed then .error .closed else k i j

/-! ### Rods -/

/-- The live record in a rod slot. -/
def State.rod? (s : State) (i : Fin 128) : Option Rod := s.roster.slots[i].rod

/-- Writing the record in a rod slot. -/
def State.setRod (i : Fin 128) (r : Rod) (s : State) : State :=
  { s with roster := { s.roster with slots := s.roster.slots.set i { s.roster.slots[i] with rod := some r } } }

/-- Changing the record in a rod slot; an empty slot stays empty. -/
def State.modifyRod (i : Fin 128) (f : Rod → Rod) (s : State) : State :=
  match s.rod? i with
  | none => s
  | some r => s.setRod i (f r)

/-- A record leaves its slot, whose generation rises by 1 (R29). -/
def State.removeRod (i : Fin 128) (s : State) : State :=
  { s with roster := { s.roster with slots := s.roster.slots.set i ⟨nextGen s.roster.slots[i].gen, none⟩ } }

/-- The handle of the rod in a slot. -/
def State.rodHandle (s : State) (i : Fin 128) : Handle := .rod i s.roster.slots[i].gen

/-- The lowest-numbered rod slot whose live record meets a test. -/
def State.findRod (s : State) (p : Rod → Bool) : Option (Fin 128) :=
  (List.finRange 128).find? fun i => (s.rod? i).any p

/-- The number of live records that meet a test. -/
def State.countRods (s : State) (p : Rod → Bool) : Nat :=
  (s.roster.slots.toList.filter fun slot => slot.rod.any p).length

/-- The rod is in the string (R36). -/
def Rod.inString (r : Rod) : Bool :=
  match r.place with
  | .string _ => true
  | _ => false

/-- The number n of rods in the string (R36). -/
def State.stringCount (s : State) : Nat := s.countRods Rod.inString

/-- The rod at string position p (R36). -/
def State.rodAtPosition (s : State) (p : Nat) : Option (Fin 128) := s.findRod fun r => r.place == .string p

/-- The rod at CENTRE (R36). -/
def State.rodAtCentre (s : State) : Option (Fin 128) := s.findRod fun r => r.place == .centre

/-- The place the operation in flight reserves (R37). -/
def State.reserved (s : State) : Option RackPlace := s.engine.op.bind Operation.dest

/-- The rod of the operation in flight (R37). -/
def State.opRod (s : State) : Option (Fin 128) := s.engine.op.bind Operation.rod

/-- A rack place as a rod's location. -/
def RackPlace.place : RackPlace → RodPlace
  | .carousel slot => .carousel slot
  | .truck => .truck

/-- A carousel slot is free when no rod is in it and no reservation names it; the truck has room while its
rods, with a reservation naming it, are fewer than 120 (R36). -/
def State.rackFree (s : State) : RackPlace → Bool
  | .carousel slot => (s.findRod fun r => r.place == .carousel slot).isNone && s.reserved != some (.carousel slot)
  | .truck => (s.countRods fun r => r.place == .truck) + (s.reserved == some .truck).toNat < 120

/-- The handle check of a ROD handle (R30), then the block's own checks. -/
def withRod (w : Word) (s : State) (k : Fin 128 → Rod → Reply) : Reply :=
  match rodSlotOf w with
  | none => .error .badField
  | some i =>
    match s.rod? i with
    | none => .error .notFound
    | some r => if s.roster.slots[i].gen ≠ genOf w then .error .stale else k i r

/-- The string is empty: no rod in it and the job's BHA STOWED or LOST (R19). -/
def State.stringEmpty (s : State) (j : Job) : Bool := s.stringCount == 0 && j.bha.place != .inString

/-! ### Additives -/

/-- The live record in an additive slot. -/
def State.additive? (s : State) (i : Fin 16) : Option Additive := s.tanks.additives[i].item

/-- Writing the record in an additive slot. -/
def State.setAdditive (i : Fin 16) (x : Additive) (s : State) : State :=
  { s with tanks := { s.tanks with
      additives := s.tanks.additives.set i { s.tanks.additives[i] with item := some x } } }

/-- The handle of the additive in a slot. -/
def State.additiveHandle (s : State) (i : Fin 16) : Handle := .additive i s.tanks.additives[i].gen

/-- The handle check of an ADDITIVE handle (R30), then the block's own checks. -/
def withAdditive (w : Word) (s : State) (k : Fin 16 → Additive → Reply) : Reply :=
  match additiveSlotOf w with
  | none => .error .badField
  | some i =>
    match s.additive? i with
    | none => .error .notFound
    | some x => if s.tanks.additives[i].gen ≠ genOf w then .error .stale else k i x

/-! ### Pumps and tanks -/

/-- A pump's record. -/
def PumpCtl.pump (c : PumpCtl) : Pump → PumpRec
  | .p1 => c.p1
  | .p2 => c.p2

/-- Writing a pump's record. -/
def PumpCtl.setPump (c : PumpCtl) (p : Pump) (r : PumpRec) : PumpCtl :=
  match p with
  | .p1 => { c with p1 := r }
  | .p2 => { c with p2 := r }

/-- The other tank. -/
def TankId.other : TankId → TankId
  | .a => .b
  | .b => .a

/-- A tank's record. -/
def TankUnit.tank (u : TankUnit) : TankId → Tank
  | .a => u.a
  | .b => u.b

/-- Writing a tank's record. -/
def TankUnit.setTank (u : TankUnit) (t : TankId) (r : Tank) : TankUnit :=
  match t with
  | .a => { u with a := r }
  | .b => { u with b := r }

/-- A tank's volume in mL: its level times its mL per mm (R92). -/
def Tank.volume (t : Tank) : Nat := t.level * t.mlPerMm

/-- A tank's depth in mm (R92). -/
def Tank.depth (t : Tank) : Nat := t.capacity * 1000 / t.mlPerMm

/-- The ACTIVE tank's record. -/
def TankUnit.activeTank (u : TankUnit) : Tank := u.tank u.active

/-- The STANDBY tank's record. -/
def TankUnit.standbyTank (u : TankUnit) : Tank := u.tank u.active.other

/-! ### The Command Link's two registers -/

/-- The frame of `n` bits clocks the response buffer out on DATA OUT (R180). -/
def State.clockOut (n : Nat) (s : State) : State :=
  { s with link := { s.link with dataOut := clockedOut s.link.buffer n } }

/-- A response replaces what the buffer held (R180). -/
def State.respond (status : Status) (payload : List Word) (s : State) : State :=
  { s with link := { s.link with buffer := some ⟨status, payload⟩ } }

/-- A link error: a response of its status with no payload, and LINK_ERROR (R179). -/
def State.linkError (status : Status) (s : State) : State :=
  (s.respond status []).raise .linkError (.command status)

/-- Protection takes the role level in hand and samples the key lines (R31). -/
def State.sample (r : Request) (s : State) : State :=
  { s with protection := { level := r.level, keys := r.keys } }

end Sys2Proof.Machine
end

