-- ==== Sys2Proof/Machine/RosterOps.lean ====
section
/-! DEFINITION. The Rod Roster's operations (spec/03): wear classes, the steps of the rod operations, the
drilled credit, enrolment and retirement. -/

namespace Sys2Proof.Machine

/-! ### Wear (R49) -/

/-- The class a count gives against its thresholds. -/
def Thresholds.grade (t : Thresholds) (n : Nat) : WearClass :=
  if t.d ≤ n then .d else if t.c ≤ n then .c else if t.b ≤ n then .b else .a

/-- The higher of two wear classes. -/
def WearClass.max (x y : WearClass) : WearClass := if x.code < y.code then y else x

/-- A rod's wear class against its type (R49). -/
def Rod.grade (t : RodType) (r : Rod) : WearClass :=
  (t.makeUps.grade r.makeUps).max (t.drilled.grade r.drilled)

/-- The wear class of the rod in a slot worked out anew; a rise raises ROD_WORN (R49). -/
def State.regrade (i : Fin 128) (s : State) : State :=
  match s.rod? i with
  | none => s
  | some r =>
    let wear := r.grade s.roster.types[r.type]
    let s' := s.setRod i { r with wear := wear }
    if r.wear.code < wear.code then s'.raise .rodWorn (.worn (s.rodHandle i) wear) else s'

/-- Every rod of a type graded anew, in slot order (R34). -/
def State.regradeType (t : Fin 4) (s : State) : State :=
  (List.finRange 128).foldl
    (fun s i => if (s.rod? i).any (fun r => r.type == t) then s.regrade i else s) s

/-! ### The string and the centre (R38, R45 to R47, R50) -/

/-- Writing the string length. -/
def State.setStringLen (n : Nat) (s : State) : State := { s with roster := { s.roster with stringLen := n } }

/-- A rod's location. -/
def State.placeRod (i : Fin 128) (place : RodPlace) (s : State) : State :=
  s.modifyRod i fun r => { r with place := place }

/-- The transfer from CENTRE to a rack place, which clears the unverified flag (R45). -/
def State.rackRod (i : Fin 128) (place : RackPlace) (s : State) : State :=
  s.modifyRod i fun r => { r with place := place.place, unverified := false }

/-- The rod at CENTRE joins the ACTIVE job's string at position n + 1 (R46). -/
def State.joinRod (i : Fin 128) (s : State) : State :=
  match s.rod? i with
  | none => s
  | some r =>
    ((s.setRod i
      { r with
        place := .string (s.stringCount + 1)
        makeUps := min (r.makeUps + 1) 65535
        lastJob := s.active?.map fun a => ⟨a, s.jobs[a].gen⟩
        unverified := false }).setStringLen (s.roster.stringLen + r.length)).regrade i

/-- The top rod leaves the string for CENTRE (R47). -/
def State.unjoinRod (i : Fin 128) (s : State) : State :=
  match s.rod? i with
  | none => s
  | some r => (s.placeRod i .centre).setStringLen (s.roster.stringLen - r.length)

/-- New hole credited to one rod, its wear worked out after it (R50). -/
def State.creditRod (step : Nat) (s : State) (i : Fin 128) : State :=
  (s.modifyRod i fun r => { r with drilled := satAdd32 r.drilled step }).regrade i

/-- The rods of the string in order of position from 1 upward (R36). -/
def State.stringRods (s : State) : List (Fin 128) :=
  (List.range s.stringCount).filterMap fun p => s.rodAtPosition (p + 1)

/-- New hole credited to every rod in the string, from position 1 upward (R50). -/
def State.creditString (step : Nat) (s : State) : State := s.stringRods.foldl (State.creditRod step) s

/-! ### Enrolment and retirement (R39, R42) -/

/-- The lowest-numbered empty rod slot (R39). -/
def State.emptyRodSlot (s : State) : Option (Fin 128) :=
  (List.finRange 128).find? fun i => (s.rod? i).isNone

/-- A tally one more, saturating at 65,535 (R35). -/
def tallyUp (n : Nat) : Nat := min (n + 1) 65535

/-- A slot's rod, when it is at CENTRE, is unverified (R48). -/
def RodSlot.doubtCentre (slot : RodSlot) : RodSlot :=
  { slot with rod := slot.rod.map fun x => if x.place = .centre then { x with unverified := true } else x }

/-- Every rod at CENTRE is unverified (R48). -/
def Roster.doubtCentre (r : Roster) : Roster :=
  { r with slots := Vector.ofFn fun i => (r.slots[i]).doubtCentre }

/-- A rod slot after initialisation (R35, R29). -/
def RodSlot.initialised (slot : RodSlot) : RodSlot := if slot.rod.isSome then ⟨nextGen slot.gen, none⟩ else slot

/-- The roster after initialisation (R33, R35, R38). -/
def Roster.initialised (r : Roster) : Roster :=
  { types := Vector.replicate 4 RodType.initial
    slots := Vector.ofFn fun i => (r.slots[i]).initialised
    worn := 0, damaged := 0, lost := 0, stringLen := 0 }

end Sys2Proof.Machine
end

