-- ==== Sys2Proof/Machine/CentreOps.lean ====
section
/-! DEFINITION. The Well-Centre Arbiter and the Rod Operation Engine (spec/04, 4.1 to 4.3): grants,
holdings, the engine's requests and releases, and the ends of an operation. Which station an operation has
asked for, or holds the centre for it, follows from its step (log 27). -/

namespace Sys2Proof.Machine

/-! ### The request set (R52) -/

/-- A station is in the request set; HEAD and GAUGE never are. -/
def Arbiter.has (a : Arbiter) : Station → Bool
  | .wrench => a.wrench
  | .loader => a.loader
  | .tongs => a.tongs
  | .head => false
  | .gauge => false

/-- Writing a station's membership of the request set. -/
def Arbiter.put (a : Arbiter) (st : Station) (b : Bool) : Arbiter :=
  match st with
  | .wrench => { a with wrench := b }
  | .loader => { a with loader := b }
  | .tongs => { a with tongs := b }
  | .head => a
  | .gauge => a

/-- The arbiter at power-up and initialisation (R52). -/
def Arbiter.idle : Arbiter := { holder := .head, wrench := false, loader := false, tongs := false }

/-! ### The engine's steps -/

/-- The step waits for a grant to this station (spec/04, 4.2). -/
def OpStep.awaits : OpStep → Option Station
  | .awaitLoader => some .loader
  | .awaitWrench => some .wrench
  | .awaitTongs => some .tongs
  | _ => none

/-- At this step the station holds the centre for the operation (spec/04, 4.2). -/
def OpStep.holds : OpStep → Option Station
  | .awaitPresent => some .loader
  | .awaitTag => some .loader
  | .awaitStow => some .loader
  | .awaitBreak => some .wrench
  | .awaitSet => some .tongs
  | .awaitClear => some .tongs
  | _ => none

/-- The stations of an operation (R68). -/
def OpKind.stations : OpKind → List Station
  | .makeUp => [.loader, .head]
  | .breakOut => [.wrench, .loader, .head]
  | .stow => [.loader]
  | .runBha => [.tongs]
  | .pullBha => [.tongs]

/-- Writing the operation's step. -/
def State.setStep (step : OpStep) (o : Operation) (s : State) : State :=
  { s with engine := { s.engine with op := some { o with step := step } } }

/-- Entering AWAIT_TAG, with the tag register empty (R65). -/
def State.toAwaitTag (o : Operation) (s : State) : State :=
  s.setStep .awaitTag { o with tagReg := none }

/-- The engine's advance at a grant to the station its step waits for (R60 to R64). -/
def State.onGrant (st : Station) (s : State) : State :=
  match s.engine.op with
  | none => s
  | some o =>
    if o.step.awaits ≠ some st then s
    else
      match o.kind, o.source with
      | .makeUp, some .centre => s.toAwaitTag o
      | .makeUp, _ => s.setStep .awaitPresent o
      | .breakOut, _ => if o.step = .awaitWrench then s.setStep .awaitBreak o else s.toAwaitTag o
      | .stow, _ => s.toAwaitTag o
      | .runBha, _ => s.setStep .awaitSet o
      | .pullBha, _ => s.setStep .awaitClear o

/-! ### Grants (R54, R55) -/

/-- The eligible station of highest priority: WRENCH while circulation is STOPPED, then LOADER, then TONGS
(R54). -/
def State.nextStation (s : State) : Option Station :=
  if s.arbiter.wrench ∧ s.pumps.circ = .stopped then some .wrench
  else if s.arbiter.loader then some .loader
  else if s.arbiter.tongs then some .tongs
  else none

/-- The chosen station leaves the set and becomes the holder, and the engine hears of it (R54). -/
def State.grant (st : Station) (s : State) : State :=
  ({ s with arbiter := { s.arbiter.put st false with holder := st } }).onGrant st

/-- The test for a grant: HEAD holds, the coupling flag is FREE and a station is eligible (R54). -/
def State.grantTest (s : State) : State :=
  if s.arbiter.holder = .head ∧ s.depth.coupled = false then
    match s.nextStation with
    | some st => s.grant st
    | none => s
  else s

/-- A holding ends: the centre goes to the next eligible station when the head is FREE, and to HEAD
otherwise (R55). -/
def State.endHolding (s : State) : State :=
  let back : State := { s with arbiter := { s.arbiter with holder := .head } }
  if s.depth.coupled then back
  else
    match s.nextStation with
    | some st => s.grant st
    | none => back

/-- A station joins the request set; one already there changes nothing (R53). -/
def State.joinSet (st : Station) (s : State) : State :=
  if s.arbiter.has st then s
  else ({ s with arbiter := s.arbiter.put st true }).grantTest

/-- The engine requests a station: one that already holds the centre serves its step at once (R53). -/
def State.engineRequest (st : Station) (s : State) : State :=
  if s.arbiter.holder = st then s.onGrant st else s.joinSet st

/-- The engine releases a station that holds the centre (R55). -/
def State.engineRelease (st : Station) (s : State) : State :=
  if s.arbiter.holder = st then s.endHolding else s

/-- A station's own REQUEST: HEAD's is ignored, and the holder's changes nothing (R53). -/
def State.stationRequest (st : Station) (s : State) : State :=
  if st = .head ∨ s.arbiter.holder = st then s else s.joinSet st

/-! ### The ends of an operation (R66 to R70) -/

/-- The end of an operation: ROD_OP_DONE, the record emptied, the engine IDLE (R70). The reservation ends
with the record. -/
def State.endOp (o : Operation) (outcome : OpOutcome) (st : Option Station) (value : Nat) (s : State) : State :=
  ({ s with engine := { s.engine with op := none } }).raise .rodOpDone
    (.opDone o.kind outcome (o.rod.map s.rodHandle) st value)

/-- What the engine asked for and was not granted is withdrawn, and what it holds for the operation is
released (R67). The operation has ended already, so no grant advances it. -/
def State.withdraw (o : Operation) (s : State) : State :=
  let s := match o.step.awaits with
    | some st => { s with arbiter := s.arbiter.put st false }
    | none => s
  match o.step.holds with
  | some st => s.engineRelease st
  | none => s

/-- An operation ended ABORTED or FAULTED, its rod and BHA left where they are (R67, R68). -/
def State.abandon (o : Operation) (outcome : OpOutcome) (st : Option Station) (value : Nat) (s : State) : State :=
  (s.endOp o outcome st value).withdraw o

/-- A station's own RELEASE (R55, R68): it ends its holding or withdraws its request, and ends the
operation FAULTED when the holding or the request was the operation's. HEAD's is ignored. -/
def State.stationRelease (st : Station) (s : State) : State :=
  if st = .head then s
  else if s.arbiter.holder = st then
    match s.engine.op with
    | some o => if o.step.holds = some st then (s.endOp o .faulted (some st) 0).endHolding else s.endHolding
    | none => s.endHolding
  else if s.arbiter.has st then
    let s' : State := { s with arbiter := s.arbiter.put st false }
    match s.engine.op with
    | some o => if o.step.awaits = some st then s'.endOp o .faulted (some st) 0 else s'
    | none => s'
  else s

/-- Circulation has left STOPPED: INTERLOCK_BREACH when WRENCH holds the centre (R56). -/
def State.leftStopped (event : BreachEvent) (p : Pump) (s : State) : State :=
  if s.arbiter.holder = .wrench then s.raise .interlockBreach (.breach event p) else s

end Sys2Proof.Machine
end

