-- ==== Sys2Proof/Machine/SheetOps.lean ====
section
/-! DEFINITION. The Job Sheet's operations (spec/10): lines and saturation, footage by class and band,
prices and amounts, settlement, and the classification of minutes. -/

namespace Sys2Proof.Machine

/-! ### Lines (R158) -/

/-- The limit of a line's quantities and amounts. -/
def lineLimit : Int := 2147483647

/-- A quantity or an amount saturated at the limits. -/
def clampLine (z : Int) : Int := max (-lineLimit) (min z lineLimit)

/-- An event adds `q` to the unsettled quantity of a line; a sum past a limit stops there and raises
AMOUNT_SATURATED with the kind QUANTITY (R158). -/
def State.addUnsettled (i : Fin 4) (line : Fin 40) (q : Int) (s : State) : State :=
  match s.job? i with
  | none => s
  | some j =>
    let sum := j.sheet[line].unsettled + q
    let s' := s.setJob i { j with sheet := j.sheet.set line { j.sheet[line] with unsettled := clampLine sum } }
    if clampLine sum = sum then s' else s'.raise .amountSaturated (.saturated (s.jobHandle i) line .quantity)

/-- A rock class's place, its number less 1. -/
def RockClass.ix : RockClass → Fin 4
  | .soft => 0 | .loose => 1 | .medium => 2 | .hard => 3

/-- The footage line of a class and a band (0 to 2): (c − 1) × 3 + b. -/
def footageLine (c : RockClass) (band : Fin 3) : Fin 40 := ⟨c.ix.val * 3 + band.val, by omega⟩

/-- The consumable line of an additive slot: 18 + slot. -/
def consumableLine (slot : Fin 16) : Fin 40 := ⟨18 + slot.val, by omega⟩

/-- The lost-mud line, 35. -/
def lostMudLine : Fin 40 := 34

/-- The rods-lost line of a rod type: 35 + type. -/
def rodsLostLine (t : Fin 4) : Fin 40 := ⟨35 + t.val, by omega⟩

/-- The BHA-lost line, 40. -/
def bhaLostLine : Fin 40 := 39

/-! ### Footage (R161, R162, R25) -/

/-- The thickness of [a, b) that lies in a band of the boundaries B1 and B2 (R158). -/
def bandOverlap (b1 b2 : Nat) (a b : Nat) (band : Fin 3) : Nat :=
  match band with
  | 0 => min b b1 - a
  | 1 => min b b2 - max a b1
  | 2 => b - max a b2

/-- Footage of a range in a class: the part at or below the start depth, cut at B1 and B2, each piece added
to its line from the shallowest (R161). -/
def State.accrueFootage (i : Fin 4) (top bottom : Nat) (c : RockClass) (s : State) : State :=
  match s.job? i with
  | none => s
  | some j =>
    (List.finRange 3).foldl
      (fun s band => s.addUnsettled i (footageLine c band)
        (bandOverlap j.b1 j.b2 (max top j.startDepth) bottom band : Nat)) s

/-- A class change over a range: within [start depth, hole depth), band by band, the old class's unsettled
footage falls and the new class's rises (R162). -/
def State.moveFootage (i : Fin 4) (top bottom : Nat) (old new : RockClass) (s : State) : State :=
  match s.job? i with
  | none => s
  | some j =>
    (List.finRange 3).foldl
      (fun s band =>
        let q : Nat := bandOverlap j.b1 j.b2 (max top j.startDepth) (min bottom j.holeDepth) band
        (s.addUnsettled i (footageLine old band) (-(q : Int))).addUnsettled i (footageLine new band) q) s

/-- The thickness of a class in a band within [start depth, hole depth) of a job's column, under given
boundaries (R25). -/
def Job.thickness (j : Job) (b1 b2 : Nat) (c : RockClass) (band : Fin 3) : Nat :=
  ((j.column.filter fun iv => iv.cls == c).map fun iv =>
    bandOverlap b1 b2 (max iv.top j.startDepth) (min iv.bottom j.holeDepth) band).sum

/-- The four classes. -/
def RockClass.all : List RockClass := [.soft, .loose, .medium, .hard]

/-- The footage a change of the band boundaries moves: for each class and band, the thickness under the new
boundaries less that under the old ones (R25). -/
def State.rebandFootage (i : Fin 4) (j : Job) (b1 b2 : Nat) (s : State) : State :=
  RockClass.all.foldl (fun s c => (List.finRange 3).foldl
    (fun s band => s.addUnsettled i (footageLine c band)
      ((j.thickness b1 b2 c band : Int) - (j.thickness j.b1 j.b2 c band : Int))) s) s

/-! ### Prices and amounts (R159, R169, R170) -/

/-- The rate or price of a line, read from the record that holds it (R159). -/
def State.linePrice (s : State) (j : Job) (line : Fin 40) : Nat :=
  if h : line.val < 12 then j.rates.footage[line.val]
  else if h : line.val < 17 then j.rates.activity[line.val - 12]
  else if line.val = 17 then 0
  else if h : line.val < 34 then ((s.additive? ⟨line.val - 18, by omega⟩).map Additive.price).getD 0
  else if line.val = 34 then j.rates.lostMud
  else if h : line.val < 39 then s.roster.types[line.val - 35].price
  else j.bha.price

/-- The amount of a quantity of at least 0 on a line, before saturation (R169). -/
def amountNat (line : Fin 40) (price q : Nat) : Nat :=
  if line.val < 12 then (q * price + 50) / 100
  else if line.val < 18 then (q * price + 30) / 60
  else if line.val = 34 then (q * price + 500) / 1000
  else q * price

/-- The amount of a signed quantity, before saturation: a negative one is rounded as its positive twin
(R169). -/
def rawAmount (line : Fin 40) (price : Nat) (q : Int) : Int :=
  if q < 0 then -(amountNat line price q.natAbs : Int) else (amountNat line price q.natAbs : Int)

/-- The amount of a signed quantity, saturated (R169). -/
def lineAmount (line : Fin 40) (price : Nat) (q : Int) : Int := clampLine (rawAmount line price q)

/-- A figure stands at a limit (R170, R171; log 24). -/
def atLimit (z : Int) : Bool := z == lineLimit || z == -lineLimit

/-- The provisional amount of a line (R170). -/
def State.provisional (s : State) (j : Job) (line : Fin 40) : Int :=
  clampLine (j.sheet[line].amount + lineAmount line (s.linePrice j line) j.sheet[line].unsettled)

/-- The job total (R170): the forty provisional amounts summed, then saturated once. -/
def State.jobTotal (s : State) (j : Job) : Int :=
  clampLine (((List.finRange 40).map (s.provisional j)).sum)

/-- A line is present (R158): a consumable line while its slot holds a live additive or a figure is not 0,
any other line always. -/
def State.linePresent (s : State) (j : Job) (line : Fin 40) : Bool :=
  if h : 18 ≤ line.val ∧ line.val < 34 then
    (s.additive? ⟨line.val - 18, by omega⟩).isSome || j.sheet[line].settled != 0
      || j.sheet[line].unsettled != 0 || j.sheet[line].amount != 0
  else true

/-! ### Settlement (R171) -/

/-- Settling one line (R171). A line with nothing unsettled is left as it was and raises nothing; otherwise
AMOUNT_SATURATED, kind SETTLED, is raised when the increment saturated or a sum reached a limit (log 24). -/
def State.settleLine (i : Fin 4) (line : Fin 40) (s : State) : State :=
  match s.job? i with
  | none => s
  | some j =>
    let l := j.sheet[line]
    if l.unsettled = 0 then s
    else
      let raw := rawAmount line (s.linePrice j line) l.unsettled
      let l' : Line :=
        { settled := clampLine (l.settled + l.unsettled), unsettled := 0
          amount := clampLine (l.amount + clampLine raw) }
      let s' := s.setJob i { j with sheet := j.sheet.set line l' }
      if clampLine raw ≠ raw ∨ atLimit l'.settled ∨ atLimit l'.amount then
        s'.raise .amountSaturated (.saturated (s.jobHandle i) line .settled)
      else s'

/-- A settlement: every line from 1 to 40 in turn, then the settlement mark becomes the hole depth (R171). -/
def State.settle (i : Fin 4) (s : State) : State :=
  ((List.finRange 40).foldl (fun s line => s.settleLine i line) s).modifyJob i
    fun j => { j with settleMark := j.holeDepth }

/-! ### Minutes (R164) -/

/-- The activity classes, in the order of lines 13 to 18 (R158). -/
inductive Activity where
  | drilling | circulating | tripping | idle | standby | down
deriving DecidableEq, Repr

/-- The line of an activity class (R158). -/
def Activity.line : Activity → Fin 40
  | .drilling => 12 | .circulating => 13 | .tripping => 14 | .idle => 15 | .standby => 16 | .down => 17

/-- The class of the minute that has ended, by the first row of R164's table that holds. -/
def State.classifyMinute (s : State) (j : Job) : Activity :=
  if s.mode.mode = .standby ∨ s.mode.mode = .waking then .standby
  else if j.down then .down
  else if s.drilling then .drilling
  else if s.engine.tripping || s.engine.op.isSome then .tripping
  else if s.pumps.circ ≠ .stopped then .circulating
  else .idle

/-- A drilled minute goes to the deepest interval (R157). -/
def creditMinute : List Interval → List Interval
  | [] => []
  | [iv] => [{ iv with minutes := satAdd32 iv.minutes 1 }]
  | iv :: rest => iv :: creditMinute rest

/-- The Job Sheet's part of a minute expiry: classify and bill the minute of the ACTIVE job (R164), credit a
DRILLING minute to its column (R157), then clear the drilling mark, and the tripping mark unless an
operation is in flight, whether or not a job is ACTIVE (R163, R57). -/
def State.sheetMinute (s : State) : State :=
  let billed :=
    match s.active? with
    | none => s
    | some i =>
      match s.job? i with
      | none => s
      | some j =>
        let c := s.classifyMinute j
        let s' := s.addUnsettled i c.line 1
        if c = Activity.drilling then s'.modifyJob i fun j => { j with column := creditMinute j.column } else s'
  { billed with
    drilling := false
    engine := { billed.engine with tripping := billed.engine.tripping && billed.engine.op.isSome } }

end Sys2Proof.Machine
end

