-- ==== Sys2Proof/Machine/ColumnOps.lean ====
section
/-! DEFINITION. The Strata Column's operations (spec/09): the range-application procedure on a list of
intervals (split, capacity merge, set, join), extension by new hole, and the marks of the other blocks. -/

namespace Sys2Proof.Machine

/-! ### Intervals -/

/-- The most intervals a column holds (R140). -/
def columnLimit : Nat := 96

/-- The interval's thickness. -/
def Interval.thickness (iv : Interval) : Nat := iv.bottom - iv.top

/-- The interval lies inside [a, b), a deepest interval of no thickness at `b` among them (R146, R145). -/
def Interval.inside (a b : Nat) (iv : Interval) : Bool := a ≤ iv.top && iv.bottom ≤ b

/-- The range [a, b) wholly covers the interval, which has positive thickness (R149). -/
def Interval.covered (a b : Nat) (iv : Interval) : Bool := iv.inside a b && iv.top < iv.bottom

/-- The depth of the column's bottom (R140). -/
def columnBottom (col : List Interval) : Nat := (col.getLast?.map Interval.bottom).getD 0

/-- The place of the containing interval of a depth (R141): the interval around it, or the deepest. -/
def containing (d : Nat) (col : List Interval) : Nat :=
  (col.findIdx? fun iv => iv.top ≤ d && d < iv.bottom).getD (col.length - 1)

/-! ### Splits (R147) -/

/-- A depth strictly within an interval. -/
def Interval.splitAt (s : Nat) (iv : Interval) : Bool := iv.top < s && s < iv.bottom

/-- A split of one interval at `s`, its drilled minutes shared (R147). -/
def Interval.split (s : Nat) (iv : Interval) : List Interval :=
  if iv.splitAt s then
    let upper := iv.minutes * (s - iv.top) / (iv.bottom - iv.top)
    [{ iv with bottom := s, minutes := upper }, { iv with top := s, minutes := iv.minutes - upper }]
  else [iv]

/-- The splits at both ends of a range: at `a` first, then at `b` (R147). -/
def splitRange (a b : Nat) (col : List Interval) : List Interval :=
  (col.flatMap (Interval.split a)).flatMap (Interval.split b)

/-- The splits a range needs: 0, 1 or 2 (R146). -/
def splitsNeeded (a b : Nat) (col : List Interval) : Nat :=
  (col.any (Interval.splitAt a)).toNat + (col.any (Interval.splitAt b)).toNat

/-! ### Capacity merges (R148) -/

/-- A capacity merge of two neighbours. -/
def mergeIntervals (u l : Interval) : Interval :=
  let main := if u.thickness < l.thickness then l else u
  let other := if u.thickness < l.thickness then u else l
  { top := u.top, bottom := l.bottom, lith := main.lith, cls := u.cls, source := main.source
    status := main.status, lossZone := u.lossZone || l.lossZone, water := u.water || l.water
    merged := true, yield := main.yield <|> other.yield, minutes := satAdd32 u.minutes l.minutes }

/-- The eligible pairs: neighbours of one class, neither the deepest, as the place of the upper one and the
combined thickness, from the shallowest down. -/
def eligiblePairs : Nat → List Interval → List (Nat × Nat)
  | k, u :: l :: below :: rest =>
    let deeper := eligiblePairs (k + 1) (l :: below :: rest)
    if u.cls = l.cls then (k, l.bottom - u.top) :: deeper else deeper
  | _, _ => []

/-- The pair to merge: the smallest combined thickness, the shallowest of equals. -/
def bestPair : List (Nat × Nat) → Option (Nat × Nat)
  | [] => none
  | p :: rest =>
    match bestPair rest with
    | none => some p
    | some q => if q.2 < p.2 then some q else some p

/-- Merging the interval at a place with the next. -/
def mergeAt : Nat → List Interval → List Interval
  | 0, u :: l :: rest => mergeIntervals u l :: rest
  | k + 1, u :: rest => u :: mergeAt k rest
  | _, col => col

/-- One capacity merge; none when no pair is eligible. -/
def capacityMerge (col : List Interval) : Option (List Interval) :=
  (bestPair (eligiblePairs 0 col)).map fun p => mergeAt p.1 col

/-- Seeking room by merges one after another until `need` of the column fits its free intervals; none when
no pair is left. The fuel is the number of merges a column can make. -/
def seekRoom (need : List Interval → Nat) : Nat → List Interval → Option (List Interval)
  | 0, col => if need col ≤ columnLimit - col.length then some col else none
  | fuel + 1, col =>
    if need col ≤ columnLimit - col.length then some col
    else (capacityMerge col).bind (seekRoom need fuel)

/-! ### Joins (R150) -/

/-- Two intervals agree in everything a join looks at. -/
def identical (u l : Interval) : Bool :=
  u.lith == l.lith && u.cls == l.cls && u.source == l.source && u.status == l.status
    && u.lossZone == l.lossZone && u.water == l.water && u.merged == l.merged && u.yield == l.yield

/-- The join of an identical pair. -/
def joinPair (u l : Interval) : Interval :=
  { u with bottom := l.bottom, minutes := satAdd32 u.minutes l.minutes }

/-- Joins from the top down: `cur` is the interval in hand and `touched` says that it lies in the range or
is itself a join; a further identical neighbour of a join is joined in turn (log 25). -/
def joinFrom (cur : Interval) (touched : Bool) : List (Interval × Bool) → List Interval
  | [] => [cur]
  | (l, t) :: rest =>
    if identical cur l && (touched || t) then joinFrom (joinPair cur l) true rest
    else cur :: joinFrom l t rest

/-- Joining every identical pair of which at least one interval is marked. -/
def joinMarked : List (Interval × Bool) → List Interval
  | [] => []
  | (u, t) :: rest => joinFrom u t rest

/-- The joins of a range application over [a, b). -/
def joinRange (a b : Nat) (col : List Interval) : List Interval :=
  joinMarked (col.map fun iv => (iv, iv.inside a b))

/-! ### Range application (R146) -/

/-- The three kinds of change over a range (spec/09, 9.5). -/
inductive RangeChange where
  | sample (lith : Fin 64) (yield : Option Nat)
  | mark (status : CutStatus)
  | revise (lith : Fin 64)
deriving DecidableEq, Repr

/-- The fields a change sets on an interval inside the range (R146). -/
def RangeChange.set (table : Vector LithEntry 64) (iv : Interval) : RangeChange → Interval
  | .sample lith none => { iv with lith := lith, cls := table[lith].cls, source := .sample, status := .sampled }
  | .sample lith (some y) =>
    { iv with
      lith := lith, cls := table[lith].cls, source := .sample, status := .sampled, water := true, yield := some y }
  | .mark status => { iv with status := status }
  | .revise lith => { iv with lith := lith, cls := table[lith].cls, source := .revised }

/-- A class change handed to the Job Sheet (R151). -/
structure ClassChange where
  top    : Nat
  bottom : Nat
  old    : RockClass
  new    : RockClass
deriving DecidableEq, Repr

/-- The class changes of an application, from the shallowest down, each as set and before any join (R151). -/
def classChanges (table : Vector LithEntry 64) (c : RangeChange) (a b : Nat) (col : List Interval) :
    List ClassChange :=
  col.filterMap fun iv =>
    if iv.inside a b && (c.set table iv).cls != iv.cls then
      some ⟨iv.top, iv.bottom, iv.cls, (c.set table iv).cls⟩
    else none

/-- Setting the intervals that `sets` names and joining over [a, b) (R146, R150). -/
def setAndJoin (table : Vector LithEntry 64) (c : RangeChange) (sets : Interval → Bool) (a b : Nat)
    (col : List Interval) : List Interval :=
  joinRange a b (col.map fun iv => if sets iv then c.set table iv else iv)

/-- A range application made in full: the new column and its class changes; none when room cannot be found
(R146, R148). -/
def applyRange (table : Vector LithEntry 64) (c : RangeChange) (a b : Nat) (col : List Interval) :
    Option (List Interval × List ClassChange) :=
  (seekRoom (splitsNeeded a b) columnLimit col).map fun roomy =>
    let whole := splitRange a b roomy
    (setAndJoin table c (Interval.inside a b) a b whole, classChanges table c a b whole)

/-! ### On the state -/

/-- Writing a job's column. -/
def State.setColumn (i : Fin 4) (col : List Interval) (s : State) : State :=
  s.modifyJob i fun j => { j with column := col }

/-- Handing class changes to the Job Sheet, in order (R151, R162). -/
def State.moveChanges (i : Fin 4) (changes : List ClassChange) (s : State) : State :=
  changes.foldl (fun s c => s.moveFootage i c.top c.bottom c.old c.new) s

/-- A sample binding or a revision of a job's column: none when it is refused COLUMN_FULL (R149). -/
def State.bindRange (i : Fin 4) (c : RangeChange) (a b : Nat) (s : State) : Option State :=
  (s.job? i).bind fun j =>
    (applyRange s.lith c a b j.column).map fun r => (s.setColumn i r.1).moveChanges i r.2

/-- An extension of the column to `h1` (R143, R144): the deepest interval grows, takes the declared rock, or
a new one is appended, by a capacity merge when the column is full, or with MERGED and COLUMN_FULL when no
merge is left; then the footage of the new range is handed on in the deepest interval's class. -/
def State.extendColumn (i : Fin 4) (h1 : Nat) (s : State) : State :=
  match s.job? i with
  | none => s
  | some j =>
    match j.column.getLast? with
    | none => s
    | some deepest =>
      let b := deepest.bottom
      if h1 ≤ b then s
      else
        let cls := s.lith[j.declared].cls
        let fresh : Interval :=
          { top := b, bottom := h1, lith := j.declared, cls := cls, source := .driller, status := .pending
            lossZone := false, water := false, merged := false, yield := none, minutes := 0 }
        if deepest.status = .pending ∧ deepest.source = .driller ∧ deepest.lith = j.declared then
          (s.setColumn i (j.column.dropLast ++ [{ deepest with bottom := h1 }])).accrueFootage i b h1 deepest.cls
        else if deepest.top = deepest.bottom then
          (s.setColumn i (j.column.dropLast ++
            [{ deepest with
               lith := j.declared, cls := cls, source := .driller, status := .pending, bottom := h1 }])).accrueFootage
            i b h1 cls
        else
          match seekRoom (fun _ => 1) columnLimit j.column with
          | some roomy => (s.setColumn i (roomy ++ [fresh])).accrueFootage i b h1 cls
          | none =>
            ((s.setColumn i (j.column.dropLast ++ [{ deepest with bottom := h1, merged := true }])).raise
              .columnFull (.columnFull (s.jobHandle i) .extension b h1)).accrueFootage i b h1 deepest.cls

/-- The kind COLUMN_FULL gives a status mark (R149). -/
def markKind : CutStatus → FullKind
  | .noReturns => .noReturns
  | _ => .notSampled

/-- A status mark over [a, b) (R138, R152, R149): the column first extends when the range reaches below its
bottom; a mark without room for its splits takes the wholly covered intervals and raises COLUMN_FULL. -/
def State.markRange (i : Fin 4) (status : CutStatus) (a b : Nat) (s : State) : State :=
  let s := s.extendColumn i b
  match s.job? i with
  | none => s
  | some j =>
    match applyRange s.lith (.mark status) a b j.column with
    | some r => s.setColumn i r.1
    | none =>
      (s.setColumn i (setAndJoin s.lith (.mark status) (Interval.covered a b) a b j.column)).raise .columnFull
        (.columnFull (s.jobHandle i) (markKind status) a b)

/-- A flag mark on the containing interval of a depth, then its joins (R150, R155, R156). -/
def markContaining (d : Nat) (f : Interval → Interval) (col : List Interval) : List Interval :=
  let k := containing d col
  joinMarked (col.mapIdx fun n iv => if n = k then (f iv, true) else (iv, false))

end Sys2Proof.Machine
end

