-- ==== Sys2Proof/Machine/LagOps.lean ====
section
/-! DEFINITION. The Lag Calculator (spec/07): capacities, the cutting of the hole into pieces, lag volumes
and hole-fill. It keeps no state. -/

namespace Sys2Proof.Machine

/-- The annular capacity of a hole of diameter `D` around pipe of OD `d`, in mL per metre (R114). -/
def annularCapacity (D d : Nat) : Nat := if d < D then (D * D - d * d) * 785 / 1000 else 0

/-- The hole capacity of a diameter, in mL per metre (R114). -/
def holeCapacity (D : Nat) : Nat := D * D * 785 / 1000

/-- The diameter of the section containing a depth: the entry with the greatest top not deeper (R112). -/
def diameterAt (sections : List Section) (y : Nat) : Nat :=
  (((sections.filter fun e => e.top ≤ y).getLast?).map Section.diameter).getD 0

/-- Placing a cut in a rising list of cuts; a depth where two cuts coincide is one cut (R115). -/
def addCut (t : Nat) : List Nat → List Nat
  | [] => [t]
  | c :: rest => if t < c then t :: c :: rest else if t = c then c :: rest else c :: addCut t rest

/-- The section tops that lie strictly between two depths, in order (R115, R120). -/
def topsBetween (sections : List Section) (lo hi : Nat) : List Nat :=
  (sections.map Section.top).foldr (fun t cuts => if lo < t ∧ t < hi then addCut t cuts else cuts) []

/-- The ranges that cuts leave of [a, z). -/
def rangesOf (a z : Nat) : List Nat → List (Nat × Nat)
  | [] => if a < z then [(a, z)] else []
  | c :: rest => (a, c) :: rangesOf c z rest

/-- A piece of annulus (R116). -/
structure Piece where
  top      : Nat
  bottom   : Nat
  diameter : Nat
  od       : Nat
  capacity : Nat
  term     : Nat
deriving DecidableEq, Repr

/-- The BHA top of a depth: the greater of 0 and the depth less the BHA length (R115). -/
def bhaTop (bha : Bha) (z : Nat) : Nat := z - bha.length

/-- The pieces of [0, z), from the surface down, cut at the section tops and the BHA top (R115, R116). -/
def lagPieces (sections : List Section) (bha : Bha) (rodOd z : Nat) : List Piece :=
  let t := bhaTop bha z
  let tops := topsBetween sections 0 z
  let cuts := if 0 < t ∧ t < z then addCut t tops else tops
  (rangesOf 0 z cuts).map fun r =>
    let D := diameterAt sections r.1
    let d := if t ≤ r.1 then bha.od else rodOd
    let c := annularCapacity D d
    { top := r.1, bottom := r.2, diameter := D, od := d, capacity := c, term := c * (r.2 - r.1) / 100 }

/-- The pieces of a job's hole above a depth, from the job's records as they stand (R112). -/
def State.pieces (s : State) (j : Job) (z : Nat) : List Piece :=
  lagPieces j.sections j.bha s.roster.types[j.rodType].od z

/-- The lag volume of a depth: the terms of its pieces and the surface line volume, saturating (R117). -/
def State.lag (s : State) (j : Job) (z : Nat) : Nat :=
  min (((s.pieces j z).map Piece.term).sum + s.transit.surfaceLine) max32

/-- The hole-fill of [h0, h1), in mL·cm/m, without rounding (R120). -/
def holeFill (sections : List Section) (h0 h1 : Nat) : Nat :=
  ((rangesOf h0 h1 (topsBetween sections h0 h1)).map fun r =>
    holeCapacity (diameterAt sections r.1) * (r.2 - r.1)).sum

/-- The strokes to surface of a pump: the smallest k for which k times its vps is at or above the lag
(R119). -/
def strokesToSurface (vps lag : Nat) : Nat := (lag + vps - 1) / vps

end Sys2Proof.Machine
end

