-- ==== Sys2Proof/Machine/TransitOps.lean ====
section
/-! DEFINITION. The Transit List's operations (spec/08): births and merges, advance and arrival, the
recompute, the total-loss wipe and the giving up of the list. -/

namespace Sys2Proof.Machine

/-- The most parcels the list holds (R125). -/
def parcelLimit : Nat := 48

/-- The most ARRIVED parcels (R125). -/
def arrivedLimit : Nat := 4

/-- The number of ARRIVED parcels. -/
def arrivedCount (ps : List Parcel) : Nat := (ps.filter Parcel.arrived).length

/-- Writing the parcel list. -/
def State.setParcels (ps : List Parcel) (s : State) : State :=
  { s with transit := { s.transit with parcels := ps } }

/-- A birth merged into the youngest parcel of a full list (R129). -/
def State.mergeBirth (j : Job) (bottom ordinal : Nat) (s : State) : State :=
  match s.transit.parcels.getLast? with
  | none => s
  | some y =>
    (s.setParcels (s.transit.parcels.dropLast ++
      [{ y with bottom := bottom, lag := s.lag j bottom, merged := true }])).raise .transitMerged
        (.merged y.ordinal y.top bottom ordinal)

/-- The birth of the forming parcel of the ACTIVE job in slot `i` (R128): the counter rises, the forming top
moves to the hole depth, and the range is marked NO_RETURNS in TOTAL, merged into a full list, or
listed. -/
def State.birth (i : Fin 4) (s : State) : State :=
  match s.job? i, s.transit.formingTop with
  | some j, some top =>
    let ordinal := wrap32 (s.transit.births + 1)
    let s' : State :=
      { s with transit := { s.transit with births := ordinal, formingTop := some j.holeDepth } }
    if s.tanks.lossClass = .total then s'.markRange i .noReturns top j.holeDepth
    else if parcelLimit ≤ s.transit.parcels.length then s'.mergeBirth j j.holeDepth ordinal
    else
      s'.setParcels (s.transit.parcels ++
        [{ ordinal := ordinal, top := top, bottom := j.holeDepth, lag := s.lag j j.holeDepth, advanced := 0
           arrived := false, merged := false }])
  | _, _ => s

/-- The length of the forming parcel of the job in slot `i` (R127). -/
def State.formingLength (i : Fin 4) (s : State) : Nat :=
  match s.job? i, s.transit.formingTop with
  | some j, some top => j.holeDepth - top
  | _, _ => 0

/-- A birth at an event other than new hole: only when the forming parcel is at least 1 cm (R127). -/
def State.closeForming (i : Fin 4) (s : State) : State :=
  if 1 ≤ s.formingLength i then s.birth i else s

/-- The Transit List's part of new hole: a birth when the forming parcel has reached the parcel step and is
at least 1 cm (R127). -/
def State.growForming (i : Fin 4) (s : State) : State :=
  if 1 ≤ s.formingLength i ∧ s.transit.step ≤ s.formingLength i then s.birth i else s

/-- The oldest IN_TRANSIT parcel becomes ARRIVED. -/
def arriveFirst : List Parcel → List Parcel
  | [] => []
  | p :: rest => if p.arrived then p :: arriveFirst rest else { p with arrived := true } :: rest

/-- Room at the shaker for an arrival (R132): with four ARRIVED, the oldest parcel is dropped, its range
marked NOT_SAMPLED and SAMPLE_DROPPED raised. -/
def State.dropOldest (i : Fin 4) (s : State) : State :=
  if arrivedCount s.transit.parcels < arrivedLimit then s
  else
    match s.transit.parcels with
    | [] => s
    | p :: rest =>
      ((s.setParcels rest).markRange i .notSampled p.top p.bottom).raise .sampleDropped
        (.dropped p.ordinal p.top p.bottom)

/-- One arrival (R132). -/
def State.arrive (i : Fin 4) (p : Parcel) (s : State) : State :=
  let s := s.dropOldest i
  (s.setParcels (arriveFirst s.transit.parcels)).raise .parcelArrived (.arrived p.ordinal p.top p.bottom p.merged)

/-- The arrival test (R131): while the oldest IN_TRANSIT parcel has reached its lag it arrives, and the walk
goes on; it ends at the first that has not. The fuel is the number of parcels. -/
def State.arrivalTest (i : Fin 4) : Nat → State → State
  | 0, s => s
  | fuel + 1, s =>
    match s.transit.parcels.find? fun p => !p.arrived with
    | none => s
    | some p => if p.lag ≤ p.advanced then State.arrivalTest i fuel (s.arrive i p) else s

/-- The volume of one stroke advances every parcel in transit, and the arrival test is made (R130). -/
def State.advanceParcels (vps : Nat) (s : State) : State :=
  match s.active? with
  | none => s
  | some i =>
    let ps := s.transit.parcels.map fun p =>
      if p.arrived then p else { p with advanced := satAdd32 p.advanced vps }
    State.arrivalTest i ps.length (s.setParcels ps)

/-- The recompute at an entry into OPERATE with the geometry mark set: new lags for the parcels in transit,
then the arrival test (R133). -/
def State.recompute (s : State) : State :=
  match s.active? with
  | none => s
  | some i =>
    match s.job? i with
    | none => s
    | some j =>
      let ps := s.transit.parcels.map fun p => if p.arrived then p else { p with lag := s.lag j p.bottom }
      State.arrivalTest i ps.length (s.setParcels ps)

/-- Marking the ranges of parcels, oldest first. -/
def State.markParcels (i : Fin 4) (status : CutStatus) (ps : List Parcel) (s : State) : State :=
  ps.foldl (fun s p => s.markRange i status p.top p.bottom) s

/-- The wipe on entering TOTAL: every parcel in transit leaves the list, its range marked NO_RETURNS; the
ARRIVED parcels and the forming parcel stay (R134). -/
def State.wipe (s : State) : State :=
  match s.active? with
  | none => s
  | some i =>
    (s.setParcels (s.transit.parcels.filter Parcel.arrived)).markParcels i .noReturns
      (s.transit.parcels.filter fun p => !p.arrived)

/-- The list given up at suspension: every parcel, oldest first, then the forming parcel, marked
NOT_SAMPLED; the list is empty and there is no forming top (R19, R135). -/
def State.giveUpParcels (i : Fin 4) (s : State) : State :=
  let marked := (s.setParcels []).markParcels i .notSampled s.transit.parcels
  let formed :=
    match s.job? i, s.transit.formingTop with
    | some j, some top => if top < j.holeDepth then marked.markRange i .notSampled top j.holeDepth else marked
    | _, _ => marked
  { formed with transit := { formed.transit with formingTop := none } }

/-- The list started at activation: empty, the forming top at the job's hole depth (R18, R127). -/
def State.startParcels (holeDepth : Nat) (s : State) : State :=
  { s with transit := { s.transit with parcels := [], formingTop := some holeDepth } }

/-- The oldest ARRIVED parcel (R136). -/
def State.oldestArrived (s : State) : Option Parcel := s.transit.parcels.find? Parcel.arrived

/-- The list without its oldest ARRIVED parcel. -/
def removeArrived : List Parcel → List Parcel
  | [] => []
  | p :: rest => if p.arrived then rest else p :: removeArrived rest

end Sys2Proof.Machine
end

