-- ==== Sys2Proof/Machine/PumpOps.lean ====
section
/-! DEFINITION. The Pump Controller's operations (spec/05): vps, ceilings in force and clamps, ramps, the
circulation states and the still timer. -/

namespace Sys2Proof.Machine

/-! ### Records -/

/-- The volume per stroke of a pump (R78). -/
def vpsOf (displacement efficiency : Nat) : Nat := displacement * efficiency / 100

/-- The ceiling in force of a pump under a suction condition (R81). -/
def ceilingFor (condition : Suction) (holdRate ceiling : Nat) : Nat :=
  match condition with
  | .normal => ceiling
  | .low => min ceiling holdRate
  | .empty => 0

/-- The ramp timer after a change of target (R84): stopped when the setpoint equals the target, started when
it was stopped, and left running otherwise. -/
def PumpRec.retime (r : PumpRec) : PumpRec :=
  if r.setpoint = r.target then { r with rampTimer := none }
  else if r.rampTimer = none then { r with rampTimer := some r.rampInterval }
  else r

/-- A change of target (R84). -/
def PumpRec.aim (r : PumpRec) (target : Nat) : PumpRec := ({ r with target := target }).retime

/-- The clamps of a ceiling in force that falls (R82): the setpoint and the target come down to it, and a
timer whose setpoint now equals its target stops. -/
def PumpRec.clampTo (r : PumpRec) (ceiling : Nat) : PumpRec :=
  let r' : PumpRec :=
    { r with inForce := ceiling, setpoint := min r.setpoint ceiling, target := min r.target ceiling }
  if r'.setpoint = r'.target then { r' with rampTimer := none } else r'

/-- A new ceiling in force: the clamps when it falls, nothing else when it rises (R81, R82). -/
def PumpRec.withCeiling (r : PumpRec) (ceiling : Nat) : PumpRec :=
  if ceiling < r.inForce then r.clampTo ceiling else { r with inForce := ceiling }

/-- A value moved toward a target by at most a step (R84). -/
def approach (setpoint target step : Nat) : Nat :=
  if setpoint ≤ target then min target (setpoint + step) else max target (setpoint - step)

/-- A ramp expiry (R84): the setpoint moves, and the timer stops at the target or starts again. -/
def PumpRec.ramp (r : PumpRec) : PumpRec :=
  let setpoint := approach r.setpoint r.target r.rampStep
  { r with
    setpoint := setpoint
    rampTimer := if setpoint = r.target then none else some r.rampInterval }

/-- A pump's ramp timer at a second expiry: a running count falls by 1, and at 0 the ramp expires (R84). -/
def PumpRec.tick (r : PumpRec) : PumpRec :=
  match r.rampTimer with
  | none => r
  | some n => if n ≤ 1 then r.ramp else { r with rampTimer := some (n - 1) }

/-- The initial pump record with a given ceiling in force and its stroke count zeroed (R76, R91). -/
def PumpRec.fresh (condition : Suction) : PumpRec :=
  { PumpRec.initial with inForce := ceilingFor condition 20 PumpRec.initial.ceiling }

/-- Both targets are 0. -/
def PumpCtl.targetsZero (c : PumpCtl) : Bool := c.p1.target == 0 && c.p2.target == 0

/-- Both setpoints are 0. -/
def PumpCtl.setpointsZero (c : PumpCtl) : Bool := c.p1.setpoint == 0 && c.p2.setpoint == 0

/-- Circulation enters STOPPING and the still timer starts (R86). -/
def PumpCtl.beginStop (c : PumpCtl) : PumpCtl := { c with circ := .stopping, still := some c.stillHold }

/-- Circulation is RUNNING and the still timer stopped (R86). -/
def PumpCtl.run (c : PumpCtl) : PumpCtl := { c with circ := .running, still := none }

/-- The ceilings in force worked out anew under a suction condition (R81); a fall that leaves both targets
at 0 while circulation is RUNNING begins the stop handshake (R82, log 21). -/
def PumpCtl.rework (condition : Suction) (c : PumpCtl) : PumpCtl :=
  let new1 := ceilingFor condition c.holdRate c.p1.ceiling
  let new2 := ceilingFor condition c.holdRate c.p2.ceiling
  let c' : PumpCtl := { c with p1 := c.p1.withCeiling new1, p2 := c.p2.withCeiling new2 }
  if (new1 < c.p1.inForce ∨ new2 < c.p2.inForce) ∧ c'.targetsZero ∧ c'.circ = .running then c'.beginStop
  else c'

/-- One pump's ceiling in force worked out anew, its own ceiling changed (R77, R81, R82). -/
def PumpCtl.reworkPump (condition : Suction) (p : Pump) (c : PumpCtl) : PumpCtl :=
  let r := c.pump p
  let new := ceilingFor condition c.holdRate r.ceiling
  let c' := c.setPump p (r.withCeiling new)
  if new < r.inForce ∧ c'.targetsZero ∧ c'.circ = .running then c'.beginStop else c'

/-! ### On the state -/

/-- Writing the Pump Controller. -/
def State.setPumps (c : PumpCtl) (s : State) : State := { s with pumps := c }

/-- Circulation leaves STOPPED (R79, R83): RUNNING, and the arbiter is told. -/
def State.startCirculation (event : BreachEvent) (p : Pump) (s : State) : State :=
  (s.setPumps s.pumps.run).leftStopped event p

/-- What a stroke does to circulation (R79). -/
def State.strokeCirculation (p : Pump) (s : State) : State :=
  match s.pumps.circ with
  | .stopped => (s.startCirculation .stroke p).raise .uncommandedPump (.pump p)
  | .running => s
  | .stopping => s.setPumps { s.pumps with still := some s.pumps.stillHold }

/-- The Pump Controller's count of a stroke: the stroke count wraps, the circulation total saturates
(R79). -/
def PumpCtl.countStroke (c : PumpCtl) (p : Pump) : PumpCtl :=
  let r := c.pump p
  { c.setPump p { r with strokes := wrap32 (r.strokes + 1) } with total := satAdd32 c.total r.vps }

/-- What a new target does to circulation (R83). -/
def State.targetCirculation (p : Pump) (target : Nat) (s : State) : State :=
  match s.pumps.circ with
  | .stopped => if 0 < target then s.startCirculation .target p else s
  | .running => if s.pumps.targetsZero then s.setPumps s.pumps.beginStop else s
  | .stopping => if 0 < target then s.setPumps s.pumps.run else s

/-- A still expiry (R86): STOPPED with CIRC_STOPPED when both setpoints are 0, the arbiter testing for a
grant, and a restart otherwise. -/
def State.stillExpiry (s : State) : State :=
  if s.pumps.setpointsZero then
    ((s.setPumps { s.pumps with circ := .stopped, still := none }).raise .circStopped
      (.volume s.pumps.total)).grantTest
  else s.setPumps { s.pumps with still := some s.pumps.stillHold }

/-- The still timer at a second expiry: a running count falls by 1, and at 0 it expires (R86). -/
def State.stillTick (s : State) : State :=
  match s.pumps.still with
  | none => s
  | some n => if n ≤ 1 then s.stillExpiry else s.setPumps { s.pumps with still := some (n - 1) }

/-- The Pump Controller's service of a second expiry, in R88's order: the ramp timers, the test of R87,
then the still timer, which a start at this expiry leaves uncounted. -/
def State.pumpSecond (s : State) : State :=
  let s := s.setPumps { s.pumps with p1 := s.pumps.p1.tick, p2 := s.pumps.p2.tick }
  if s.pumps.circ = .running ∧ s.pumps.targetsZero then s.setPumps s.pumps.beginStop else s.stillTick

/-- The Pump Controller at power-up, under the suction condition the tanks come up with (R90). -/
def PumpCtl.powerUp (condition : Suction) (c : PumpCtl) : PumpCtl :=
  let up (r : PumpRec) : PumpRec :=
    { r with target := 0, setpoint := 0, rampTimer := none, inForce := ceilingFor condition c.holdRate r.ceiling }
  { c with p1 := up c.p1, p2 := up c.p2, circ := .stopping, still := some c.stillHold }

end Sys2Proof.Machine
end

