-- ==== Sys2Proof/Machine/TankOps.lean ====
section
/-! DEFINITION. The Tank and Balance Unit's operations (spec/06): the suction test and the swap, standby
readiness, the balance reading, changes of loss class and the return-flow filter. -/

namespace Sys2Proof.Machine

/-- Writing the Tank and Balance Unit. -/
def State.setTanks (u : TankUnit) (s : State) : State := { s with tanks := u }

/-! ### Loss classes (R108, R109) -/

/-- A yield worked out from a loss below 0 over the elapsed seconds (R109). -/
def gainYield (loss : Int) (elapsed : Nat) : Nat :=
  if elapsed = 0 then 0 else min ((-loss).toNat * 60 / (elapsed * 1000)) 65535

/-- The mark a change of loss class makes on the interval at the bit (R109, R156). -/
def lossMark (old new : LossClass) (yield : Nat) : Option (Interval → Interval) :=
  match new with
  | .severe => if old = .total then none else some fun iv => { iv with lossZone := true }
  | .total => if old = .severe then none else some fun iv => { iv with lossZone := true }
  | .gain => some fun iv => { iv with water := true, yield := iv.yield <|> some yield }
  | _ => none

/-- Handing a mark to the ACTIVE job's column, at the interval containing the bit depth (R156). -/
def State.markBit (f : Interval → Interval) (s : State) : State :=
  match s.active? with
  | none => s
  | some i => s.modifyJob i fun j => { j with column := markContaining j.bitDepth f j.column }

/-- The loss class becomes `new` (R109): a class already held changes nothing; otherwise LOSS_CLASS is
raised, the Transit List wipes on entering TOTAL (R134), and the column is marked. -/
def State.changeLoss (new : LossClass) (yield : Nat) (s : State) : State :=
  if new = s.tanks.lossClass then s
  else
    let old := s.tanks.lossClass
    let s := (s.setTanks { s.tanks with lossClass := new }).raise .lossClass
      (.loss new (s.activeJob?.map Job.bitDepth))
    let s := if new = .total then s.wipe else s
    match lossMark old new yield with
    | none => s
    | some f => s.markBit f

/-- The class a loss is classified as (R108). -/
def TankUnit.classify (u : TankUnit) (loss : Int) : LossClass :=
  if loss ≤ -((u.gain * 1000 : Nat) : Int) then .gain
  else if ((u.severe * 1000 : Nat) : Int) ≤ loss then .severe
  else if ((u.seepage * 1000 : Nat) : Int) ≤ loss then .seepage
  else .normal

/-! ### The balance reading (R107) -/

/-- The result of a reading applied to the loss class, which TOTAL does not let it move (R108). -/
def State.classifyReading (loss : Int) (s : State) : State :=
  if s.tanks.lossClass = .total then s
  else s.changeLoss (s.tanks.classify loss) (gainYield loss s.tanks.elapsed)

/-- The billing of a loss above 0: whole litres to the ACTIVE job's lost-mud line, the rest kept (R107,
R167). -/
def State.billLoss (loss : Int) (s : State) : State :=
  if loss ≤ 0 then s
  else
    let total := s.tanks.remainder + loss.toNat
    let s := s.setTanks { s.tanks with remainder := total % 1000 }
    match s.active? with
    | none => s
    | some i => s.addUnsettled i lostMudLine (total / 1000 : Nat)

/-- A balance reading with a measured volume (R107); without a valid reference there is none. -/
def State.reading (measured : Nat) (s : State) : State :=
  match s.tanks.reference with
  | none => s
  | some reference =>
    let expected : Int := (reference : Int) + s.tanks.additions - (s.tanks.fill / 100 : Nat)
    let loss := expected - measured
    let s := s.setTanks { s.tanks with fill := s.tanks.fill % 100 }
    let s := (s.classifyReading loss).billLoss loss
    s.setTanks { s.tanks with reference := some measured, additions := 0, elapsed := 0 }

/-- The balance period in seconds (R105). -/
def TankUnit.period (u : TankUnit) : Nat := u.coarse * 480 + (u.fine + 1) * 30

/-- The balance's service of a second expiry (R105): while the reference is valid the elapsed count rises,
and a count that has reached the period brings a reading of the ACTIVE tank. -/
def State.balanceSecond (s : State) : State :=
  if s.tanks.reference.isNone then s
  else
    let s := s.setTanks { s.tanks with elapsed := s.tanks.elapsed + 1 }
    if s.tanks.period ≤ s.tanks.elapsed then s.reading s.tanks.activeTank.volume else s

/-! ### Suction, standby state and swaps (R95 to R97) -/

/-- The suction condition of a tank's volume (R96). -/
def Tank.suction (t : Tank) : Suction :=
  if t.volume ≤ t.empty * 1000 then .empty else if t.volume ≤ t.low * 1000 then .low else .normal

/-- The condition decided by the ACTIVE tank (R96): a change is handed to the Pump Controller and raises
LOW_SUCTION or SUCTION_EMPTY. -/
def State.decideSuction (s : State) : State :=
  let t := s.tanks.activeTank
  let condition := t.suction
  if condition = s.tanks.condition then s
  else
    let s := s.setTanks { s.tanks with condition := condition }
    let s := match condition with
      | .normal => s
      | .low => s.raise .lowSuction (.suction s.tanks.active (t.volume / 1000))
      | .empty => s.raise .suctionEmpty (.suction s.tanks.active (t.volume / 1000))
    s.setPumps (s.pumps.rework condition)

/-- The standby state worked out from the STANDBY tank's volume and mix hold (R95). -/
def TankUnit.workStandby (u : TankUnit) : StandbyState :=
  let t := u.standbyTank
  if t.volume < t.ready * 1000 then .filling else if u.mixCount.isSome then .mixing else .ready

/-- The unit with its standby state worked out anew. -/
def TankUnit.reworked (u : TankUnit) : TankUnit := { u with standby := u.workStandby }

/-- The roles exchanged (R97, steps 2 to 4): the incoming tank loses its standby state and hold, the
outgoing one starts its hold and has its state worked out, and the reference is the incoming tank's volume
when that tank is fresh. -/
def TankUnit.exchange (u : TankUnit) : TankUnit :=
  let swapped : TankUnit := { u with active := u.active.other, mixCount := some u.activeTank.mixHold }
  let incoming := swapped.activeTank
  { swapped.reworked with
    reference := if incoming.fresh then some incoming.volume else none
    additions := 0
    elapsed := 0 }

/-- A swap (R97). The suction test of step 5 finds the outgoing tank in its mix hold, so never READY, and
decides the condition only. -/
def State.swap (cause : SwapCause) (s : State) : State :=
  let s := s.reading s.tanks.activeTank.volume
  let s := (s.setTanks s.tanks.exchange).decideSuction
  s.raise .tankSwapped (.swapped s.tanks.active cause)

/-- The suction test (R96). -/
def State.suctionTest (s : State) : State :=
  let t := s.tanks.activeTank
  if t.volume ≤ t.low * 1000 ∧ s.tanks.standby = .ready then s.swap .automatic else s.decideSuction

/-- The standby state worked out anew; a change to READY brings the suction test (R95). -/
def State.reworkStandby (s : State) : State :=
  let old := s.tanks.standby
  let s := s.setTanks s.tanks.reworked
  if s.tanks.standby = .ready ∧ old ≠ .ready then s.suctionTest else s

/-- An addition to the STANDBY tank: its mix hold starts or restarts (R95). -/
def State.standbyAddition (s : State) : State :=
  (s.setTanks { s.tanks with mixCount := some s.tanks.standbyTank.mixHold }).reworkStandby

/-- The mix hold has expired: the count stops and the standby state is worked out anew (R95). -/
def State.mixExpiry (s : State) : State :=
  (s.setTanks { s.tanks with mixCount := none }).reworkStandby

/-- The mix hold at a minute expiry: a running count falls by 1, and at 0 it expires (R95). -/
def State.mixMinute (s : State) : State :=
  match s.tanks.mixCount with
  | none => s
  | some n => if n ≤ 1 then s.mixExpiry else s.setTanks { s.tanks with mixCount := some (n - 1) }

/-- An accepted LEVEL report (R94): the level clamped, the tank fresh; the first of the ACTIVE tank makes the
reference valid, one of the STANDBY tank works its state out anew; then the suction test. -/
def State.takeLevel (t : TankId) (reported : Int) (s : State) : State :=
  let depth := (s.tanks.tank t).depth
  let level := min reported.toNat depth
  let s := if (level : Int) = reported then s else s.raise .sensorRange (.sensor .gauge (some t) reported)
  let s := s.setTanks (s.tanks.setTank t { s.tanks.tank t with level := level, fresh := true })
  let s :=
    if t ≠ s.tanks.active then s.reworkStandby
    else if s.tanks.reference.isNone then
      s.setTanks { s.tanks with reference := some s.tanks.activeTank.volume, additions := 0, elapsed := 0 }
    else s
  s.suctionTest

/-! ### The return-flow filter (R110, R111) -/

/-- A FLOW report of GAUGE through the filter: the accepted state moves when the report repeats the last one
and differs from it, and the last report takes the value. -/
def TankUnit.filter (u : TankUnit) (v : Flow) : TankUnit :=
  { u with flowAccepted := if u.flowLast = some v then some v else u.flowAccepted, flowLast := some v }

/-- A FLOW report of GAUGE (R110, R111): with NO_FLOW accepted and circulation RUNNING the class becomes
TOTAL; when FLOW becomes accepted in TOTAL it becomes NORMAL. -/
def State.takeFlow (v : Flow) (s : State) : State :=
  let before := s.tanks.flowAccepted
  let s := s.setTanks (s.tanks.filter v)
  match v with
  | .noFlow =>
    if s.tanks.flowAccepted = some .noFlow ∧ s.pumps.circ = .running then s.changeLoss .total 0 else s
  | .flow =>
    if s.tanks.flowAccepted = some .flow ∧ before ≠ some .flow ∧ s.tanks.lossClass = .total then
      s.changeLoss .normal 0
    else s

/-! ### Resets -/

/-- The Tank and Balance Unit at power-up (R92, R99, R105, R108, R110). -/
def TankUnit.powerUp (u : TankUnit) : TankUnit :=
  { u with
    a := { u.a with fresh := false }
    b := { u.b with fresh := false }
    condition := u.activeTank.suction
    reference := none
    additions := 0
    elapsed := 0
    fill := 0
    remainder := 0
    lossClass := .normal
    flowAccepted := none
    flowLast := none }

end Sys2Proof.Machine
end

