-- ==== Sys2Proof/Machine/DepthOps.lean ====
section
/-! DEFINITION. The Depth Tracker's operations (spec/04, 4.4): new hole, the candidate test and the height
report, and the coupling reports. -/

namespace Sys2Proof.Machine

/-- Writing the Depth Tracker. -/
def State.setDepth (d : DepthTracker) (s : State) : State := { s with depth := d }

/-- Dropping the held candidate (R71). -/
def State.dropHeld (s : State) : State := s.setDepth { s.depth with held := none }

/-- The Tank and Balance Unit's part of new hole: its hole-fill, while the reference is valid (R106). -/
def State.addFill (sections : List Section) (h0 h1 : Nat) (s : State) : State :=
  if s.tanks.reference.isNone then s
  else s.setTanks { s.tanks with fill := s.tanks.fill + holeFill sections h0 h1 }

/-- New hole of the ACTIVE job in slot `i`, from `h0` to `h1` (R75): the hole and bit depths move, and the
event goes to the roster, the column, the transit list, the balance and the sheet, which touch their own
state (log 31). -/
def State.newHole (i : Fin 4) (j : Job) (h1 : Nat) (s : State) : State :=
  let s := s.setJob i { j with holeDepth := h1, bitDepth := h1 }
  let s := s.creditString (h1 - j.holeDepth)
  let s := s.extendColumn i h1
  let s := s.growForming i
  let s := s.addFill j.sections j.holeDepth h1
  { s with drilling := true }

/-- The test of a candidate against the ACTIVE job's hole depth (R74). -/
def State.testCandidate (i : Fin 4) (j : Job) (candidate : Nat) (s : State) : State :=
  if candidate ≤ j.holeDepth then (s.setJob i { j with bitDepth := candidate }).dropHeld
  else if candidate - j.holeDepth ≤ s.depth.jumpLimit ∨ s.depth.held = some candidate then
    s.dropHeld.newHole i j candidate
  else
    (s.setDepth { s.depth with held := some candidate }).raise .depthJump (.jump candidate j.holeDepth)

/-- The height a report is clamped to (R73). -/
def State.clampHeight (s : State) (reported : Int) : Nat := min reported.toNat s.depth.headStroke

/-- The Depth Tracker's part of a HEIGHT report of HEAD (R73). -/
def State.takeHeight (reported : Int) (s : State) : State :=
  let h := s.clampHeight reported
  let s := if (h : Int) = reported then s else s.raise .sensorRange (.sensor .head none reported)
  let s := s.setDepth { s.depth with lastHeight := h }
  if s.depth.coupled then
    match s.active? with
    | none => s
    | some i =>
      match s.job? i with
      | none => s
      | some j => s.testCandidate i j (s.roster.stringLen - h)
  else s

/-- The head-freed event: the arbiter tests for a grant (R54) and the Transit List closes the forming parcel
(R127). -/
def State.headFreed (s : State) : State :=
  let s := s.grantTest
  match s.active? with
  | none => s
  | some i => s.closeForming i

/-- A FREE report of HEAD (R72). -/
def State.takeFree (s : State) : State :=
  if s.depth.coupled then (s.setDepth { s.depth with coupled := false, held := none }).headFreed else s

/-- A COUPLED report of HEAD (R72). -/
def State.takeCoupled (s : State) : State := s.setDepth { s.depth with coupled := true }

end Sys2Proof.Machine
end

