-- ==== Sys2Proof/Machine/ModeOps.lean ====
section
/-! DEFINITION. The Mode Controller's operations (spec/01): the wake, the entry into OPERATE, the end of the
wake window, and the mode check. -/

namespace Sys2Proof.Machine

/-- Writing the Mode Controller. -/
def State.setMode (m : ModeCtl) (s : State) : State := { s with mode := m }

/-- A wake event (R6): in STANDBY the mode becomes WAKING and the window opens; in any other mode nothing. -/
def State.wake (source : WakeSource) (s : State) : State :=
  if s.mode.mode = .standby then
    s.setMode { s.mode with mode := .waking, window := some ⟨s.mode.windowLen, source⟩ }
  else s

/-- A mode entered with the wake window stopped (R4, R7). -/
def State.enterMode (m : RigMode) (s : State) : State :=
  s.setMode { s.mode with mode := m, window := none }

/-- An entry into OPERATE (R5): with the geometry mark set, the mark is cleared and the lags recomputed. -/
def State.enterOperate (s : State) : State :=
  let s := s.enterMode .operate
  if s.mode.geometryMark then (s.setMode { s.mode with geometryMark := false }).recompute else s

/-- What the acceptance of a request does to the wake window (R7): in WAKING, a request of a class other
than Read and Mode brings the entry into OPERATE, after its own effect (log 22). -/
def State.endWake (cls : ReqClass) (s : State) : State :=
  if s.mode.mode = .waking ∧ cls ≠ .read ∧ cls ≠ .mode then s.enterOperate else s

/-- The classes each mode serves (R2): WAKING as OPERATE. -/
def served (m : RigMode) : ReqClass → Bool
  | .read => true
  | .mode => true
  | .setup => m = .setup
  | .operation => m = .operate || m = .waking
  | .general => m ≠ .standby

/-- An accepted geometry edit of the ACTIVE job in SETUP sets the geometry mark (R5). -/
def State.markGeometry (edited : Bool) (s : State) : State :=
  if edited ∧ s.mode.mode = .setup then s.setMode { s.mode with geometryMark := true } else s

/-- The wake window has expired (R8): STANDBY, and UNEXPLAINED_WAKE with the wake source. -/
def State.windowExpiry (s : State) : State :=
  match s.mode.window with
  | none => s
  | some w => (s.enterMode .standby).raise .unexplainedWake (.wake w.source)

/-- The wake window at a minute expiry (R8): while WAKING the count falls by 1, and at 0 it expires. -/
def State.windowMinute (s : State) : State :=
  match s.mode.window with
  | none => s
  | some w =>
    if s.mode.mode ≠ .waking then s
    else if w.count ≤ 1 then s.windowExpiry
    else s.setMode { s.mode with window := some { w with count := w.count - 1 } }

end Sys2Proof.Machine
end

