-- ==== Sys2Proof/Machine/LinkOps.lean ====
section
/-! DEFINITION. How a request frame and a station message are taken (R32, R179, R183, R184): the checks in
their order, and the answer or the delivery. -/

namespace Sys2Proof.Machine

/-- The outcome type of a command. -/
abbrev Result := Host.Outcome State Fault Refusal

/-- The levels and key lines of R31, then the mode check of R2: the refusal, if any. -/
def admission (required : Nat) (cls : ReqClass) (r : Request) (s : State) : Option Status :=
  if required < r.level.toNat then some .level
  else if (r.level.toNat = 0 ∧ r.keys.office = false)
      ∨ (r.level.toNat = 1 ∧ r.keys.office = false ∧ r.keys.supervisor = false) then some .key
  else if served s.mode.mode cls = false then some .mode
  else none

/-- The answer of the owning block placed in the response buffer; an acceptance in WAKING ends the wake
window (R7, R180). -/
def reply (cls : ReqClass) (s : State) : Reply → State
  | .error status => s.respond status []
  | .ok a => (a.state.endWake cls).respond a.status a.payload

/-- A request frame taken whole (R32): the buffer clocked out, the frame checks of R179, level, key and mode,
then the owning block's `body`, which is handed the claimed level, the payload and the state. -/
def takeRequest (code : Byte) (required : Nat) (cls : ReqClass) (body : Nat → List Word → State → Reply)
    (r : Request) (s : State) : Result :=
  let frame := requestFrame code r
  let s := s.clockOut (frameBits frame)
  match judgeFrame frame with
  | .error status => .next (s.linkError status)
  | .ok payload =>
    let s := s.sample r
    match admission required cls r s with
    | some status => .next (s.respond status [])
    | none => .next (reply cls s (body r.level.toNat payload s))

/-- STATION_UNEXPECTED for a report discarded by its receiver (R69, R72, R94, R110, R184). -/
def State.unexpected (m : Message) (kind : Nat) (step : Option OpStep) (s : State) : State :=
  s.raise .stationUnexpected (.unexpected m.address.toNat kind step)

/-- A station message of the given kind: discarded with LINK_ERROR when it fails a check of R183, and handed
with its station to its receiver otherwise (R184). -/
def deliver (kind : Byte) (receiver : Station → State → State) (m : Message) (s : State) : Result :=
  match judgeMessage (messageBytes kind m), stationOf m.address.toNat with
  | none, some st => .next (receiver st s)
  | some reason, _ => .next (s.raise .linkError (.message reason m.address.toNat))
  | none, none => .next (s.raise .linkError (.message .address m.address.toNat))

/-- A report to the Rod Operation Engine that does not fit its present step (R69). -/
def State.notFitting (m : Message) (kind : Nat) (s : State) : State :=
  s.unexpected m kind (s.engine.op.map Operation.step)

end Sys2Proof.Machine
end

