-- ==== Sys2Proof/Machine/Additives.lean ====
section
/-! DEFINITION. The requests of the additive store (spec/06, 6.3). -/

namespace Sys2Proof.Machine

/-- A name an additive may have: printable and not blank (R100). -/
def additiveNameOk (n : Name) : Bool := printable n && n != blankName

/-- A live additive holds the name (R100). -/
def State.additiveNameHeld (n : Name) (s : State) : Bool :=
  (List.finRange 16).any fun i => (s.additive? i).any fun x => x.name == n

/-- The lowest-numbered empty additive slot (R100). -/
def State.emptyAdditiveSlot (s : State) : Option (Fin 16) :=
  (List.finRange 16).find? fun i => (s.additive? i).isNone

/-- ADD_ADDITIVE (R100): a name, unit price. -/
def serveAddAdditive (_ : Nat) (ws : List Word) (s : State) : Reply :=
  match ws with
  | [n0, n1, n2, n3, p1, p0] =>
    let name := nameOf n0 n1 n2 n3
    if additiveNameOk name = false ∨ 2147483647 < two p1 p0 then .error .badField
    else if s.additiveNameHeld name then .error .duplicate
    else
      match s.emptyAdditiveSlot with
      | none => .error .full
      | some i =>
        answer [(s.additiveHandle i).word]
          (s.setAdditive i ⟨name, two p1 p0, 0, 0, 0, 0⟩)
  | _ => .error .badField

/-- SET_ADDITIVE_PRICE (R100): a handle, unit price. -/
def serveSetAdditivePrice (_ : Nat) (ws : List Word) (s : State) : Reply :=
  match ws with
  | h :: rest =>
    withAdditive h s fun i x =>
      match rest with
      | [p1, p0] =>
        if 2147483647 < two p1 p0 then .error .badField
        else accept (s.setAdditive i { x with price := two p1 p0 })
      | _ => .error .badField
  | _ => .error .badField

/-- The fields of an additive record (R100). -/
def Additive.words (x : Additive) : List Word :=
  nameWords x.name ++ u32 x.price ++ u32 x.onHand ++ u32 x.received ++ u32 x.drawn ++ u32 x.shortfall

/-- READ_ADDITIVE (R100): a handle. -/
def serveReadAdditive (_ : Nat) (ws : List Word) (s : State) : Reply :=
  match ws with
  | h :: rest =>
    withAdditive h s fun i x =>
      if rest = [] then answer (x.words ++ [(s.additiveHandle i).word]) s else .error .badField
  | _ => .error .badField

/-- RECEIVE_ADDITIVE (R101): a handle, units. -/
def serveReceiveAdditive (_ : Nat) (ws : List Word) (s : State) : Reply :=
  match ws with
  | h :: rest =>
    withAdditive h s fun i x =>
      match rest with
      | [units] =>
        if one units = 0 ∨ max32 < x.onHand + one units ∨ max32 < x.received + one units then .error .badField
        else
          accept (s.setAdditive i { x with onHand := x.onHand + one units, received := x.received + one units })
      | _ => .error .badField
  | _ => .error .badField

/-- STOCK_COUNT (R101): a handle, a counted quantity. -/
def serveStockCount (_ : Nat) (ws : List Word) (s : State) : Reply :=
  match ws with
  | h :: rest =>
    withAdditive h s fun i x =>
      match rest with
      | [q1, q0] =>
        accept (s.setAdditive i
          { x with onHand := two q1 q0, received := two q1 q0, drawn := 0, shortfall := 0 })
      | _ => .error .badField
  | _ => .error .badField

/-- The units a draw finds uncovered (R102): natural subtraction stops at 0. -/
def Additive.short (x : Additive) (units : Nat) : Nat := units - x.onHand

/-- A draw on an additive's record (R102). -/
def Additive.draw (x : Additive) (units : Nat) : Additive :=
  { x with
    drawn := x.drawn + units, onHand := x.onHand - units, shortfall := x.shortfall + x.short units }

/-- The effects of a draw billed to the ACTIVE job in slot `a` (R102, R166). -/
def State.drawAdditive (a : Fin 4) (i : Fin 16) (x : Additive) (units : Nat) (t : TankId) (s : State) : State :=
  let s := s.setAdditive i (x.draw units)
  let s := if x.short units = 0 then s else s.raise .inventoryShort (.short (s.additiveHandle i) (x.short units))
  let s := s.addUnsettled a (consumableLine i) units
  if t ≠ s.tanks.active then s.standbyAddition else s

/-- DRAW_ADDITIVE (R102): a handle, units, a tank. -/
def serveDrawAdditive (_ : Nat) (ws : List Word) (s : State) : Reply :=
  match ws with
  | h :: rest =>
    withAdditive h s fun i x =>
      match rest with
      | [units, tank] =>
        match TankId.ofCode (one tank) with
        | none => .error .badField
        | some t =>
          if one units = 0 ∨ max32 < x.drawn + one units ∨ max32 < x.shortfall + x.short (one units) then
            .error .badField
          else
            match s.active? with
            | none => .error .noJob
            | some a => accept (s.drawAdditive a i x (one units) t)
      | _ => .error .badField
  | _ => .error .badField

/-- A job that is not FREE has a quantity on the consumable line of an additive slot (R103). -/
def State.additiveInUse (i : Fin 16) (s : State) : Bool :=
  (List.finRange 4).any fun a => (s.job? a).any fun j =>
    j.sheet[consumableLine i].settled != 0 || j.sheet[consumableLine i].unsettled != 0

/-- An additive leaves its slot, whose generation rises by 1 (R103, R29). -/
def State.removeAdditive (i : Fin 16) (s : State) : State :=
  s.setTanks { s.tanks with additives := s.tanks.additives.set i ⟨nextGen s.tanks.additives[i].gen, none⟩ }

/-- RETIRE_ADDITIVE (R103): a handle. -/
def serveRetireAdditive (_ : Nat) (ws : List Word) (s : State) : Reply :=
  match ws with
  | h :: rest =>
    withAdditive h s fun i _ =>
      if rest ≠ [] then .error .badField
      else if s.additiveInUse i then .error .inUse
      else accept (s.removeAdditive i)
  | _ => .error .badField

/-! ### The commands -/

/-- ADD_ADDITIVE (R100; level 1, General change). -/
def execAddAdditive (r : Request) (s : State) : Result := takeRequest 87 1 .general serveAddAdditive r s

/-- SET_ADDITIVE_PRICE (R100; level 0, General change). -/
def execSetAdditivePrice (r : Request) (s : State) : Result :=
  takeRequest 88 0 .general serveSetAdditivePrice r s

/-- READ_ADDITIVE (R100; level 3, Read). -/
def execReadAdditive (r : Request) (s : State) : Result := takeRequest 89 3 .read serveReadAdditive r s

/-- RECEIVE_ADDITIVE (R101; level 2, General change). -/
def execReceiveAdditive (r : Request) (s : State) : Result :=
  takeRequest 90 2 .general serveReceiveAdditive r s

/-- STOCK_COUNT (R101; level 1, General change). -/
def execStockCount (r : Request) (s : State) : Result := takeRequest 91 1 .general serveStockCount r s

/-- DRAW_ADDITIVE (R102; level 3, General change). -/
def execDrawAdditive (r : Request) (s : State) : Result := takeRequest 92 3 .general serveDrawAdditive r s

/-- RETIRE_ADDITIVE (R103; level 1, General change). -/
def execRetireAdditive (r : Request) (s : State) : Result := takeRequest 93 1 .general serveRetireAdditive r s

end Sys2Proof.Machine
end

