-- ==== Sys2Proof/Machine/Centre.lean ====
section
/-! DEFINITION. The requests on the well centre, the rod operations and the Depth Tracker (spec/04). -/

namespace Sys2Proof.Machine

/-! ### Reading (R52, R57, R71) -/

/-- The coupling flag's code, COUPLED 1 or FREE 2 (R71). -/
def couplingCode (coupled : Bool) : Nat := if coupled then 1 else 2

/-- The payload of READ_CENTRE (R52): holder, request set, coupling flag. That the set is one word, with bits 0 to 2
for WRENCH, LOADER and TONGS, is the model's choice (log 40). -/
def State.centreWords (s : State) : List Word :=
  u16 (stationCode s.arbiter.holder)
    ++ u16 (s.arbiter.wrench.toNat + 2 * s.arbiter.loader.toNat + 4 * s.arbiter.tongs.toNat)
    ++ u16 (couplingCode s.depth.coupled)

/-- READ_CENTRE (R52). -/
def serveReadCentre (_ : Nat) (ws : List Word) (s : State) : Reply :=
  match ws with
  | [] => answer s.centreWords s
  | _ => .error .badField

/-- The payload of READ_OPERATION (R57): the record's fields, 0 where absent, then the tripping mark. -/
def State.operationWords (s : State) : List Word :=
  match s.engine.op with
  | none => List.replicate 13 0 ++ flag s.engine.tripping
  | some o =>
    u16 o.kind.code ++ u16 o.step.code ++ handleWord (o.rod.map s.rodHandle) ++ u32 (o.expected.getD 0)
      ++ opSourceWords o.source ++ rackPlaceWords o.dest ++ u32 (o.tagReg.getD 0) ++ flag s.engine.tripping

/-- READ_OPERATION (R57). -/
def serveReadOperation (_ : Nat) (ws : List Word) (s : State) : Reply :=
  match ws with
  | [] => answer s.operationWords s
  | _ => .error .badField

/-- The payload of READ_DEPTH (R71). -/
def State.depthWords (s : State) : List Word :=
  u16 (couplingCode s.depth.coupled) ++ u16 s.depth.lastHeight ++ u32 (s.depth.held.getD 0)
    ++ u16 s.depth.headStroke ++ u16 s.depth.jumpLimit ++ u32 s.roster.stringLen
    ++ u32 ((s.activeJob?.map Job.bitDepth).getD 0) ++ u32 ((s.activeJob?.map Job.holeDepth).getD 0)

/-- READ_DEPTH (R71). -/
def serveReadDepth (_ : Nat) (ws : List Word) (s : State) : Reply :=
  match ws with
  | [] => answer s.depthWords s
  | _ => .error .badField

/-- SET_HEAD_CONFIG (R71): head stroke, jump limit. -/
def serveSetHeadConfig (_ : Nat) (ws : List Word) (s : State) : Reply :=
  match ws with
  | [stroke, jump] =>
    if within 100 3000 (one stroke) && within 5 100 (one jump) then
      accept (s.setDepth
        { s.depth with
          headStroke := one stroke, jumpLimit := one jump, lastHeight := min s.depth.lastHeight (one stroke) })
    else .error .badField
  | _ => .error .badField

/-! ### Accepting an operation (R58) -/

/-- The engine takes up an operation: record, tripping mark (R58). -/
def State.takeUp (o : Operation) (s : State) : State := { s with engine := { op := some o, tripping := true } }

/-- An accepted operation's answer: PENDING, with its kind and its rod's handle (R58). -/
def pendingOp (o : Operation) (s : State) : Reply :=
  .ok ⟨.pending, u16 o.kind.code ++ handleWord (o.rod.map s.rodHandle), s⟩

/-- An operation accepted with a request for its first station (R58, R53). -/
def State.beginOp (o : Operation) (st : Station) (s : State) : Reply :=
  pendingOp o ((s.takeUp o).engineRequest st)

/-- The first checks of every operation (R58): the ACTIVE job's slot and context, with no operation in
flight. -/
def withIdleJob (s : State) (k : Fin 4 → Job → Reply) : Reply :=
  match s.active? with
  | none => .error .noJob
  | some a =>
    match s.job? a with
    | none => .error .noJob
    | some j => if s.engine.op.isSome then .error .busy else k a j

/-! ### MAKE_UP (R59 to R61) -/

/-- The rod at the source of a MAKE_UP (R59). -/
def State.rodAtSource (s : State) : OpSource → Option (Fin 128)
  | .carousel slot => s.findRod fun r => r.place == .carousel slot
  | .truck tag => s.findRod fun r => r.place == .truck && r.tag == tag
  | .centre => s.rodAtCentre

/-- The record of an accepted MAKE_UP (R59). -/
def makeUpOp (i : Fin 128) (r : Rod) (src : OpSource) : Operation :=
  { kind := .makeUp, step := .awaitLoader, rod := some i, expected := some r.tag, source := some src
    dest := none, tagReg := none }

/-- The checks of a MAKE_UP on the rod found (R59). -/
def State.makeUpRefusal (level : Nat) (j : Job) (r : Rod) (s : State) : Option Status :=
  if r.type ≠ j.rodType then some .type
  else if 100000 < s.roster.stringLen + r.length then some .full
  else if r.wear = .d ∧ 1 < level then some .worn
  else none

/-- The acceptance of a MAKE_UP (R60, R61): from CENTRE with the unverified flag clear it goes straight to
AWAIT_TORQUE, and otherwise the engine requests LOADER. -/
def State.acceptMakeUp (i : Fin 128) (r : Rod) (src : OpSource) (s : State) : Reply :=
  if src = .centre ∧ r.unverified = false then
    let o := { makeUpOp i r src with step := .awaitTorque }
    pendingOp o (s.takeUp o)
  else s.beginOp (makeUpOp i r src) .loader

/-- MAKE_UP (R59): a source. -/
def serveMakeUp (level : Nat) (ws : List Word) (s : State) : Reply :=
  match ws with
  | [pk, p1, p0] =>
    match opSourceOf pk p1 p0 with
    | none => .error .badField
    | some src =>
      withIdleJob s fun _ j =>
        if j.bha.place ≠ .inString then .error .string
        else if src ≠ .centre ∧ s.rodAtCentre.isSome then .error .busy
        else
          match s.rodAtSource src with
          | none => .error .notFound
          | some i =>
            match s.rod? i with
            | none => .error .notFound
            | some r =>
              match s.makeUpRefusal level j r with
              | some status => .error status
              | none => s.acceptMakeUp i r src
  | _ => .error .badField

/-! ### BREAK_OUT and STOW (R62, R63) -/

/-- The record of an accepted BREAK_OUT or STOW. -/
def stowingOp (kind : OpKind) (step : OpStep) (i : Fin 128) (r : Rod) (dest : RackPlace) : Operation :=
  { kind := kind, step := step, rod := some i, expected := some r.tag, source := none, dest := some dest
    tagReg := none }

/-- BREAK_OUT (R62): a destination. -/
def serveBreakOut (_ : Nat) (ws : List Word) (s : State) : Reply :=
  match ws with
  | [pk, p1, p0] =>
    match rackPlaceOf pk p1 p0 with
    | none => .error .badField
    | some dest =>
      withIdleJob s fun _ _ =>
        match s.rodAtPosition s.stringCount with
        | none => .error .notFound
        | some i =>
          match s.rod? i with
          | none => .error .notFound
          | some r =>
            if s.rodAtCentre.isSome then .error .busy
            else if s.rackFree dest = false then .error .full
            else if s.pumps.circ ≠ .stopped then .error .notStopped
            else s.beginOp (stowingOp .breakOut .awaitWrench i r dest) .wrench
  | _ => .error .badField

/-- STOW (R63): a destination. -/
def serveStow (_ : Nat) (ws : List Word) (s : State) : Reply :=
  match ws with
  | [pk, p1, p0] =>
    match rackPlaceOf pk p1 p0 with
    | none => .error .badField
    | some dest =>
      withIdleJob s fun _ _ =>
        match s.rodAtCentre with
        | none => .error .notFound
        | some i =>
          match s.rod? i with
          | none => .error .notFound
          | some r =>
            if s.rackFree dest = false then .error .full
            else s.beginOp (stowingOp .stow .awaitLoader i r dest) .loader
  | _ => .error .badField

/-! ### RUN_BHA and PULL_BHA (R64) -/

/-- The record of an accepted BHA operation. -/
def bhaOp (kind : OpKind) : Operation :=
  { kind := kind, step := .awaitTongs, rod := none, expected := none, source := none, dest := none
    tagReg := none }

/-- RUN_BHA (R64). -/
def serveRunBha (_ : Nat) (ws : List Word) (s : State) : Reply :=
  match ws with
  | [] =>
    withIdleJob s fun _ j =>
      if j.bha.place = .inString then .error .string
      else if j.bha.place = .lost then .error .notFound
      else if s.rodAtCentre.isSome then .error .busy
      else s.beginOp (bhaOp .runBha) .tongs
  | _ => .error .badField

/-- PULL_BHA (R64). -/
def servePullBha (_ : Nat) (ws : List Word) (s : State) : Reply :=
  match ws with
  | [] =>
    withIdleJob s fun _ j =>
      if j.bha.place ≠ .inString then .error .notFound
      else if s.stringCount ≠ 0 then .error .string
      else if s.rodAtCentre.isSome then .error .busy
      else if s.pumps.circ ≠ .stopped then .error .notStopped
      else s.beginOp (bhaOp .pullBha) .tongs
  | _ => .error .badField

/-- ABORT_OP (R67). -/
def serveAbortOp (_ : Nat) (ws : List Word) (s : State) : Reply :=
  match ws with
  | [] =>
    match s.engine.op with
    | none => .error .notFound
    | some o => accept (s.abandon o .aborted none 0)
  | _ => .error .badField

/-! ### The commands -/

/-- READ_CENTRE (R52; level 3, Read). -/
def execReadCentre (r : Request) (s : State) : Result := takeRequest 48 3 .read serveReadCentre r s

/-- READ_OPERATION (R57; level 3, Read). -/
def execReadOperation (r : Request) (s : State) : Result := takeRequest 49 3 .read serveReadOperation r s

/-- MAKE_UP (R59; level 2, Rig operation). -/
def execMakeUp (r : Request) (s : State) : Result := takeRequest 50 2 .operation serveMakeUp r s

/-- BREAK_OUT (R62; level 2, Rig operation). -/
def execBreakOut (r : Request) (s : State) : Result := takeRequest 51 2 .operation serveBreakOut r s

/-- STOW (R63; level 2, Rig operation). -/
def execStow (r : Request) (s : State) : Result := takeRequest 52 2 .operation serveStow r s

/-- RUN_BHA (R64; level 2, Rig operation). -/
def execRunBha (r : Request) (s : State) : Result := takeRequest 53 2 .operation serveRunBha r s

/-- PULL_BHA (R64; level 2, Rig operation). -/
def execPullBha (r : Request) (s : State) : Result := takeRequest 54 2 .operation servePullBha r s

/-- ABORT_OP (R67; level 2, General change). -/
def execAbortOp (r : Request) (s : State) : Result := takeRequest 55 2 .general serveAbortOp r s

/-- READ_DEPTH (R71; level 3, Read). -/
def execReadDepth (r : Request) (s : State) : Result := takeRequest 56 3 .read serveReadDepth r s

/-- SET_HEAD_CONFIG (R71; level 1, Setup edit). -/
def execSetHeadConfig (r : Request) (s : State) : Result := takeRequest 57 1 .setup serveSetHeadConfig r s

end Sys2Proof.Machine
end

