-- ==== Sys2Proof/Config.lean ====
section
/-! DEFINITION. What the spec leaves free. -/

namespace Sys2Proof

/-- The order in which the receivers of a minute expiry, alone or with its second expiry, are served: the 740
"gives them no order among themselves" (R10). Applied to `State.draws`, the number of free choices drawn
so far; the answer is the code of a permutation (`Machine.permuteBy`). Log 6. -/
opaque Config.freeOrder : Nat → Nat

end Sys2Proof
end

