-- ==== Sys2Proof/Machine/Clock.lean ====
section
/-! DEFINITION. The expiries of the rig clock and of the 740's timers (spec/01, 1.4, and the timers' own
chapters). -/

namespace Sys2Proof.Machine

/-! ### The receivers of an expiry (R10) -/

/-- The permutation of a list that a number codes: the number's remainder picks the first element, its
quotient the rest. The fuel is the length of the list. -/
def permuteBy {α : Type} : Nat → Nat → List α → List α
  | 0, _, l => l
  | fuel + 1, n, l =>
    match l[n % l.length]? with
    | none => l
    | some x => x :: permuteBy fuel (n / l.length) (l.eraseIdx (n % l.length))

/-- The receivers of a second expiry that is also a minute expiry: the Pump Controller and the balance of
the second, the Job Sheet, the mix hold and the wake window of the minute (R10). -/
def expiryReceivers : List (State → State) :=
  [State.pumpSecond, State.balanceSecond, State.sheetMinute, State.mixMinute, State.windowMinute]

/-- The receivers of a minute expiry: the Job Sheet, the mix hold and the wake window (R10). -/
def minuteReceivers : List (State → State) := [State.sheetMinute, State.mixMinute, State.windowMinute]

/-- The minute count one more, wrapping (R10). -/
def ModeCtl.nextMinute (m : ModeCtl) : ModeCtl := { m with minute := wrap32 (m.minute + 1) }

/-- A second expiry that is also a minute expiry: the receivers have no order among themselves, and one is
drawn (R10, log 6). -/
def State.minuteTurn (s : State) : State :=
  let order := permuteBy 5 (Config.freeOrder s.draws) expiryReceivers
  let s : State := { s with mode := { s.mode.nextMinute with second := 0 }, draws := s.draws + 1 }
  order.foldl (fun s f => f s) s

/-- A second expiry within the minute: the Pump Controller, then the balance (R10, log 9). -/
def State.secondTurn (s : State) : State :=
  ((s.setMode { s.mode with second := s.mode.second + 1 }).pumpSecond).balanceSecond

/-! ### The commands -/

/-- SECOND_EXPIRY (R10). -/
def execSecondExpiry (s : State) : Result := .next (if s.mode.second < 59 then s.secondTurn else s.minuteTurn)

/-- MINUTE_EXPIRY (R10) on its own: the minute count, then its three receivers in the order drawn (log 6). -/
def execMinuteExpiry (s : State) : Result :=
  let order := permuteBy 3 (Config.freeOrder s.draws) minuteReceivers
  let s : State := { s with mode := s.mode.nextMinute, draws := s.draws + 1 }
  .next (order.foldl (fun s f => f s) s)

/-- RAMP_EXPIRY of a pump (R84): nothing while its ramp timer is stopped (log 8). -/
def execRampExpiry (p : Pump) (s : State) : Result :=
  if (s.pumps.pump p).rampTimer = none then .next s
  else .next (s.setPumps (s.pumps.setPump p (s.pumps.pump p).ramp))

/-- STILL_EXPIRY (R86): nothing while the still timer is stopped (log 8). -/
def execStillExpiry (s : State) : Result := .next (if s.pumps.still = none then s else s.stillExpiry)

/-- The elapsed count at the balance period, at least (R105, log 8). -/
def TankUnit.elapse (u : TankUnit) : TankUnit := { u with elapsed := max u.elapsed u.period }

/-- BALANCE_EXPIRY (R105): a reading of the ACTIVE tank; without a valid reference there is none (log 8). -/
def execBalanceExpiry (s : State) : Result :=
  if s.tanks.reference.isNone then .next s
  else .next ((s.setTanks s.tanks.elapse).reading s.tanks.activeTank.volume)

/-- MIX_HOLD_EXPIRY (R95): nothing while the mix hold is stopped (log 8). -/
def execMixHoldExpiry (s : State) : Result := .next (if s.tanks.mixCount = none then s else s.mixExpiry)

/-- WAKE_WINDOW_EXPIRY (R8): nothing while no window is open (log 8). -/
def execWakeWindowExpiry (s : State) : Result := .next s.windowExpiry

end Sys2Proof.Machine
end

