-- ==== Sys2Proof/Machine/Cuttings.lean ====
section
/-! DEFINITION. The requests of the Transit List (spec/08). -/

namespace Sys2Proof.Machine

/-- The payload of READ_TRANSIT (R126). -/
def State.transitWords (s : State) : List Word :=
  u32 (s.transit.formingTop.getD 0) ++ u32 ((s.active?.map fun i => s.formingLength i).getD 0)
    ++ u16 s.transit.parcels.length ++ u16 (arrivedCount s.transit.parcels) ++ u32 s.transit.births
    ++ u16 s.transit.step ++ u32 s.transit.surfaceLine

/-- READ_TRANSIT (R126). -/
def serveReadTransit (_ : Nat) (ws : List Word) (s : State) : Reply :=
  match ws with
  | [] => answer s.transitWords s
  | _ => .error .badField

/-- A parcel as READ_PARCEL returns it: the fields of R125's table in its order. -/
def Parcel.words (p : Parcel) : List Word :=
  u32 p.ordinal ++ u32 p.top ++ u32 p.bottom ++ u32 p.lag ++ u32 p.advanced ++ u16 (if p.arrived then 2 else 1)
    ++ flag p.merged

/-- READ_PARCEL (R126): a position from the oldest. -/
def serveReadParcel (_ : Nat) (ws : List Word) (s : State) : Reply :=
  match ws with
  | [n] =>
    if within 1 48 (one n) then
      match s.transit.parcels[one n - 1]? with
      | none => .error .notFound
      | some p => answer p.words s
    else .error .badField
  | _ => .error .badField

/-- SET_PARCEL_STEP (R126): a step. -/
def serveSetParcelStep (_ : Nat) (ws : List Word) (s : State) : Reply :=
  match ws with
  | [n] =>
    if within 10 200 (one n) then accept { s with transit := { s.transit with step := one n } }
    else .error .badField
  | _ => .error .badField

/-- The ACTIVE job's slot and the oldest ARRIVED parcel (R136, R137). -/
def withSample (s : State) (k : Fin 4 → Parcel → Reply) : Reply :=
  match s.active? with
  | none => .error .noJob
  | some a =>
    match s.oldestArrived with
    | none => .error .noParcel
    | some p => k a p

/-- The oldest ARRIVED parcel leaves the list (R136, R137). -/
def State.dropSample (s : State) : State := s.setParcels (removeArrived s.transit.parcels)

/-- TAKE_SAMPLE on a lithology and an optional yield (R136, R153). -/
def State.takeSample (lith : Nat) (yield : Option Nat) (s : State) : Reply :=
  match indexFrom0 64 lith with
  | none => .error .badField
  | some l =>
    withSample s fun a p =>
      match s.bindRange a (.sample l yield) p.top p.bottom with
      | none => .error .columnFull
      | some s' =>
        answer (u32 p.ordinal ++ u32 p.top ++ u32 p.bottom ++ flag p.merged) s'.dropSample

/-- TAKE_SAMPLE (R136): a lithology, optionally a yield. -/
def serveTakeSample (_ : Nat) (ws : List Word) (s : State) : Reply :=
  match ws with
  | [lith] => s.takeSample (one lith) none
  | [lith, yield] => s.takeSample (one lith) (some (one yield))
  | _ => .error .badField

/-- REJECT_SAMPLE (R137). -/
def serveRejectSample (_ : Nat) (ws : List Word) (s : State) : Reply :=
  match ws with
  | [] =>
    withSample s fun a p =>
      answer (u32 p.ordinal ++ u32 p.top ++ u32 p.bottom) (s.dropSample.markRange a .notSampled p.top p.bottom)
  | _ => .error .badField

/-- READ_TRANSIT (R126; level 3, Read). -/
def execReadTransit (r : Request) (s : State) : Result := takeRequest 112 3 .read serveReadTransit r s

/-- READ_PARCEL (R126; level 3, Read). -/
def execReadParcel (r : Request) (s : State) : Result := takeRequest 113 3 .read serveReadParcel r s

/-- SET_PARCEL_STEP (R126; level 1, Setup edit). -/
def execSetParcelStep (r : Request) (s : State) : Result := takeRequest 114 1 .setup serveSetParcelStep r s

/-- TAKE_SAMPLE (R136; level 3, General change). -/
def execTakeSample (r : Request) (s : State) : Result := takeRequest 115 3 .general serveTakeSample r s

/-- REJECT_SAMPLE (R137; level 3, General change). -/
def execRejectSample (r : Request) (s : State) : Result := takeRequest 116 3 .general serveRejectSample r s

end Sys2Proof.Machine
end

