-- ==== Sys2Proof/Machine/Jobs.lean ====
section
/-! DEFINITION. The requests of the Job Table (spec/02): reading, the lifecycle, and the edits of a job's
configuration. -/

namespace Sys2Proof.Machine

/-- The largest price or rate (R15, R24). -/
def maxPrice : Nat := 2147483647

/-! ### Reading (R15) -/

/-- The eight entries of a hole section table as READ_JOB returns them, absent ones 0 (log 14). -/
def sectionWords (sections : List Section) : List Word :=
  ((sections.flatMap fun (e : Section) => u32 e.top ++ u16 e.diameter) ++ List.replicate 24 0).take 24

/-- The payload of READ_JOB (R15). -/
def Job.words (j : Job) : List Word :=
  u16 j.number ++ u16 j.phase.code ++ u32 j.startDepth ++ u32 j.holeDepth ++ u32 j.bitDepth
    ++ u16 j.declared.val ++ u16 (j.rodType.val + 1) ++ u16 j.bha.length ++ u16 j.bha.od ++ u32 j.bha.price
    ++ u16 j.bha.place.code ++ u32 j.b1 ++ u32 j.b2 ++ sectionWords j.sections ++ flag j.down ++ u32 j.settleMark

/-- READ_JOB (R15): a handle. -/
def serveReadJob (_ : Nat) (ws : List Word) (s : State) : Reply :=
  match ws with
  | h :: rest => withJob h s fun _ j => if rest = [] then answer j.words s else .error .badField
  | _ => .error .badField

/-! ### OPEN_JOB (R17) -/

/-- The band boundaries of a job meet R15. -/
def bandsOk (b1 b2 : Nat) : Bool := 1 ≤ b1 && b1 < b2 && b2 ≤ 100000

/-- The length, OD and price of a BHA record meet R15. -/
def bhaOk (length od price : Nat) : Bool := within 50 2000 length && within 60 400 od && price ≤ maxPrice

/-- The initial column of a job (R142). -/
def initialColumn (start : Nat) : List Interval :=
  let bed : Interval :=
    { top := start, bottom := start, lith := 0, cls := .soft, source := .driller, status := .pending
      lossZone := false, water := false, merged := false, yield := none, minutes := 0 }
  if start = 0 then [bed]
  else [{ bed with top := 0, source := .none, status := .notSampled }, bed]

/-- A job as OPEN_JOB makes it (R17). -/
def Job.fresh (number start diameter : Nat) (rodType : Fin 4) (b1 b2 : Nat) (bha : Bha) : Job :=
  { number := number, phase := .opened, startDepth := start, holeDepth := start, bitDepth := 0, declared := 0
    rodType := rodType, bha := bha, b1 := b1, b2 := b2, sections := [⟨0, diameter⟩]
    rates := ⟨Vector.replicate 12 0, Vector.replicate 5 0, 0⟩, down := false, settleMark := start
    column := initialColumn start, sheet := Vector.replicate 40 ⟨0, 0, 0⟩ }

/-- The lowest-numbered FREE slot (R17). -/
def State.freeJobSlot (s : State) : Option (Fin 4) := (List.finRange 4).find? fun i => (s.job? i).isNone

/-- A slot that is not FREE holds the job number. -/
def State.jobNumberHeld (n : Nat) (s : State) : Bool :=
  (List.finRange 4).any fun i => (s.job? i).any fun j => j.number == n

/-- The conditions and the effect of OPEN_JOB on fields in range (R17). -/
def State.openJob (j : Job) (s : State) : Reply :=
  if s.jobNumberHeld j.number then .error .duplicate
  else
    match s.freeJobSlot with
    | none => .error .full
    | some i => answer [(s.jobHandle i).word] (s.setJob i j)

/-- OPEN_JOB (R17): job number, start depth, diameter, rod type, B1, B2, BHA length, OD and price. -/
def serveOpenJob (_ : Nat) (ws : List Word) (s : State) : Reply :=
  match ws with
  | [num, s1, s0, dia, ty, b11, b10, b21, b20, len, od, p1, p0] =>
    if within 1 65535 (one num) && two s1 s0 ≤ 100000 && within 100 900 (one dia)
        && bandsOk (two b11 b10) (two b21 b20) && bhaOk (one len) (one od) (two p1 p0) then
      match indexFrom1 4 (one ty) with
      | none => .error .badField
      | some t =>
        s.openJob (Job.fresh (one num) (two s1 s0) (one dia) t (two b11 b10) (two b21 b20)
          ⟨one len, one od, two p1 p0, .stowed⟩)
    else .error .badField
  | _ => .error .badField

/-! ### The lifecycle (R18 to R21) -/

/-- ACTIVATE_JOB (R18): a handle. -/
def serveActivateJob (_ : Nat) (ws : List Word) (s : State) : Reply :=
  match ws with
  | h :: rest =>
    withUnclosedJob h s fun i j =>
      if rest ≠ [] then .error .badField
      else if s.active?.isSome then .error .busy
      else accept (((s.setJob i { j with phase := .active, bitDepth := 0 }).startParcels j.holeDepth).dropHeld)
  | _ => .error .badField

/-- The refusal of a suspension of the ACTIVE job, if any, in R19's order. -/
def State.suspendRefusal (j : Job) (s : State) : Option Status :=
  if s.engine.op.isSome then some .busy
  else if s.stringEmpty j = false then some .string
  else if s.pumps.circ ≠ .stopped then some .notStopped
  else none

/-- The effects of a suspension (R19). -/
def State.suspendJob (i : Fin 4) (s : State) : State :=
  ((s.modifyJob i fun j => { j with phase := .suspended, bitDepth := 0 }).dropHeld).giveUpParcels i

/-- SUSPEND_JOB (R19): a handle. -/
def serveSuspendJob (_ : Nat) (ws : List Word) (s : State) : Reply :=
  match ws with
  | h :: rest =>
    withUnclosedJob h s fun i j =>
      if rest ≠ [] then .error .badField
      else if j.phase ≠ .active then .error .noJob
      else
        match s.suspendRefusal j with
        | some status => .error status
        | none => accept (s.suspendJob i)
  | _ => .error .badField

/-- The final settlement and the state CLOSED (R20). -/
def State.closeJob (i : Fin 4) (s : State) : State := (s.settle i).modifyJob i fun j => { j with phase := .closed }

/-- CLOSE_JOB (R20): a handle. -/
def serveCloseJob (_ : Nat) (ws : List Word) (s : State) : Reply :=
  match ws with
  | h :: rest =>
    withUnclosedJob h s fun i j =>
      if rest ≠ [] then .error .badField
      else if j.phase = .opened then .error .noJob
      else if j.phase = .active then
        match s.suspendRefusal j with
        | some status => .error status
        | none => accept ((s.suspendJob i).closeJob i)
      else accept (s.closeJob i)
  | _ => .error .badField

/-- A job leaves its slot, whose generation rises by 1 (R21, R29). -/
def State.freeJob (i : Fin 4) (s : State) : State :=
  { s with jobs := s.jobs.set i ⟨nextGen s.jobs[i].gen, none⟩ }

/-- RELEASE_JOB (R21): a handle. -/
def serveReleaseJob (_ : Nat) (ws : List Word) (s : State) : Reply :=
  match ws with
  | h :: rest =>
    withJob h s fun i j =>
      if rest ≠ [] then .error .badField
      else if j.phase ≠ .closed then .error .busy
      else accept (s.freeJob i)
  | _ => .error .badField

/-! ### Configuration (R23 to R28) -/

/-- SET_BHA (R23): a handle, length, OD, price. That the handle stands first is the model's choice (log 34). -/
def serveSetBha (_ : Nat) (ws : List Word) (s : State) : Reply :=
  match ws with
  | h :: rest =>
    withUnclosedJob h s fun i j =>
      match rest with
      | [len, od, p1, p0] =>
        if bhaOk (one len) (one od) (two p1 p0) = false then .error .badField
        else if j.phase = .active ∧ s.mode.mode ≠ .setup then .error .mode
        else if j.bha.place = .inString then .error .string
        else
          accept ((s.setJob i { j with bha := ⟨one len, one od, two p1 p0, .stowed⟩ }).markGeometry
            (j.phase = .active))
      | _ => .error .badField
  | _ => .error .badField

/-- A rate of the rate set replaced, by the item's line number (R24); none when no item has the number. The
DOWN rate, 18, is no item. -/
def Rates.setItem (r : Rates) (item rate : Nat) : Option Rates :=
  if h : 1 ≤ item ∧ item ≤ 12 then some { r with footage := r.footage.set (item - 1) rate }
  else if h : 13 ≤ item ∧ item ≤ 17 then some { r with activity := r.activity.set (item - 13) rate }
  else if item = 35 then some { r with lostMud := rate }
  else none

/-- SET_RATE of an item other than BANDS, after the handle (R24). -/
def State.setRateItem (i : Fin 4) (j : Job) (item rate : Nat) (s : State) : Reply :=
  if maxPrice < rate then .error .badField
  else
    match j.rates.setItem item rate with
    | none => .error .badField
    | some rates => if j.phase = .active then .error .busy else accept (s.setJob i { j with rates := rates })

/-- SET_RATE with the item BANDS, after the handle (R25). -/
def State.setBands (i : Fin 4) (j : Job) (b1 b2 : Nat) (s : State) : Reply :=
  if bandsOk b1 b2 = false then .error .badField
  else if j.phase = .active then .error .busy
  else accept ((s.setJob i { j with b1 := b1, b2 := b2 }).rebandFootage i j b1 b2)

/-- SET_RATE (R24, R25): a handle, an item and a rate, or a handle, the item BANDS, B1 and B2. -/
def serveSetRate (_ : Nat) (ws : List Word) (s : State) : Reply :=
  match ws with
  | h :: rest =>
    withUnclosedJob h s fun i j =>
      match rest with
      | [item, r1, r0] => if one item = 0 then .error .badField else s.setRateItem i j (one item) (two r1 r0)
      | [item, b11, b10, b21, b20] =>
        if one item = 0 then s.setBands i j (two b11 b10) (two b21 b20) else .error .badField
      | _ => .error .badField
  | _ => .error .badField

/-- An entry placed in a hole section table in order of top; the diameter replaced where the top is held
(R26). -/
def placeSection (e : Section) : List Section → List Section
  | [] => [e]
  | x :: rest =>
    if e.top = x.top then e :: rest else if e.top < x.top then e :: x :: rest else x :: placeSection e rest

/-- The mode condition of a hole section edit fails (R26). -/
def sectionModeBad (j : Job) (s : State) : Bool := s.mode.mode ≠ .setup && j.phase == .active

/-- SET_HOLE_SECTION (R26): a handle, top, diameter. -/
def serveSetHoleSection (_ : Nat) (ws : List Word) (s : State) : Reply :=
  match ws with
  | h :: rest =>
    withUnclosedJob h s fun i j =>
      match rest with
      | [t1, t0, dia] =>
        if 100000 < two t1 t0 ∨ within 100 900 (one dia) = false then .error .badField
        else if sectionModeBad j s then .error .mode
        else if (j.sections.all fun e => e.top ≠ two t1 t0) ∧ 8 ≤ j.sections.length then .error .full
        else
          accept ((s.setJob i { j with sections := placeSection ⟨two t1 t0, one dia⟩ j.sections }).markGeometry
            (j.phase = .active))
      | _ => .error .badField
  | _ => .error .badField

/-- CLEAR_HOLE_SECTION (R27): a handle, top. Of a top of 0 on an ACTIVE job outside SETUP it answers MODE, R27's
order and not R32's: the model's choice (log 39). -/
def serveClearHoleSection (_ : Nat) (ws : List Word) (s : State) : Reply :=
  match ws with
  | h :: rest =>
    withUnclosedJob h s fun i j =>
      match rest with
      | [t1, t0] =>
        if 100000 < two t1 t0 then .error .badField
        else if sectionModeBad j s then .error .mode
        else if two t1 t0 = 0 then .error .badField
        else if j.sections.all fun e => e.top ≠ two t1 t0 then .error .notFound
        else
          accept ((s.setJob i
            { j with sections := j.sections.filter fun e => e.top ≠ two t1 t0 }).markGeometry (j.phase = .active))
      | _ => .error .badField
  | _ => .error .badField

/-- DECLARE_DOWN and CLEAR_DOWN (R28): a handle. -/
def serveDown (value : Bool) (_ : Nat) (ws : List Word) (s : State) : Reply :=
  match ws with
  | h :: rest =>
    withUnclosedJob h s fun i j =>
      if rest = [] then accept (s.setJob i { j with down := value }) else .error .badField
  | _ => .error .badField

/-! ### The commands -/

/-- READ_JOB (R15; level 3, Read). -/
def execReadJob (r : Request) (s : State) : Result := takeRequest 16 3 .read serveReadJob r s

/-- OPEN_JOB (R17; level 1, General change). -/
def execOpenJob (r : Request) (s : State) : Result := takeRequest 17 1 .general serveOpenJob r s

/-- ACTIVATE_JOB (R18; level 2, General change). -/
def execActivateJob (r : Request) (s : State) : Result := takeRequest 18 2 .general serveActivateJob r s

/-- SUSPEND_JOB (R19; level 2, General change). -/
def execSuspendJob (r : Request) (s : State) : Result := takeRequest 19 2 .general serveSuspendJob r s

/-- CLOSE_JOB (R20; level 0, General change). -/
def execCloseJob (r : Request) (s : State) : Result := takeRequest 20 0 .general serveCloseJob r s

/-- RELEASE_JOB (R21; level 0, General change). -/
def execReleaseJob (r : Request) (s : State) : Result := takeRequest 21 0 .general serveReleaseJob r s

/-- SET_BHA (R23; level 1, General change). -/
def execSetBha (r : Request) (s : State) : Result := takeRequest 22 1 .general serveSetBha r s

/-- SET_RATE (R24; level 0, General change). -/
def execSetRate (r : Request) (s : State) : Result := takeRequest 23 0 .general serveSetRate r s

/-- SET_RATE with the item BANDS (R25; level 0, General change): the same request code. -/
def execSetRateBands (r : Request) (s : State) : Result := takeRequest 23 0 .general serveSetRate r s

/-- SET_HOLE_SECTION (R26; level 1, General change). -/
def execSetHoleSection (r : Request) (s : State) : Result := takeRequest 24 1 .general serveSetHoleSection r s

/-- CLEAR_HOLE_SECTION (R27; level 1, General change). -/
def execClearHoleSection (r : Request) (s : State) : Result :=
  takeRequest 25 1 .general serveClearHoleSection r s

/-- DECLARE_DOWN (R28; level 2, General change). -/
def execDeclareDown (r : Request) (s : State) : Result := takeRequest 26 2 .general (serveDown true) r s

/-- CLEAR_DOWN (R28; level 2, General change). -/
def execClearDown (r : Request) (s : State) : Result := takeRequest 27 2 .general (serveDown false) r s

end Sys2Proof.Machine
end

