-- ==== Sys2Proof/Machine/Lag.lean ====
section
/-! DEFINITION. The requests on the lag volume (spec/07). -/

namespace Sys2Proof.Machine

/-- A piece as READ_LAG returns it (R119). -/
def Piece.words (p : Piece) : List Word :=
  u32 p.top ++ u32 p.bottom ++ u16 p.diameter ++ u16 p.od ++ u32 p.capacity ++ u32 p.term

/-- The payload of READ_LAG (R119). -/
def State.lagWords (j : Job) (z first : Nat) (s : State) : List Word :=
  let pieces := s.pieces j z
  let lag := s.lag j z
  u32 lag ++ u32 (bhaTop j.bha z) ++ u32 s.transit.surfaceLine ++ u32 (holeCapacity (diameterAt j.sections z))
    ++ u16 pieces.length ++ ((pieces.drop (first - 1)).take 4).flatMap Piece.words
    ++ u32 (strokesToSurface s.pumps.p1.vps lag) ++ u32 (strokesToSurface s.pumps.p2.vps lag)

/-- READ_LAG (R119): a handle, a depth, a first piece. -/
def serveReadLag (_ : Nat) (ws : List Word) (s : State) : Reply :=
  match ws with
  | h :: rest =>
    withJob h s fun _ j =>
      match rest with
      | [z1, z0, first] =>
        if two z1 z0 ≤ 100000 && within 1 9 (one first) then
          answer (s.lagWords j (two z1 z0) (one first)) s
        else .error .badField
      | _ => .error .badField
  | _ => .error .badField

/-- SET_SURFACE_LINE (R113): a volume. -/
def serveSetSurfaceLine (_ : Nat) (ws : List Word) (s : State) : Reply :=
  match ws with
  | [v1, v0] =>
    if two v1 v0 ≤ 500000 then accept { s with transit := { s.transit with surfaceLine := two v1 v0 } }
    else .error .badField
  | _ => .error .badField

/-- READ_LAG (R119; level 3, Read). -/
def execReadLag (r : Request) (s : State) : Result := takeRequest 96 3 .read serveReadLag r s

/-- SET_SURFACE_LINE (R113; level 1, Setup edit). -/
def execSetSurfaceLine (r : Request) (s : State) : Result := takeRequest 97 1 .setup serveSetSurfaceLine r s

end Sys2Proof.Machine
end

