-- ==== Sys2Proof/Decode.lean ====
section
/-! DEFINITION. The command that a frame or a station message spells (spec/11), and the frame or message a
command came in. The rows of spec/opcode_table.json give no bits, so no table word spells a command. -/

namespace Sys2Proof

/-- The command a table word spells: no row of the table gives bits. -/
def decodeTableWord (_nbits _w : Nat) : Option Instr := none

/-! ### Requests (spec/11, 11.4) -/

/-- The item word of a SET_RATE says BANDS (R176). -/
def namesBands (r : Request) : Bool :=
  match r.words with
  | _ :: item :: _ => item == 0
  | _ => false

/-- The request of a code of the catalogue; none where the catalogue has no such code. -/
def requestOfCode (code : Nat) (r : Request) : Option Instr :=
  match code with
  | 0 => some (.nop r)
  | 1 => some (.readMode r)
  | 2 => some (.setMode r)
  | 3 => some (.setWakeWindow r)
  | 4 => some (.setClock r)
  | 5 => some (.initialise r)
  | 16 => some (.readJob r)
  | 17 => some (.openJob r)
  | 18 => some (.activateJob r)
  | 19 => some (.suspendJob r)
  | 20 => some (.closeJob r)
  | 21 => some (.releaseJob r)
  | 22 => some (.setBha r)
  | 23 => some (if namesBands r then .setRateBands r else .setRate r)
  | 24 => some (.setHoleSection r)
  | 25 => some (.clearHoleSection r)
  | 26 => some (.declareDown r)
  | 27 => some (.clearDown r)
  | 32 => some (.readRodType r)
  | 33 => some (.setRodType r)
  | 34 => some (.enrolRod r)
  | 35 => some (.amendRod r)
  | 36 => some (.moveRod r)
  | 37 => some (.retireRod r)
  | 38 => some (.findRod r)
  | 39 => some (.readRod r)
  | 40 => some (.listString r)
  | 41 => some (.readRoster r)
  | 42 => some (.declareStringLost r)
  | 48 => some (.readCentre r)
  | 49 => some (.readOperation r)
  | 50 => some (.makeUp r)
  | 51 => some (.breakOut r)
  | 52 => some (.stow r)
  | 53 => some (.runBha r)
  | 54 => some (.pullBha r)
  | 55 => some (.abortOp r)
  | 56 => some (.readDepth r)
  | 57 => some (.setHeadConfig r)
  | 64 => some (.readPumps r)
  | 65 => some (.setPumpConfig r)
  | 66 => some (.setCircConfig r)
  | 67 => some (.setPumpRate r)
  | 68 => some (.stopCirculation r)
  | 69 => some (.clearCircTotal r)
  | 80 => some (.readTanks r)
  | 81 => some (.setTankConfig r)
  | 82 => some (.swapTanks r)
  | 83 => some (.addWater r)
  | 84 => some (.setBalancePeriod r)
  | 85 => some (.readBalance r)
  | 86 => some (.setLossThresholds r)
  | 87 => some (.addAdditive r)
  | 88 => some (.setAdditivePrice r)
  | 89 => some (.readAdditive r)
  | 90 => some (.receiveAdditive r)
  | 91 => some (.stockCount r)
  | 92 => some (.drawAdditive r)
  | 93 => some (.retireAdditive r)
  | 96 => some (.readLag r)
  | 97 => some (.setSurfaceLine r)
  | 112 => some (.readTransit r)
  | 113 => some (.readParcel r)
  | 114 => some (.setParcelStep r)
  | 115 => some (.takeSample r)
  | 116 => some (.rejectSample r)
  | 128 => some (.readLithology r)
  | 129 => some (.setLithology r)
  | 130 => some (.formationChange r)
  | 131 => some (.reviseInterval r)
  | 132 => some (.noteWater r)
  | 133 => some (.readInterval r)
  | 144 => some (.readSheet r)
  | 145 => some (.readRates r)
  | 146 => some (.settle r)
  | 160 => some (.readAttention r)
  | 161 => some (.clearAttention r)
  | 162 => some (.setAttentionMask r)
  | _ => none

/-- The code and the frame operand of a command that is a request; none for the other commands. -/
def requestCode (i : Instr) : Option (Byte × Request) :=
  match i with
  | .nop r => some (0, r)
  | .readMode r => some (1, r)
  | .setMode r => some (2, r)
  | .setWakeWindow r => some (3, r)
  | .setClock r => some (4, r)
  | .initialise r => some (5, r)
  | .readJob r => some (16, r)
  | .openJob r => some (17, r)
  | .activateJob r => some (18, r)
  | .suspendJob r => some (19, r)
  | .closeJob r => some (20, r)
  | .releaseJob r => some (21, r)
  | .setBha r => some (22, r)
  | .setRate r => some (23, r)
  | .setRateBands r => some (23, r)
  | .setHoleSection r => some (24, r)
  | .clearHoleSection r => some (25, r)
  | .declareDown r => some (26, r)
  | .clearDown r => some (27, r)
  | .readRodType r => some (32, r)
  | .setRodType r => some (33, r)
  | .enrolRod r => some (34, r)
  | .amendRod r => some (35, r)
  | .moveRod r => some (36, r)
  | .retireRod r => some (37, r)
  | .findRod r => some (38, r)
  | .readRod r => some (39, r)
  | .listString r => some (40, r)
  | .readRoster r => some (41, r)
  | .declareStringLost r => some (42, r)
  | .readCentre r => some (48, r)
  | .readOperation r => some (49, r)
  | .makeUp r => some (50, r)
  | .breakOut r => some (51, r)
  | .stow r => some (52, r)
  | .runBha r => some (53, r)
  | .pullBha r => some (54, r)
  | .abortOp r => some (55, r)
  | .readDepth r => some (56, r)
  | .setHeadConfig r => some (57, r)
  | .readPumps r => some (64, r)
  | .setPumpConfig r => some (65, r)
  | .setCircConfig r => some (66, r)
  | .setPumpRate r => some (67, r)
  | .stopCirculation r => some (68, r)
  | .clearCircTotal r => some (69, r)
  | .readTanks r => some (80, r)
  | .setTankConfig r => some (81, r)
  | .swapTanks r => some (82, r)
  | .addWater r => some (83, r)
  | .setBalancePeriod r => some (84, r)
  | .readBalance r => some (85, r)
  | .setLossThresholds r => some (86, r)
  | .addAdditive r => some (87, r)
  | .setAdditivePrice r => some (88, r)
  | .readAdditive r => some (89, r)
  | .receiveAdditive r => some (90, r)
  | .stockCount r => some (91, r)
  | .drawAdditive r => some (92, r)
  | .retireAdditive r => some (93, r)
  | .readLag r => some (96, r)
  | .setSurfaceLine r => some (97, r)
  | .readTransit r => some (112, r)
  | .readParcel r => some (113, r)
  | .setParcelStep r => some (114, r)
  | .takeSample r => some (115, r)
  | .rejectSample r => some (116, r)
  | .readLithology r => some (128, r)
  | .setLithology r => some (129, r)
  | .formationChange r => some (130, r)
  | .reviseInterval r => some (131, r)
  | .noteWater r => some (132, r)
  | .readInterval r => some (133, r)
  | .readSheet r => some (144, r)
  | .readRates r => some (145, r)
  | .settle r => some (146, r)
  | .readAttention r => some (160, r)
  | .clearAttention r => some (161, r)
  | .setAttentionMask r => some (162, r)
  | .request _ => none
  | .release _ => none
  | .presented _ => none
  | .tag _ => none
  | .stowed _ => none
  | .torqueMade _ => none
  | .jointBroken _ => none
  | .bhaSet _ => none
  | .bhaClear _ => none
  | .fault _ => none
  | .coupled _ => none
  | .free _ => none
  | .height _ => none
  | .level _ => none
  | .flow _ => none
  | .strokePulse _ => none
  | .linkReset _ => none
  | .powerUp => none
  | .secondExpiry => none
  | .minuteExpiry => none
  | .rampExpiry _ => none
  | .stillExpiry => none
  | .balanceExpiry => none
  | .mixHoldExpiry => none
  | .wakeWindowExpiry => none
  | .discardedFrame _ => none
  | .discardedStationMessage _ => none

/-- A code names a request of the catalogue. -/
def knownCode (code : Nat) : Bool := (requestOfCode code ⟨⟨false, false⟩, 0, 0, [], []⟩).isSome

/-- The request a header word and the words after it carry. -/
def requestOf (keys : KeyLines) (h : Word) (rest : List Word) (tail : List Bool) : Request :=
  { keys := keys, level := h.extractLsb' 6 2, count := h.extractLsb' 0 6, words := rest, tail := tail }

/-- The command a frame of the command link is, with the key lines as sampled (R177, R179). -/
def commandOfFrame (keys : KeyLines) (f : RawFrame) : Instr :=
  match f.words with
  | [] => .discardedFrame f
  | h :: rest =>
    (requestOfCode (Machine.headerCode h).toNat (requestOf keys h rest f.tail)).getD (.discardedFrame f)

/-- The frame a command of the command link came in; none for the other commands. -/
def frameOf (i : Instr) : Option RawFrame :=
  match i with
  | .discardedFrame f => some f
  | _ => (requestCode i).map fun x => Machine.requestFrame x.1 x.2

/-! ### Station messages (spec/11, 11.1) -/

/-- The command of a kind of station message (R184). -/
def messageOfKind (kind : Nat) (m : Message) : Option Instr :=
  match kind with
  | 1 => some (.request m)
  | 2 => some (.release m)
  | 3 => some (.presented m)
  | 4 => some (.tag m)
  | 5 => some (.stowed m)
  | 6 => some (.torqueMade m)
  | 7 => some (.jointBroken m)
  | 8 => some (.bhaSet m)
  | 9 => some (.bhaClear m)
  | 10 => some (.fault m)
  | 11 => some (.coupled m)
  | 12 => some (.free m)
  | 13 => some (.height m)
  | 14 => some (.level m)
  | 15 => some (.flow m)
  | _ => none

/-- The kind and the operand of a command that is a station message; none for the other commands. -/
def messageKind (i : Instr) : Option (Byte × Message) :=
  match i with
  | .nop _ => none
  | .readMode _ => none
  | .setMode _ => none
  | .setWakeWindow _ => none
  | .setClock _ => none
  | .initialise _ => none
  | .readJob _ => none
  | .openJob _ => none
  | .activateJob _ => none
  | .suspendJob _ => none
  | .closeJob _ => none
  | .releaseJob _ => none
  | .setBha _ => none
  | .setRate _ => none
  | .setRateBands _ => none
  | .setHoleSection _ => none
  | .clearHoleSection _ => none
  | .declareDown _ => none
  | .clearDown _ => none
  | .readRodType _ => none
  | .setRodType _ => none
  | .enrolRod _ => none
  | .amendRod _ => none
  | .moveRod _ => none
  | .retireRod _ => none
  | .findRod _ => none
  | .readRod _ => none
  | .listString _ => none
  | .readRoster _ => none
  | .declareStringLost _ => none
  | .readCentre _ => none
  | .readOperation _ => none
  | .makeUp _ => none
  | .breakOut _ => none
  | .stow _ => none
  | .runBha _ => none
  | .pullBha _ => none
  | .abortOp _ => none
  | .readDepth _ => none
  | .setHeadConfig _ => none
  | .readPumps _ => none
  | .setPumpConfig _ => none
  | .setCircConfig _ => none
  | .setPumpRate _ => none
  | .stopCirculation _ => none
  | .clearCircTotal _ => none
  | .readTanks _ => none
  | .setTankConfig _ => none
  | .swapTanks _ => none
  | .addWater _ => none
  | .setBalancePeriod _ => none
  | .readBalance _ => none
  | .setLossThresholds _ => none
  | .addAdditive _ => none
  | .setAdditivePrice _ => none
  | .readAdditive _ => none
  | .receiveAdditive _ => none
  | .stockCount _ => none
  | .drawAdditive _ => none
  | .retireAdditive _ => none
  | .readLag _ => none
  | .setSurfaceLine _ => none
  | .readTransit _ => none
  | .readParcel _ => none
  | .setParcelStep _ => none
  | .takeSample _ => none
  | .rejectSample _ => none
  | .readLithology _ => none
  | .setLithology _ => none
  | .formationChange _ => none
  | .reviseInterval _ => none
  | .noteWater _ => none
  | .readInterval _ => none
  | .readSheet _ => none
  | .readRates _ => none
  | .settle _ => none
  | .readAttention _ => none
  | .clearAttention _ => none
  | .setAttentionMask _ => none
  | .request m => some (1, m)
  | .release m => some (2, m)
  | .presented m => some (3, m)
  | .tag m => some (4, m)
  | .stowed m => some (5, m)
  | .torqueMade m => some (6, m)
  | .jointBroken m => some (7, m)
  | .bhaSet m => some (8, m)
  | .bhaClear m => some (9, m)
  | .fault m => some (10, m)
  | .coupled m => some (11, m)
  | .free m => some (12, m)
  | .height m => some (13, m)
  | .level m => some (14, m)
  | .flow m => some (15, m)
  | .strokePulse _ => none
  | .linkReset _ => none
  | .powerUp => none
  | .secondExpiry => none
  | .minuteExpiry => none
  | .rampExpiry _ => none
  | .stillExpiry => none
  | .balanceExpiry => none
  | .mixHoldExpiry => none
  | .wakeWindowExpiry => none
  | .discardedFrame _ => none
  | .discardedStationMessage _ => none

/-- The command the bytes of a station message are: a good message of kind 1 to 15 is that kind's row, and
any other is discarded (R183, R184). -/
def commandOfMessage (bytes : List Byte) : Instr :=
  match bytes with
  | [address, kind, v3, v2, v1, v0, sum] =>
    if (Machine.judgeMessage bytes).isNone then
      (messageOfKind kind.toNat ⟨address, v3 ++ v2 ++ v1 ++ v0, sum⟩).getD (.discardedStationMessage bytes)
    else .discardedStationMessage bytes
  | _ => .discardedStationMessage bytes

/-- The bytes a station message command came in; none for the other commands. -/
def bytesOf (i : Instr) : Option (List Byte) :=
  match i with
  | .discardedStationMessage bytes => some bytes
  | _ => (messageKind i).map fun x => Machine.messageBytes x.1 x.2

end Sys2Proof
end

