-- ==== Sys2Proof/WellFormed.lean ====
section
/-! DEFINITION. Which terms of `Instr` are commands: the operand's bits spell the row and no other. -/

namespace Sys2Proof

/-- The bits left over in a frame do not make a word (R177). -/
def tailOk (tail : List Bool) : Bool := tail.length < 16

/-- A frame spells no request of the catalogue (the row DISCARDED_FRAME). -/
def spellsNoRequest (f : RawFrame) : Bool :=
  match f.words with
  | [] => true
  | h :: _ => !knownCode (Machine.headerCode h).toNat

/-- A station message passes the checks of R183. -/
def messageOk (kind : Byte) (m : Message) : Bool := (Machine.judgeMessage (Machine.messageBytes kind m)).isNone

/-- The bytes spell no row of a kind: they fail a check of R183, or their kind is none of 1 to 15 (the row
DISCARDED_STATION_MESSAGE). -/
def spellsNoReport (bytes : List Byte) : Bool :=
  (Machine.judgeMessage bytes).isSome || !Machine.kindNamed bytes

/-- The term is a command. -/
def Instr.wellFormed (i : Instr) : Bool :=
  match i with
  | .nop r => tailOk r.tail
  | .readMode r => tailOk r.tail
  | .setMode r => tailOk r.tail
  | .setWakeWindow r => tailOk r.tail
  | .setClock r => tailOk r.tail
  | .initialise r => tailOk r.tail
  | .readJob r => tailOk r.tail
  | .openJob r => tailOk r.tail
  | .activateJob r => tailOk r.tail
  | .suspendJob r => tailOk r.tail
  | .closeJob r => tailOk r.tail
  | .releaseJob r => tailOk r.tail
  | .setBha r => tailOk r.tail
  | .setRate r => tailOk r.tail && !namesBands r
  | .setRateBands r => tailOk r.tail && namesBands r
  | .setHoleSection r => tailOk r.tail
  | .clearHoleSection r => tailOk r.tail
  | .declareDown r => tailOk r.tail
  | .clearDown r => tailOk r.tail
  | .readRodType r => tailOk r.tail
  | .setRodType r => tailOk r.tail
  | .enrolRod r => tailOk r.tail
  | .amendRod r => tailOk r.tail
  | .moveRod r => tailOk r.tail
  | .retireRod r => tailOk r.tail
  | .findRod r => tailOk r.tail
  | .readRod r => tailOk r.tail
  | .listString r => tailOk r.tail
  | .readRoster r => tailOk r.tail
  | .declareStringLost r => tailOk r.tail
  | .readCentre r => tailOk r.tail
  | .readOperation r => tailOk r.tail
  | .makeUp r => tailOk r.tail
  | .breakOut r => tailOk r.tail
  | .stow r => tailOk r.tail
  | .runBha r => tailOk r.tail
  | .pullBha r => tailOk r.tail
  | .abortOp r => tailOk r.tail
  | .readDepth r => tailOk r.tail
  | .setHeadConfig r => tailOk r.tail
  | .readPumps r => tailOk r.tail
  | .setPumpConfig r => tailOk r.tail
  | .setCircConfig r => tailOk r.tail
  | .setPumpRate r => tailOk r.tail
  | .stopCirculation r => tailOk r.tail
  | .clearCircTotal r => tailOk r.tail
  | .readTanks r => tailOk r.tail
  | .setTankConfig r => tailOk r.tail
  | .swapTanks r => tailOk r.tail
  | .addWater r => tailOk r.tail
  | .setBalancePeriod r => tailOk r.tail
  | .readBalance r => tailOk r.tail
  | .setLossThresholds r => tailOk r.tail
  | .addAdditive r => tailOk r.tail
  | .setAdditivePrice r => tailOk r.tail
  | .readAdditive r => tailOk r.tail
  | .receiveAdditive r => tailOk r.tail
  | .stockCount r => tailOk r.tail
  | .drawAdditive r => tailOk r.tail
  | .retireAdditive r => tailOk r.tail
  | .readLag r => tailOk r.tail
  | .setSurfaceLine r => tailOk r.tail
  | .readTransit r => tailOk r.tail
  | .readParcel r => tailOk r.tail
  | .setParcelStep r => tailOk r.tail
  | .takeSample r => tailOk r.tail
  | .rejectSample r => tailOk r.tail
  | .readLithology r => tailOk r.tail
  | .setLithology r => tailOk r.tail
  | .formationChange r => tailOk r.tail
  | .reviseInterval r => tailOk r.tail
  | .noteWater r => tailOk r.tail
  | .readInterval r => tailOk r.tail
  | .readSheet r => tailOk r.tail
  | .readRates r => tailOk r.tail
  | .settle r => tailOk r.tail
  | .readAttention r => tailOk r.tail
  | .clearAttention r => tailOk r.tail
  | .setAttentionMask r => tailOk r.tail
  | .request m => messageOk 1 m
  | .release m => messageOk 2 m
  | .presented m => messageOk 3 m
  | .tag m => messageOk 4 m
  | .stowed m => messageOk 5 m
  | .torqueMade m => messageOk 6 m
  | .jointBroken m => messageOk 7 m
  | .bhaSet m => messageOk 8 m
  | .bhaClear m => messageOk 9 m
  | .fault m => messageOk 10 m
  | .coupled m => messageOk 11 m
  | .free m => messageOk 12 m
  | .height m => messageOk 13 m
  | .level m => messageOk 14 m
  | .flow m => messageOk 15 m
  | .strokePulse _ => true
  | .linkReset _ => true
  | .powerUp => true
  | .secondExpiry => true
  | .minuteExpiry => true
  | .rampExpiry _ => true
  | .stillExpiry => true
  | .balanceExpiry => true
  | .mixHoldExpiry => true
  | .wakeWindowExpiry => true
  | .discardedFrame f => tailOk f.tail && spellsNoRequest f
  | .discardedStationMessage b => spellsNoReport b

end Sys2Proof
end

