-- ==== Sys2Proof/Machine/Link.lean ====
section
/-! DEFINITION. The commands of the Command Link, the Station Line's own discards and the Attention Unit
(spec/11). -/

namespace Sys2Proof.Machine

/-! ### NOP, LINK_RESET and the discards (R177 to R183) -/

/-- NOP (R181): the frame clocks the buffer out, and a good one leaves it as it was. -/
def execNop (r : Request) (s : State) : Result :=
  let frame := requestFrame 0 r
  let s := s.clockOut (frameBits frame)
  match judgeFrame frame with
  | .error status => .next (s.linkError status)
  | .ok _ => .next s

/-- The frame assembler and the response buffer emptied (R182). -/
def CommandLink.reset (l : CommandLink) : CommandLink := { l with assembler := [], buffer := none }

/-- LINK_RESET (R182) with the bits of a frame gathered before the pulse, which have clocked out as many
bits of the buffer: the frame is cut off, and the assembler and the buffer are empty. -/
def execLinkReset (gathered : List Bool) (s : State) : Result :=
  let s := if gathered = [] then s else s.clockOut gathered.length
  .next { s with link := s.link.reset }

/-- DISCARDED_FRAME (R177, R179): a frame of no bits is ignored; one that fails a check is discarded with that
check's status, and one of an unknown code with BAD_REQUEST. A good frame of a known code is a request, not a
discard, and under this row nothing happens (log 11). -/
def execDiscardedFrame (f : RawFrame) (s : State) : Result :=
  if frameBits f = 0 then .next s
  else
    match judgeFrame f with
    | .error status => .next ((s.clockOut (frameBits f)).linkError status)
    | .ok _ => .next (if spellsNoRequest f then (s.clockOut (frameBits f)).linkError .badRequest else s)

/-- The address byte of a message, 0 where it has none (log 26). -/
def addressByte (bytes : List Byte) : Nat := (bytes.head?.map BitVec.toNat).getD 0

/-- DISCARDED_STATION_MESSAGE (R183, R184): a message that fails a check raises LINK_ERROR, and one of kind 0
or above 15 STATION_UNEXPECTED. A good message of kinds 1 to 15 is a report, not a discard, and under this row
nothing happens (log 11). -/
def execDiscardedStationMessage (bytes : List Byte) (s : State) : Result :=
  match judgeMessage bytes with
  | some reason => .next (s.raise .linkError (.message reason (addressByte bytes)))
  | none =>
    .next (if kindNamed bytes then s
      else s.raise .stationUnexpected (.unexpected (addressByte bytes) (kindByte bytes) none))

/-! ### The attention requests (R187 to R189) -/

/-- The payload of READ_ATTENTION from a kind's place upward (R187). -/
def State.attentionWords (s : State) (first : Nat) : List Word :=
  u16 (pendingFrom s.attn 0).length
    ++ ((pendingFrom s.attn first).take 6).flatMap fun k => AttnEntry.words k s.attn[k]

/-- READ_ATTENTION (R187): a first kind. -/
def serveReadAttention (_ : Nat) (ws : List Word) (s : State) : Reply :=
  match ws with
  | [first] => if within 1 22 (one first) then answer (s.attentionWords (one first - 1)) s else .error .badField
  | _ => .error .badField

/-- CLEAR_ATTENTION (R188): a set of kinds. -/
def serveClearAttention (_ : Nat) (ws : List Word) (s : State) : Reply :=
  match ws with
  | [hi, lo] =>
    if two hi lo < 4194304 then accept { s with attn := clearKinds (two hi lo) s.attn } else .error .badField
  | _ => .error .badField

/-- SET_ATTENTION_MASK (R189): a set of kinds. -/
def serveSetAttentionMask (_ : Nat) (ws : List Word) (s : State) : Reply :=
  match ws with
  | [hi, lo] =>
    if two hi lo < 4194304 then accept { s with attn := maskKinds (two hi lo) s.attn } else .error .badField
  | _ => .error .badField

/-- READ_ATTENTION (R187; level 3, Read). -/
def execReadAttention (r : Request) (s : State) : Result := takeRequest 160 3 .read serveReadAttention r s

/-- CLEAR_ATTENTION (R188; level 3, General change). -/
def execClearAttention (r : Request) (s : State) : Result :=
  takeRequest 161 3 .general serveClearAttention r s

/-- SET_ATTENTION_MASK (R189; level 2, General change). -/
def execSetAttentionMask (r : Request) (s : State) : Result :=
  takeRequest 162 2 .general serveSetAttentionMask r s

end Sys2Proof.Machine
end

