-- ==== Sys2Proof/Machine/Mode.lean ====
section
/-! DEFINITION. The requests of the Mode Controller (spec/01): READ_MODE, SET_MODE, SET_WAKE_WINDOW and
SET_CLOCK. -/

namespace Sys2Proof.Machine

/-- The payload of READ_MODE (R1): mode, window length, window count, wake source, minute count, second
count, geometry mark. -/
def ModeCtl.words (m : ModeCtl) : List Word :=
  u16 m.mode.code ++ u16 m.windowLen ++ u16 ((m.window.map WakeWindow.count).getD 0)
    ++ ((m.window.map fun w => w.source.words).getD (u32 0)) ++ u32 m.minute ++ u16 m.second ++ flag m.geometryMark

/-- READ_MODE (R1). -/
def serveReadMode (_ : Nat) (ws : List Word) (s : State) : Reply :=
  match ws with
  | [] => answer s.mode.words s
  | _ => .error .badField

/-- The refusal of a change out of SETUP or OPERATE, if any (R3). -/
def leaveRefusal (target : RigMode) (s : State) : Option Status :=
  if s.mode.mode = .operate ∧ s.engine.op.isSome then some .busy
  else if target ≠ .operate ∧ s.pumps.circ ≠ .stopped then some .notStopped
  else none

/-- A change of mode to a target other than WAKING (R3, R4). -/
def changeMode (target : RigMode) (s : State) : Reply :=
  if target = s.mode.mode then accept s
  else
    match s.mode.mode with
    | .setup | .operate =>
      match leaveRefusal target s with
      | some status => .error status
      | none => accept (if target = .operate then s.enterOperate else s.enterMode target)
    | .standby | .waking => accept (if target = .operate then s.enterOperate else s.enterMode target)

/-- SET_MODE (R3, R4): a target. -/
def serveSetMode (_ : Nat) (ws : List Word) (s : State) : Reply :=
  match ws with
  | [t] =>
    match RigMode.ofCode (one t) with
    | none => .error .badField
    | some .waking => .error .badField
    | some target => changeMode target s
  | _ => .error .badField

/-- SET_WAKE_WINDOW (R9): a length in minutes. -/
def serveSetWakeWindow (_ : Nat) (ws : List Word) (s : State) : Reply :=
  match ws with
  | [n] =>
    if within 1 60 (one n) then accept (s.setMode { s.mode with windowLen := one n }) else .error .badField
  | _ => .error .badField

/-- SET_CLOCK (R11): a minute count. -/
def serveSetClock (_ : Nat) (ws : List Word) (s : State) : Reply :=
  match ws with
  | [hi, lo] => accept (s.setMode { s.mode with minute := two hi lo, second := 0 })
  | _ => .error .badField

/-- READ_MODE (R1; level 3, Read). -/
def execReadMode (r : Request) (s : State) : Result := takeRequest 1 3 .read serveReadMode r s

/-- SET_MODE (R3, R4; level 2, Mode). -/
def execSetMode (r : Request) (s : State) : Result := takeRequest 2 2 .mode serveSetMode r s

/-- SET_WAKE_WINDOW (R9; level 1, Setup edit). -/
def execSetWakeWindow (r : Request) (s : State) : Result := takeRequest 3 1 .setup serveSetWakeWindow r s

/-- SET_CLOCK (R11; level 0, General change). -/
def execSetClock (r : Request) (s : State) : Result := takeRequest 4 0 .general serveSetClock r s

end Sys2Proof.Machine
end

