-- ==== Sys2Proof/Machine/Pumps.lean ====
section
/-! DEFINITION. The requests of the Pump Controller and the stroke inputs (spec/05). -/

namespace Sys2Proof.Machine

/-! ### Reading (R76) -/

/-- A pump record as READ_PUMPS returns it: the fields of R76's table in its order. A stopped ramp timer reads 0, the
model's choice (log 41). -/
def PumpRec.words (r : PumpRec) : List Word :=
  u16 r.displacement ++ u16 r.efficiency ++ u16 r.ceiling ++ u16 r.rampStep ++ u16 r.rampInterval ++ u16 r.vps
    ++ u16 r.target ++ u16 r.setpoint ++ u16 (r.rampTimer.getD 0) ++ u16 r.inForce ++ u32 r.strokes

/-- The payload of READ_PUMPS (R76). A stopped still timer reads 0, the model's choice (log 41). -/
def State.pumpWords (s : State) : List Word :=
  s.pumps.p1.words ++ s.pumps.p2.words ++ u16 s.pumps.holdRate ++ u16 s.pumps.stillHold ++ u16 s.pumps.circ.code
    ++ u16 (s.pumps.still.getD 0) ++ u32 s.pumps.total ++ u16 s.tanks.condition.code

/-- READ_PUMPS (R76). -/
def serveReadPumps (_ : Nat) (ws : List Word) (s : State) : Reply :=
  match ws with
  | [] => answer s.pumpWords s
  | _ => .error .badField

/-! ### Configuration (R77) -/

/-- SET_PUMP_CONFIG (R77): a pump, displacement, efficiency, ceiling, ramp step, ramp interval. -/
def serveSetPumpConfig (_ : Nat) (ws : List Word) (s : State) : Reply :=
  match ws with
  | [pump, disp, eff, ceil, step, interval] =>
    match pumpOf (one pump) with
    | none => .error .badField
    | some p =>
      if within 1000 40000 (one disp) && within 50 100 (one eff) && within 10 200 (one ceil)
          && within 1 20 (one step) && within 1 60 (one interval) then
        accept (s.setPumps
          ((s.pumps.setPump p
            { s.pumps.pump p with
              displacement := one disp, efficiency := one eff, ceiling := one ceil, rampStep := one step
              rampInterval := one interval, vps := vpsOf (one disp) (one eff) }).reworkPump s.tanks.condition p))
      else .error .badField
  | _ => .error .badField

/-- SET_CIRC_CONFIG (R77): hold rate, still hold. -/
def serveSetCircConfig (_ : Nat) (ws : List Word) (s : State) : Reply :=
  match ws with
  | [hold, still] =>
    if one hold ≤ 50 && within 2 60 (one still) then
      accept (s.setPumps
        ({ s.pumps with holdRate := one hold, stillHold := one still }.rework s.tanks.condition))
    else .error .badField
  | _ => .error .badField

/-! ### Targets (R83 to R85) -/

/-- A new target of a pump, its ramp timer and circulation (R83, R84). -/
def State.retarget (p : Pump) (target : Nat) (s : State) : State :=
  (s.setPumps (s.pumps.setPump p ((s.pumps.pump p).aim target))).targetCirculation p target

/-- SET_PUMP_RATE (R83): a pump, a rate, clamped to the ceiling in force. A rate that gives the target
already held changes nothing (log 20). -/
def serveSetPumpRate (_ : Nat) (ws : List Word) (s : State) : Reply :=
  match ws with
  | [pump, rate] =>
    match pumpOf (one pump) with
    | none => .error .badField
    | some p =>
      let r := s.pumps.pump p
      let target := min (one rate) r.inForce
      answer (u16 target ++ u16 r.inForce) (if target = r.target then s else s.retarget p target)
  | _ => .error .badField

/-- STOP_CIRCULATION (R85). -/
def serveStopCirculation (_ : Nat) (ws : List Word) (s : State) : Reply :=
  match ws with
  | [] =>
    match s.pumps.circ with
    | .stopped => accept s
    | .stopping => .ok ⟨.pending, [], s⟩
    | .running =>
      .ok ⟨.pending, [],
        s.setPumps { s.pumps with p1 := s.pumps.p1.aim 0, p2 := s.pumps.p2.aim 0 }.beginStop⟩
  | _ => .error .badField

/-- CLEAR_CIRC_TOTAL (R80). -/
def serveClearCircTotal (_ : Nat) (ws : List Word) (s : State) : Reply :=
  match ws with
  | [] => accept (s.setPumps { s.pumps with total := 0 })
  | _ => .error .badField

/-! ### The commands -/

/-- READ_PUMPS (R76; level 3, Read). -/
def execReadPumps (r : Request) (s : State) : Result := takeRequest 64 3 .read serveReadPumps r s

/-- SET_PUMP_CONFIG (R77; level 1, Setup edit). -/
def execSetPumpConfig (r : Request) (s : State) : Result := takeRequest 65 1 .setup serveSetPumpConfig r s

/-- SET_CIRC_CONFIG (R77; level 1, Setup edit). -/
def execSetCircConfig (r : Request) (s : State) : Result := takeRequest 66 1 .setup serveSetCircConfig r s

/-- SET_PUMP_RATE (R83; level 2, Rig operation). -/
def execSetPumpRate (r : Request) (s : State) : Result := takeRequest 67 2 .operation serveSetPumpRate r s

/-- STOP_CIRCULATION (R85; level 3, General change). -/
def execStopCirculation (r : Request) (s : State) : Result :=
  takeRequest 68 3 .general serveStopCirculation r s

/-- CLEAR_CIRC_TOTAL (R80; level 2, General change). -/
def execClearCircTotal (r : Request) (s : State) : Result := takeRequest 69 2 .general serveClearCircTotal r s

/-- STROKE_PULSE (R79): the counts, the parcels, the wake and circulation. The order of the last three is the
model's; they touch their own state, and any order leaves the same (log 36). -/
def execStrokePulse (p : Pump) (s : State) : Result :=
  let vps := (s.pumps.pump p).vps
  .next ((((s.setPumps (s.pumps.countStroke p)).advanceParcels vps).wake (.stroke p)).strokeCirculation p)

end Sys2Proof.Machine
end

