-- ==== Sys2Proof/Machine/Reports.lean ====
section
/-! DEFINITION. The station messages, kind by kind (spec/11, 11.1, R184): what each receiver does with a
report that has passed the checks of R183. -/

namespace Sys2Proof.Machine

/-! ### REQUEST and RELEASE (R53, R55, R6, R184) -/

/-- A REQUEST: GAUGE's is discarded, any other goes to the arbiter and to the wake test. -/
def takeRequestReport (m : Message) (st : Station) (s : State) : State :=
  if st = .gauge then s.unexpected m 1 none else (s.stationRequest st).wake (.request st)

/-- A RELEASE: GAUGE's is discarded, any other goes to the arbiter. -/
def takeReleaseReport (m : Message) (st : Station) (s : State) : State :=
  if st = .gauge then s.unexpected m 2 none else s.stationRelease st

/-! ### Reports to the Rod Operation Engine (R60 to R69) -/

/-- A report that fits one step from one station (R69): taken by `k`, and discarded otherwise. -/
def atStep (step : OpStep) (want : Station) (kind : Nat) (k : Operation → State → State) (m : Message)
    (st : Station) (s : State) : State :=
  match s.engine.op with
  | none => s.notFitting m kind
  | some o => if st = want ∧ o.step = step then k o s else s.notFitting m kind

/-- PRESENTED (R60). -/
def takePresented (o : Operation) (s : State) : State := s.toAwaitTag o

/-- A confirmed tag equal to the expected tag (R60 to R63): a MAKE_UP takes its rod to CENTRE, unless it
stands there, releases LOADER and waits for the torque; a BREAK_OUT or STOW waits for the stow. -/
def State.tagMatched (o : Operation) (s : State) : State :=
  match o.kind with
  | .makeUp =>
    let s := match o.source, o.rod with
      | some .centre, _ => s
      | _, some i => s.placeRod i .centre
      | _, none => s
    (s.setStep .awaitTorque o).engineRelease .loader
  | .breakOut => s.setStep .awaitStow o
  | .stow => s.setStep .awaitStow o
  | .runBha => s
  | .pullBha => s

/-- The operation's rod is unverified (R48, R66). -/
def State.doubtRod (o : Operation) (s : State) : State :=
  match o.rod with
  | none => s
  | some i => s.modifyRod i fun r => { r with unverified := true }

/-- A confirmed tag that differs from the expected tag (R66). -/
def State.tagDiffers (o : Operation) (tag : Nat) (s : State) : State :=
  let s := (s.doubtRod o).raise .tagMismatch (.tags (o.expected.getD 0) tag)
  (s.endOp o .mismatch none 0).engineRelease .loader

/-- TAG (R65): the tag register takes the value, is emptied by 0, or finds its twin and confirms it. -/
def takeTag (value : BitVec 32) (o : Operation) (s : State) : State :=
  if value.toNat = 0 then s.setStep .awaitTag { o with tagReg := none }
  else if o.tagReg ≠ some value.toNat then s.setStep .awaitTag { o with tagReg := some value.toNat }
  else if o.expected = some value.toNat then s.tagMatched { o with tagReg := none }
  else s.tagDiffers { o with tagReg := none } value.toNat

/-- The operation's rod stands at its destination (R45). -/
def State.rackOpRod (o : Operation) (s : State) : State :=
  match o.rod, o.dest with
  | some i, some place => s.rackRod i place
  | _, _ => s

/-- STOWED (R62, R63). -/
def takeStowed (o : Operation) (s : State) : State :=
  ((s.rackOpRod o).endOp o .done none 0).engineRelease .loader

/-- The operation's rod joins the string (R46). -/
def State.joinOpRod (o : Operation) (s : State) : State :=
  match o.rod with
  | none => s
  | some i => s.joinRod i

/-- TORQUE_MADE (R60): it fits while HEAD holds the centre. -/
def takeTorqueMade (m : Message) (st : Station) (s : State) : State :=
  match s.engine.op with
  | none => s.notFitting m 6
  | some o =>
    if st = .head ∧ o.step = .awaitTorque ∧ s.arbiter.holder = .head then (s.joinOpRod o).endOp o .done none 0
    else s.notFitting m 6

/-- The operation's rod comes off the string (R47). -/
def State.unjoinOpRod (o : Operation) (s : State) : State :=
  match o.rod with
  | none => s
  | some i => s.unjoinRod i

/-- JOINT_BROKEN (R62): the rod to CENTRE, LOADER requested, then WRENCH released. -/
def takeJointBroken (o : Operation) (s : State) : State :=
  (((s.unjoinOpRod o).setStep .awaitLoader o).engineRequest .loader).engineRelease .wrench

/-- The BHA of the ACTIVE job changes its state, and the string length with it (R64, R38). -/
def State.moveBha (place : BhaPlace) (len : Nat → Nat → Nat) (s : State) : State :=
  match s.active? with
  | none => s
  | some a =>
    match s.job? a with
    | none => s
    | some j =>
      (s.setJob a { j with bha := { j.bha with place := place } }).setStringLen
        (len s.roster.stringLen j.bha.length)

/-- BHA_SET (R64). -/
def takeBhaSet (o : Operation) (s : State) : State :=
  ((s.moveBha .inString (· + ·)).endOp o .done none 0).engineRelease .tongs

/-- BHA_CLEAR (R64). -/
def takeBhaClear (o : Operation) (s : State) : State :=
  ((s.moveBha .stowed (· - ·)).endOp o .done none 0).engineRelease .tongs

/-- FAULT (R68): from a station of the operation, at any step. -/
def takeFault (m : Message) (st : Station) (s : State) : State :=
  match s.engine.op with
  | none => s.notFitting m 10
  | some o =>
    if st ∈ o.kind.stations then s.abandon o .faulted (some st) m.value.toNat else s.notFitting m 10

/-! ### Reports to the Depth Tracker (R72, R73) -/

/-- COUPLED (R72). -/
def takeCoupledReport (m : Message) (st : Station) (s : State) : State :=
  if st = .head then s.takeCoupled else s.unexpected m 11 none

/-- FREE (R72). -/
def takeFreeReport (m : Message) (st : Station) (s : State) : State :=
  if st = .head then s.takeFree else s.unexpected m 12 none

/-- The wake test of a HEIGHT report: the clamped height differs from the last height (R6, R73). -/
def State.heightWakes (reported : Int) (s : State) : State :=
  if s.clampHeight reported ≠ s.depth.lastHeight then s.wake .height else s

/-- HEIGHT (R73). -/
def takeHeightReport (m : Message) (st : Station) (s : State) : State :=
  if st = .head then (s.heightWakes m.value.toInt).takeHeight m.value.toInt else s.unexpected m 13 none

/-! ### Reports to the Tank and Balance Unit (R94, R110) -/

/-- LEVEL (R94). -/
def takeLevelReport (m : Message) (st : Station) (s : State) : State :=
  match levelTank m.value with
  | some t => if st = .gauge then s.takeLevel t (levelValue m.value) else s.unexpected m 14 none
  | none => s.unexpected m 14 none

/-- FLOW (R110, R111). -/
def takeFlowReport (m : Message) (st : Station) (s : State) : State :=
  match flowOf m.value with
  | some v => if st = .gauge then s.takeFlow v else s.unexpected m 15 none
  | none => s.unexpected m 15 none

/-! ### The commands -/

/-- REQUEST (R53, R184), kind 1. -/
def execRequest (m : Message) (s : State) : Result := deliver 1 (takeRequestReport m) m s

/-- RELEASE (R55, R68), kind 2. -/
def execRelease (m : Message) (s : State) : Result := deliver 2 (takeReleaseReport m) m s

/-- PRESENTED (R60), kind 3. -/
def execPresented (m : Message) (s : State) : Result :=
  deliver 3 (atStep .awaitPresent .loader 3 takePresented m) m s

/-- TAG (R65), kind 4. -/
def execTag (m : Message) (s : State) : Result :=
  deliver 4 (atStep .awaitTag .loader 4 (takeTag m.value) m) m s

/-- STOWED (R62, R63), kind 5. -/
def execStowed (m : Message) (s : State) : Result :=
  deliver 5 (atStep .awaitStow .loader 5 takeStowed m) m s

/-- TORQUE_MADE (R60), kind 6. -/
def execTorqueMade (m : Message) (s : State) : Result := deliver 6 (takeTorqueMade m) m s

/-- JOINT_BROKEN (R62), kind 7. -/
def execJointBroken (m : Message) (s : State) : Result :=
  deliver 7 (atStep .awaitBreak .wrench 7 takeJointBroken m) m s

/-- BHA_SET (R64), kind 8. -/
def execBhaSet (m : Message) (s : State) : Result :=
  deliver 8 (atStep .awaitSet .tongs 8 takeBhaSet m) m s

/-- BHA_CLEAR (R64), kind 9. -/
def execBhaClear (m : Message) (s : State) : Result :=
  deliver 9 (atStep .awaitClear .tongs 9 takeBhaClear m) m s

/-- FAULT (R68), kind 10. -/
def execFault (m : Message) (s : State) : Result := deliver 10 (takeFault m) m s

/-- COUPLED (R72), kind 11. -/
def execCoupled (m : Message) (s : State) : Result := deliver 11 (takeCoupledReport m) m s

/-- FREE (R72), kind 12. -/
def execFree (m : Message) (s : State) : Result := deliver 12 (takeFreeReport m) m s

/-- HEIGHT (R73), kind 13. -/
def execHeight (m : Message) (s : State) : Result := deliver 13 (takeHeightReport m) m s

/-- LEVEL (R94), kind 14. -/
def execLevel (m : Message) (s : State) : Result := deliver 14 (takeLevelReport m) m s

/-- FLOW (R110, R111), kind 15. -/
def execFlow (m : Message) (s : State) : Result := deliver 15 (takeFlowReport m) m s

end Sys2Proof.Machine
end

