-- ==== Sys2Proof/Machine/Resets.lean ====
section
/-! DEFINITION. POWER_UP and INITIALISE: what each block's chapter gives for the two resets. -/

namespace Sys2Proof.Machine

/-! ### POWER_UP (R12) -/

/-- The Mode Controller at power-up (R12). -/
def ModeCtl.powerUp (m : ModeCtl) : ModeCtl := { m with mode := .standby, window := none, second := 0 }

/-- The Depth Tracker at power-up (R71). -/
def DepthTracker.powerUp (d : DepthTracker) : DepthTracker := { d with coupled := true, held := none }

/-- Every record at power-up, before POWER_UP is raised: the stored ones kept, the others as their chapters
give (R12, R15, R35, R48, R52, R57, R71, R90, R92, R99, R105, R108, R110, R125, R163, R177, R180, R183,
R185). -/
def State.comeUp (s : State) : State :=
  { s with
    mode := s.mode.powerUp
    roster := s.roster.doubtCentre
    arbiter := Arbiter.idle
    engine := { op := none, tripping := false }
    depth := s.depth.powerUp
    pumps := s.pumps.powerUp s.tanks.powerUp.condition
    tanks := s.tanks.powerUp
    drilling := false
    attn := Vector.ofFn fun k => (s.attn[k]).powerUp
    link := { assembler := [], buffer := none, dataOut := [] }
    receiver := [] }

/-- POWER_UP (R12). -/
def execPowerUp (s : State) : Result := .next (s.comeUp.raise .powerUp .none)

/-! ### INITIALISE (R14) -/

/-- The Mode Controller after initialisation (R14). -/
def ModeCtl.initialised (m : ModeCtl) : ModeCtl := { m with windowLen := 10, geometryMark := false }

/-- A job slot after initialisation (R15, R29). -/
def JobSlot.initialised (slot : JobSlot) : JobSlot := if slot.job.isSome then ⟨nextGen slot.gen, none⟩ else slot

/-- An additive slot after initialisation (R100, R29). -/
def AdditiveSlot.initialised (slot : AdditiveSlot) : AdditiveSlot :=
  if slot.item.isSome then ⟨nextGen slot.gen, none⟩ else slot

/-- The Depth Tracker after initialisation (R71). -/
def DepthTracker.initialised (d : DepthTracker) : DepthTracker :=
  { d with held := none, headStroke := 700, jumpLimit := 30, lastHeight := min d.lastHeight 700 }

/-- The suction condition of the initial records (R99). -/
def initialCondition : Suction := Tank.initial.suction

/-- The Pump Controller after initialisation (R91). -/
def PumpCtl.initialised (c : PumpCtl) : PumpCtl :=
  { c with
    p1 := PumpRec.fresh initialCondition, p2 := PumpRec.fresh initialCondition, holdRate := 20, stillHold := 10
    total := 0 }

/-- The Tank and Balance Unit after initialisation (R92, R99, R100, R105, R108, R110). -/
def TankUnit.initialised (u : TankUnit) : TankUnit :=
  { a := Tank.initial, b := Tank.initial, active := .a, standby := .filling, mixCount := none
    condition := initialCondition, reference := none, additions := 0, elapsed := 0, fill := 0, remainder := 0
    coarse := 0, fine := 9, gain := 200, seepage := 100, severe := 1000, lossClass := .normal
    flowAccepted := none, flowLast := none, additives := Vector.ofFn fun i => (u.additives[i]).initialised }

/-- The Transit List after initialisation (R113, R125). -/
def Transit.initial : Transit := { parcels := [], formingTop := none, births := 0, step := 50, surfaceLine := 60000 }

/-- Every record at its initial value (R14 and each block's chapter); the clock, the coupling flag, the
circulation state, the pending attentions and the Command Link are left. -/
def State.initialised (s : State) : State :=
  { s with
    mode := s.mode.initialised
    jobs := Vector.ofFn fun i => (s.jobs[i]).initialised
    roster := s.roster.initialised
    arbiter := Arbiter.idle
    engine := { op := none, tripping := false }
    depth := s.depth.initialised
    pumps := s.pumps.initialised
    tanks := s.tanks.initialised
    transit := Transit.initial
    lith := lithInitial
    drilling := false
    attn := maskKinds 0 s.attn
    receiver := [] }

/-- INITIALISE's condition and effect (R14). -/
def serveInitialise (_ : Nat) (ws : List Word) (s : State) : Reply :=
  match ws with
  | [] => if s.pumps.circ = .stopped then accept s.initialised else .error .notStopped
  | _ => .error .badField

/-- INITIALISE (R14; level 0, Setup edit). -/
def execInitialise (r : Request) (s : State) : Result := takeRequest 5 0 .setup serveInitialise r s

end Sys2Proof.Machine
end

