-- ==== Sys2Proof/Machine/Rods.lean ====
section
/-! DEFINITION. The requests of the Rod Roster (spec/03). -/

namespace Sys2Proof.Machine

/-! ### Rod types (R33, R34) -/

/-- The three words of a rod type's make-up thresholds and the six of its drilled thresholds. -/
def Thresholds.words (field : Nat → List Word) (t : Thresholds) : List Word := field t.b ++ field t.c ++ field t.d

/-- The payload of READ_ROD_TYPE (R33). -/
def RodType.words (t : RodType) : List Word :=
  u16 t.length ++ u16 t.od ++ t.makeUps.words u16 ++ t.drilled.words u32 ++ u32 t.price

/-- READ_ROD_TYPE (R33): a type number. -/
def serveReadRodType (_ : Nat) (ws : List Word) (s : State) : Reply :=
  match ws with
  | [n] =>
    match indexFrom1 4 (one n) with
    | none => .error .badField
    | some t => answer s.roster.types[t].words s
  | _ => .error .badField

/-- Thresholds of at least 1 that rise strictly from B to D (R33). -/
def Thresholds.rises (t : Thresholds) : Bool := 1 ≤ t.b && t.b < t.c && t.c < t.d

/-- The fields of a rod-type record meet R33; a threshold fits its words. -/
def RodType.valid (t : RodType) : Bool :=
  within 100 1000 t.length && within 40 200 t.od && t.makeUps.rises && t.drilled.rises && t.price ≤ 2147483647

/-- A rod-type record replaced, the rods of the type graded anew, and the geometry mark set when the ACTIVE
job names the type (R34, R5). -/
def State.replaceType (n : Fin 4) (t : RodType) (s : State) : State :=
  (({ s with roster := { s.roster with types := s.roster.types.set n t } }).regradeType n).markGeometry
    (s.activeJob?.any fun (j : Job) => j.rodType == n)

/-- SET_ROD_TYPE (R34): a type number, then every field of the record. -/
def serveSetRodType (_ : Nat) (ws : List Word) (s : State) : Reply :=
  match ws with
  | [n, len, od, mb, mc, md, db1, db0, dc1, dc0, dd1, dd0, p1, p0] =>
    let t : RodType :=
      { length := one len, od := one od, makeUps := ⟨one mb, one mc, one md⟩
        drilled := ⟨two db1 db0, two dc1 dc0, two dd1 dd0⟩, price := two p1 p0 }
    match indexFrom1 4 (one n) with
    | none => .error .badField
    | some i => if t.valid then accept (s.replaceType i t) else .error .badField
  | _ => .error .badField

/-! ### Rod records (R39 to R43) -/

/-- A length of a request: 0, or within 100 to 1,000 cm (R39, R40). -/
def lengthOk (n : Nat) : Bool := n == 0 || within 100 1000 n

/-- A live rod record carries the tag. -/
def State.tagHeld (s : State) (tag : Nat) : Bool := (s.findRod fun r => r.tag == tag).isSome

/-- A rod as ENROL_ROD makes it (R39). -/
def Rod.fresh (tag : Nat) (type : Fin 4) (length : Nat) (place : RackPlace) : Rod :=
  { tag := tag, type := type, length := length, place := place.place, makeUps := 0, drilled := 0, wear := .a
    lastJob := none, unverified := false }

/-- The conditions and the effect of ENROL_ROD on fields in range (R39). -/
def State.enrol (tag : Nat) (type : Fin 4) (length : Nat) (place : RackPlace) (s : State) : Reply :=
  if s.tagHeld tag then .error .duplicate
  else
    match s.emptyRodSlot with
    | none => .error .full
    | some i =>
      if s.rackFree place then
        answer [(s.rodHandle i).word]
          (s.setRod i (Rod.fresh tag type (if length = 0 then s.roster.types[type].length else length) place))
      else .error .full

/-- ENROL_ROD (R39): tag, type, length, destination. -/
def serveEnrolRod (_ : Nat) (ws : List Word) (s : State) : Reply :=
  match ws with
  | [g1, g0, ty, len, pk, p1, p0] =>
    match indexFrom1 4 (one ty), rackPlaceOf pk p1 p0 with
    | some type, some place =>
      if two g1 g0 = 0 ∨ lengthOk (one len) = false then .error .badField
      else s.enrol (two g1 g0) type (one len) place
    | _, _ => .error .badField
  | _ => .error .badField

/-- The rod is in the string or at CENTRE (R40). -/
def Rod.awayFromRacks (r : Rod) : Bool := r.inString || r.place == .centre

/-- The refusal of a request that would amend, move or retire a rod, if any (R37, R40 to R42). -/
def State.rodRefusal (i : Fin 128) (r : Rod) (s : State) : Option Status :=
  if r.awayFromRacks then some .string else if s.opRod = some i then some .busy else none

/-- AMEND_ROD (R40): a handle, tag, length. -/
def serveAmendRod (_ : Nat) (ws : List Word) (s : State) : Reply :=
  match ws with
  | h :: rest =>
    withRod h s fun i r =>
      match rest with
      | [g1, g0, len] =>
        if lengthOk (one len) = false then .error .badField
        else
          match s.rodRefusal i r with
          | some status => .error status
          | none =>
            if two g1 g0 ≠ 0 ∧ two g1 g0 ≠ r.tag ∧ s.tagHeld (two g1 g0) then .error .duplicate
            else
              accept (s.setRod i
                { r with
                  tag := if two g1 g0 = 0 then r.tag else two g1 g0
                  length := if one len = 0 then r.length else one len
                  unverified := false })
      | _ => .error .badField
  | _ => .error .badField

/-- MOVE_ROD (R41): a handle, destination. -/
def serveMoveRod (_ : Nat) (ws : List Word) (s : State) : Reply :=
  match ws with
  | h :: rest =>
    withRod h s fun i r =>
      match rest with
      | [pk, p1, p0] =>
        match rackPlaceOf pk p1 p0 with
        | none => .error .badField
        | some place =>
          match s.rodRefusal i r with
          | some status => .error status
          | none =>
            if place.place = r.place then accept s
            else if s.rackFree place then accept (s.placeRod i place.place)
            else .error .full
      | _ => .error .badField
  | _ => .error .badField

/-- The tally of a retirement reason that RETIRE_ROD takes, 1 WORN or 2 DAMAGED, one more (R42). -/
def Roster.tally (r : Roster) (reason : Nat) : Option Roster :=
  match reason with
  | 1 => some { r with worn := tallyUp r.worn }
  | 2 => some { r with damaged := tallyUp r.damaged }
  | _ => none

/-- RETIRE_ROD (R42): a handle, reason. -/
def serveRetireRod (_ : Nat) (ws : List Word) (s : State) : Reply :=
  match ws with
  | h :: rest =>
    withRod h s fun i r =>
      match rest with
      | [why] =>
        match s.roster.tally (one why) with
        | none => .error .badField
        | some roster =>
          match s.rodRefusal i r with
          | some status => .error status
          | none => accept (({ s with roster := roster }).removeRod i)
      | _ => .error .badField
  | _ => .error .badField

/-- FIND_ROD (R43): a tag. The unverified flag follows the handle and the location (R48, log 14). -/
def serveFindRod (_ : Nat) (ws : List Word) (s : State) : Reply :=
  match ws with
  | [g1, g0] =>
    if two g1 g0 = 0 then .error .badField
    else
      match s.findRod fun r => r.tag == two g1 g0 with
      | none => .error .notFound
      | some i =>
        match s.rod? i with
        | none => .error .notFound
        | some r => answer ([(s.rodHandle i).word] ++ rodPlaceWords r.place ++ flag r.unverified) s
  | _ => .error .badField

/-- A rod's last job as a JOB handle (R35): READ_ROD carries it as one handle word, the model's choice (log 35). -/
def JobName.handle (n : JobName) : Handle := .job n.slot n.gen

/-- The fields of a rod record (R35), the last job as one handle word, 0 when absent (log 35). -/
def Rod.words (r : Rod) : List Word :=
  u32 r.tag ++ u16 (r.type.val + 1) ++ u16 r.length ++ rodPlaceWords r.place ++ u16 r.makeUps ++ u32 r.drilled
    ++ u16 r.wear.code ++ handleWord (r.lastJob.map JobName.handle) ++ flag r.unverified

/-- READ_ROD (R43): a handle. -/
def serveReadRod (_ : Nat) (ws : List Word) (s : State) : Reply :=
  match ws with
  | h :: rest =>
    withRod h s fun i r =>
      if rest = [] then answer (r.words ++ [(s.rodHandle i).word]) s else .error .badField
  | _ => .error .badField

/-! ### The string (R44, R51) -/

/-- LIST_STRING (R44): a position. -/
def serveListString (_ : Nat) (ws : List Word) (s : State) : Reply :=
  match ws with
  | [p1, p0] =>
    if within 1 100000 (two p1 p0) then
      answer (u16 s.stringCount ++ u32 s.roster.stringLen
        ++ ((s.stringRods.drop (two p1 p0 - 1)).take 16).map fun i => (s.rodHandle i).word) s
    else .error .badField
  | _ => .error .badField

/-- The rod stands in the carousel. -/
def Rod.inCarousel (r : Rod) : Bool :=
  match r.place with
  | .carousel _ => true
  | _ => false

/-- The payload of READ_ROSTER (R44). -/
def State.rosterWords (s : State) : List Word :=
  u16 (s.countRods fun _ => true) ++ u16 (s.countRods Rod.inCarousel)
    ++ u16 (s.countRods fun r => r.place == .truck) ++ u16 s.stringCount
    ++ handleWord (s.rodAtCentre.map s.rodHandle) ++ u32 s.roster.stringLen ++ u16 s.roster.worn
    ++ u16 s.roster.damaged ++ u16 s.roster.lost ++ rackPlaceWords s.reserved

/-- READ_ROSTER (R44). -/
def serveReadRoster (_ : Nat) (ws : List Word) (s : State) : Reply :=
  match ws with
  | [] => answer s.rosterWords s
  | _ => .error .badField

/-- One rod of the string retired LOST_IN_HOLE (R51). -/
def State.loseRod (s : State) (i : Fin 128) : State :=
  ({ s with roster := { s.roster with lost := tallyUp s.roster.lost } }).removeRod i

/-- The BHA of the ACTIVE job in slot `a` lost when it is in the string, with its count on the sheet (R51, R168); in
SETUP this change of the BHA record sets the geometry mark (R5, R15, log 33). -/
def State.loseBha (a : Fin 4) (j : Job) (s : State) : State :=
  if j.bha.place = .inString then
    ((s.modifyJob a fun j => { j with bha := { j.bha with place := .lost } }).addUnsettled a bhaLostLine
      1).markGeometry true
  else s

/-- The effects of DECLARE_STRING_LOST on the ACTIVE job in slot `a`, in R51's order. -/
def State.loseString (a : Fin 4) (j : Job) (s : State) : State :=
  let rods := s.stringRods.reverse
  let types := rods.filterMap fun i => (s.rod? i).map Rod.type
  let s := rods.foldl State.loseRod s
  let s := types.foldl (fun s t => s.addUnsettled a (rodsLostLine t) 1) s
  let s := (s.loseBha a j).setStringLen 0
  (s.modifyJob a fun j => { j with bitDepth := 0 }).dropHeld

/-- DECLARE_STRING_LOST (R51). -/
def serveDeclareStringLost (_ : Nat) (ws : List Word) (s : State) : Reply :=
  match ws with
  | [] =>
    match s.active? with
    | none => .error .noJob
    | some a =>
      match s.job? a with
      | none => .error .noJob
      | some j =>
        if s.engine.op.isSome then .error .busy
        else if s.pumps.circ ≠ .stopped then .error .notStopped
        else if s.stringEmpty j then .error .notFound
        else answer (u16 s.stringRods.length ++ flag (j.bha.place = .inString)) (s.loseString a j)
  | _ => .error .badField

/-! ### The commands -/

/-- READ_ROD_TYPE (R33; level 3, Read). -/
def execReadRodType (r : Request) (s : State) : Result := takeRequest 32 3 .read serveReadRodType r s

/-- SET_ROD_TYPE (R34; level 1, Setup edit). -/
def execSetRodType (r : Request) (s : State) : Result := takeRequest 33 1 .setup serveSetRodType r s

/-- ENROL_ROD (R39; level 2, General change). -/
def execEnrolRod (r : Request) (s : State) : Result := takeRequest 34 2 .general serveEnrolRod r s

/-- AMEND_ROD (R40; level 1, General change). -/
def execAmendRod (r : Request) (s : State) : Result := takeRequest 35 1 .general serveAmendRod r s

/-- MOVE_ROD (R41; level 3, General change). -/
def execMoveRod (r : Request) (s : State) : Result := takeRequest 36 3 .general serveMoveRod r s

/-- RETIRE_ROD (R42; level 2, General change). -/
def execRetireRod (r : Request) (s : State) : Result := takeRequest 37 2 .general serveRetireRod r s

/-- FIND_ROD (R43; level 3, Read). -/
def execFindRod (r : Request) (s : State) : Result := takeRequest 38 3 .read serveFindRod r s

/-- READ_ROD (R43; level 3, Read). -/
def execReadRod (r : Request) (s : State) : Result := takeRequest 39 3 .read serveReadRod r s

/-- LIST_STRING (R44; level 3, Read). -/
def execListString (r : Request) (s : State) : Result := takeRequest 40 3 .read serveListString r s

/-- READ_ROSTER (R44; level 3, Read). -/
def execReadRoster (r : Request) (s : State) : Result := takeRequest 41 3 .read serveReadRoster r s

/-- DECLARE_STRING_LOST (R51; level 1, General change). -/
def execDeclareStringLost (r : Request) (s : State) : Result :=
  takeRequest 42 1 .general serveDeclareStringLost r s

end Sys2Proof.Machine
end

