-- ==== Sys2Proof/Machine/Sheet.lean ====
section
/-! DEFINITION. The requests of the Job Sheet (spec/10). -/

namespace Sys2Proof.Machine

/-- A line as READ_SHEET returns it (R160). -/
def State.lineWords (s : State) (j : Job) (line : Fin 40) : List Word :=
  u16 (line.val + 1) ++ flag (s.linePresent j line) ++ i32 j.sheet[line].settled ++ i32 j.sheet[line].unsettled
    ++ i32 j.sheet[line].amount ++ i32 (s.provisional j line) ++ flag (atLimit (s.provisional j line))

/-- The payload of READ_SHEET from a first line (R160). -/
def State.sheetWords (s : State) (j : Job) (first : Nat) : List Word :=
  (((List.finRange 40).drop (first - 1)).take 4).flatMap (s.lineWords j)
    ++ i32 (s.jobTotal j) ++ flag (atLimit (s.jobTotal j)) ++ u32 j.settleMark ++ u32 j.holeDepth ++ u32 j.startDepth

/-- READ_SHEET (R160): a handle, a first line. -/
def serveReadSheet (_ : Nat) (ws : List Word) (s : State) : Reply :=
  match ws with
  | h :: rest =>
    withJob h s fun _ j =>
      match rest with
      | [first] => if within 1 40 (one first) then answer (s.sheetWords j (one first)) s else .error .badField
      | _ => .error .badField
  | _ => .error .badField

/-- The payload of READ_RATES (R160). -/
def State.rateWords (s : State) (j : Job) : List Word :=
  u32 j.b1 ++ u32 j.b2 ++ j.rates.footage.toList.flatMap u32 ++ j.rates.activity.toList.flatMap u32 ++ u32 0
    ++ u32 j.rates.lostMud ++ s.roster.types.toList.flatMap (fun (t : RodType) => u32 t.price) ++ u32 j.bha.price

/-- READ_RATES (R160): a handle. -/
def serveReadRates (_ : Nat) (ws : List Word) (s : State) : Reply :=
  match ws with
  | h :: rest => withJob h s fun _ j => if rest = [] then answer (s.rateWords j) s else .error .badField
  | _ => .error .badField

/-- The payload of SETTLE (R171, R170): the settlement mark and the job total with its mark, after the
settlement. -/
def State.settledWords (i : Fin 4) (s : State) : List Word :=
  match s.job? i with
  | none => []
  | some j =>
    let total := s.jobTotal j
    u32 j.settleMark ++ i32 total ++ flag (atLimit total)

/-- SETTLE (R171): a handle. -/
def serveSettle (_ : Nat) (ws : List Word) (s : State) : Reply :=
  match ws with
  | h :: rest =>
    withUnclosedJob h s fun i j =>
      if rest ≠ [] then .error .badField
      else if j.phase = .opened then .error .noJob
      else answer ((s.settle i).settledWords i) (s.settle i)
  | _ => .error .badField

/-- READ_SHEET (R160; level 3, Read). -/
def execReadSheet (r : Request) (s : State) : Result := takeRequest 144 3 .read serveReadSheet r s

/-- READ_RATES (R160; level 3, Read). -/
def execReadRates (r : Request) (s : State) : Result := takeRequest 145 3 .read serveReadRates r s

/-- SETTLE (R171; level 0, General change). -/
def execSettle (r : Request) (s : State) : Result := takeRequest 146 0 .general serveSettle r s

end Sys2Proof.Machine
end

