-- ==== Sys2Proof/Machine/Strata.lean ====
section
/-! DEFINITION. The requests of the Strata Column (spec/09). -/

namespace Sys2Proof.Machine

/-! ### The lithology table (R139) -/

/-- An entry of the lithology table as READ_LITHOLOGY returns it. -/
def State.lithWords (s : State) (k : Fin 64) : List Word :=
  u16 k.val ++ nameWords s.lith[k].name ++ u16 s.lith[k].cls.code

/-- READ_LITHOLOGY (R139): a first entry. -/
def serveReadLithology (_ : Nat) (ws : List Word) (s : State) : Reply :=
  match ws with
  | [first] =>
    if one first ≤ 63 then
      answer ((((List.finRange 64).drop (one first)).take 8).flatMap s.lithWords) s
    else .error .badField
  | _ => .error .badField

/-- SET_LITHOLOGY (R139): an entry, a name, a class. Entry 0 is fixed. -/
def serveSetLithology (_ : Nat) (ws : List Word) (s : State) : Reply :=
  match ws with
  | [entry, n0, n1, n2, n3, cls] =>
    let name := nameOf n0 n1 n2 n3
    match indexFrom0 64 (one entry), RockClass.ofCode (one cls) with
    | some k, some c =>
      if k = 0 ∨ printable name = false then .error .badField
      else accept { s with lith := s.lith.set k ⟨name, c⟩ }
    | _, _ => .error .badField
  | _ => .error .badField

/-! ### Reading a column (R141) -/

/-- An interval record (R140); its flags are LOSS_ZONE, WATER and MERGED, in that order. -/
def Interval.words (iv : Interval) : List Word :=
  u32 iv.top ++ u32 iv.bottom ++ u16 iv.lith.val ++ u16 iv.cls.code ++ u16 iv.source.code ++ u16 iv.status.code
    ++ u16 (iv.lossZone.toNat + 2 * iv.water.toNat + 4 * iv.merged.toNat) ++ u16 (iv.yield.getD 0)
    ++ u32 iv.minutes

/-- The response of READ_INTERVAL for the interval at a place of the column (R141). -/
def Job.readPlace (j : Job) (k : Nat) (s : State) : Reply :=
  match j.column[k]? with
  | none => .error .notFound
  | some iv =>
    answer (iv.words ++ u16 (k + 1) ++ u16 j.column.length ++ u32 j.holeDepth ++ u32 j.settleMark) s

/-- READ_INTERVAL (R141): a handle, then a depth in two words or an ordinal in one (log 16). -/
def serveReadInterval (_ : Nat) (ws : List Word) (s : State) : Reply :=
  match ws with
  | h :: rest =>
    withJob h s fun _ j =>
      match rest with
      | [d1, d0] =>
        if 100000 < two d1 d0 then .error .badField
        else if j.holeDepth < two d1 d0 then .error .notFound
        else j.readPlace (containing (two d1 d0) j.column) s
      | [n] => if within 1 96 (one n) then j.readPlace (one n - 1) s else .error .badField
      | _ => .error .badField
  | _ => .error .badField

/-! ### Changing a column (R145, R154, R155) -/

/-- The column with the deepest interval in the new rock (R145): a deepest interval without thickness takes
the rock, and otherwise a zero-thickness one is opened at the hole depth in room for one; none when there
is no room. -/
def openBed (table : Vector LithEntry 64) (lith : Fin 64) (hole : Nat) (col : List Interval) :
    Option (List Interval) :=
  match col.getLast? with
  | none => none
  | some deepest =>
    if deepest.top = deepest.bottom then
      some (col.dropLast ++ [{ deepest with lith := lith, cls := table[lith].cls }])
    else
      (seekRoom (fun _ => 1) columnLimit col).map fun roomy =>
        roomy ++
          [{ top := hole, bottom := hole, lith := lith, cls := table[lith].cls, source := .driller
             status := .pending, lossZone := false, water := false, merged := false, yield := none, minutes := 0 }]

/-- FORMATION_CHANGE (R145): a lithology. The bed is opened, then the forming parcel closed (log 23). -/
def serveFormationChange (_ : Nat) (ws : List Word) (s : State) : Reply :=
  match ws with
  | [lith] =>
    match indexFrom0 64 (one lith) with
    | none => .error .badField
    | some l =>
      match s.active? with
      | none => .error .noJob
      | some a =>
        match s.job? a with
        | none => .error .noJob
        | some j =>
          match openBed s.lith l j.holeDepth j.column with
          | none => .error .columnFull
          | some col => accept ((s.setJob a { j with column := col, declared := l }).closeForming a)
  | _ => .error .badField

/-- The number of intervals of the job in a slot. -/
def State.intervalCount (i : Fin 4) (s : State) : Nat := ((s.job? i).map fun j => j.column.length).getD 0

/-- REVISE_INTERVAL after the handle checks (R154). -/
def State.reviseInterval (level : Nat) (i : Fin 4) (j : Job) (top bottom : Nat) (l : Fin 64) (s : State) : Reply :=
  if bottom ≤ top ∨ j.holeDepth < bottom then .error .badField
  else if top < j.settleMark ∧ 1 < level then .error .settled
  else
    match s.bindRange i (.revise l) top bottom with
    | none => .error .columnFull
    | some s' => answer (u16 (s'.intervalCount i)) s'

/-- REVISE_INTERVAL (R154): a handle, top, bottom, lithology. -/
def serveReviseInterval (level : Nat) (ws : List Word) (s : State) : Reply :=
  match ws with
  | h :: rest =>
    withUnclosedJob h s fun i j =>
      match rest with
      | [t1, t0, b1, b0, lith] =>
        match indexFrom0 64 (one lith) with
        | none => .error .badField
        | some l => s.reviseInterval level i j (two t1 t0) (two b1 b0) l
      | _ => .error .badField
  | _ => .error .badField

/-- NOTE_WATER (R155): a handle, depth, yield. -/
def serveNoteWater (_ : Nat) (ws : List Word) (s : State) : Reply :=
  match ws with
  | h :: rest =>
    withUnclosedJob h s fun i j =>
      match rest with
      | [d1, d0, yield] =>
        if 100000 < two d1 d0 ∨ j.holeDepth < two d1 d0 then .error .badField
        else
          accept (s.setColumn i (markContaining (two d1 d0)
            (fun iv => { iv with water := true, yield := some (one yield) }) j.column))
      | _ => .error .badField
  | _ => .error .badField

/-! ### The commands -/

/-- READ_LITHOLOGY (R139; level 3, Read). -/
def execReadLithology (r : Request) (s : State) : Result := takeRequest 128 3 .read serveReadLithology r s

/-- SET_LITHOLOGY (R139; level 1, Setup edit). -/
def execSetLithology (r : Request) (s : State) : Result := takeRequest 129 1 .setup serveSetLithology r s

/-- FORMATION_CHANGE (R145; level 2, General change). -/
def execFormationChange (r : Request) (s : State) : Result :=
  takeRequest 130 2 .general serveFormationChange r s

/-- REVISE_INTERVAL (R154; level 2, General change). -/
def execReviseInterval (r : Request) (s : State) : Result := takeRequest 131 2 .general serveReviseInterval r s

/-- NOTE_WATER (R155; level 2, General change). -/
def execNoteWater (r : Request) (s : State) : Result := takeRequest 132 2 .general serveNoteWater r s

/-- READ_INTERVAL (R141; level 3, Read). -/
def execReadInterval (r : Request) (s : State) : Result := takeRequest 133 3 .read serveReadInterval r s

end Sys2Proof.Machine
end

