-- ==== Sys2Proof/Machine/Tanks.lean ====
section
/-! DEFINITION. The requests of the Tank and Balance Unit: tanks, balance and loss thresholds (spec/06, 6.1,
6.2, 6.4, 6.5). -/

namespace Sys2Proof.Machine

/-! ### Tanks (R92, R93, R98, R104) -/

/-- A tank record as READ_TANKS returns it: the fields of R92's table in its order, then the volume. A stopped mix
hold reads 0, the model's choice (log 41). -/
def TankUnit.tankWords (u : TankUnit) (t : TankId) : List Word :=
  let r := u.tank t
  u32 r.capacity ++ u32 r.mlPerMm ++ u32 r.depth ++ u32 r.level ++ u32 r.low ++ u32 r.empty ++ u32 r.ready
    ++ u16 r.mixHold ++ u16 (if t = u.active then 1 else 2) ++ u16 (if t = u.active then 0 else u.standby.code)
    ++ u16 (if t = u.active then 0 else u.mixCount.getD 0) ++ flag r.fresh ++ u32 r.volume

/-- The payload of READ_TANKS (R92). -/
def TankUnit.words (u : TankUnit) : List Word :=
  u.tankWords .a ++ u.tankWords .b ++ u16 u.condition.code ++ u16 u.lossClass.code

/-- READ_TANKS (R92). -/
def serveReadTanks (_ : Nat) (ws : List Word) (s : State) : Reply :=
  match ws with
  | [] => answer s.tanks.words s
  | _ => .error .badField

/-- A tank's configuration meets R92 and R93. -/
def tankConfigOk (capacity mlPerMm low empty ready mixHold : Nat) : Bool :=
  within 1000 100000 capacity && within 100 200000 mlPerMm && empty ≤ low && low ≤ capacity && ready ≤ capacity
    && within 1 60 mixHold

/-- A tank with a new configuration, its level brought down to the new depth (R93). -/
def Tank.configure (t : Tank) (capacity mlPerMm low empty ready mixHold : Nat) : Tank :=
  let t : Tank :=
    { t with
      capacity := capacity, mlPerMm := mlPerMm, low := low, empty := empty, ready := ready, mixHold := mixHold }
  { t with level := min t.level t.depth }

/-- The balance started anew from the ACTIVE tank's volume, without a reading (R93). -/
def TankUnit.rebase (u : TankUnit) : TankUnit :=
  { u with reference := some u.activeTank.volume, additions := 0, elapsed := 0, fill := 0 }

/-- SET_TANK_CONFIG's effects once a tank's record holds its new values (R93). -/
def State.configured (t : TankId) (s : State) : State :=
  let s :=
    if t ≠ s.tanks.active then s.reworkStandby
    else if s.tanks.reference.isSome then s.setTanks s.tanks.rebase
    else s
  s.suctionTest

/-- SET_TANK_CONFIG (R93): a tank, capacity, mL per mm, low, empty and ready marks, mix hold length. -/
def serveSetTankConfig (_ : Nat) (ws : List Word) (s : State) : Reply :=
  match ws with
  | [tank, c1, c0, m1, m0, l1, l0, e1, e0, r1, r0, mix] =>
    match TankId.ofCode (one tank) with
    | none => .error .badField
    | some t =>
      if tankConfigOk (two c1 c0) (two m1 m0) (two l1 l0) (two e1 e0) (two r1 r0) (one mix) then
        accept ((s.setTanks (s.tanks.setTank t ((s.tanks.tank t).configure (two c1 c0) (two m1 m0) (two l1 l0)
          (two e1 e0) (two r1 r0) (one mix)))).configured t)
      else .error .badField
  | _ => .error .badField

/-- SWAP_TANKS (R98). -/
def serveSwapTanks (_ : Nat) (ws : List Word) (s : State) : Reply :=
  match ws with
  | [] => if s.tanks.standby = .ready then accept (s.swap .request) else .error .notReady
  | _ => .error .badField

/-- Water run into a tank (R104). -/
def State.addWater (t : TankId) (litres : Nat) (s : State) : State :=
  if t ≠ s.tanks.active then s.standbyAddition
  else if s.tanks.reference.isSome then
    s.setTanks { s.tanks with additions := satAdd32 s.tanks.additions (litres * 1000) }
  else s

/-- ADD_WATER (R104): a tank, litres. -/
def serveAddWater (_ : Nat) (ws : List Word) (s : State) : Reply :=
  match ws with
  | [tank, l1, l0] =>
    match TankId.ofCode (one tank) with
    | none => .error .badField
    | some t => if within 1 100000 (two l1 l0) then accept (s.addWater t (two l1 l0)) else .error .badField
  | _ => .error .badField

/-! ### The balance (R105, R108) -/

/-- The payload of READ_BALANCE (R105): reference and its flag, additions, elapsed count, accumulator,
remainder, setting, period, loss class, thresholds. -/
def TankUnit.balanceWords (u : TankUnit) : List Word :=
  u32 (u.reference.getD 0) ++ flag u.reference.isSome ++ u32 u.additions ++ u16 u.elapsed ++ u64 u.fill
    ++ u16 u.remainder ++ u16 u.coarse ++ u16 u.fine ++ u16 u.period ++ u16 u.lossClass.code ++ u16 u.gain
    ++ u16 u.seepage ++ u16 u.severe

/-- READ_BALANCE (R105). -/
def serveReadBalance (_ : Nat) (ws : List Word) (s : State) : Reply :=
  match ws with
  | [] => answer s.tanks.balanceWords s
  | _ => .error .badField

/-- SET_BALANCE_PERIOD (R105): coarse, fine. -/
def serveSetBalancePeriod (_ : Nat) (ws : List Word) (s : State) : Reply :=
  match ws with
  | [coarse, fine] =>
    if one coarse ≤ 6 && one fine ≤ 31 then
      accept (s.setTanks { s.tanks with coarse := one coarse, fine := one fine })
    else .error .badField
  | _ => .error .badField

/-- SET_LOSS_THRESHOLDS (R108): gain, seepage, severe, in litres. -/
def serveSetLossThresholds (_ : Nat) (ws : List Word) (s : State) : Reply :=
  match ws with
  | [gain, seepage, severe] =>
    if within 1 5000 (one gain) && within 1 5000 (one seepage) && one seepage < one severe
        && one severe ≤ 50000 then
      accept (s.setTanks { s.tanks with gain := one gain, seepage := one seepage, severe := one severe })
    else .error .badField
  | _ => .error .badField

/-! ### The commands -/

/-- READ_TANKS (R92; level 3, Read). -/
def execReadTanks (r : Request) (s : State) : Result := takeRequest 80 3 .read serveReadTanks r s

/-- SET_TANK_CONFIG (R93; level 1, Setup edit). -/
def execSetTankConfig (r : Request) (s : State) : Result := takeRequest 81 1 .setup serveSetTankConfig r s

/-- SWAP_TANKS (R98; level 2, General change). -/
def execSwapTanks (r : Request) (s : State) : Result := takeRequest 82 2 .general serveSwapTanks r s

/-- ADD_WATER (R104; level 3, General change). -/
def execAddWater (r : Request) (s : State) : Result := takeRequest 83 3 .general serveAddWater r s

/-- SET_BALANCE_PERIOD (R105; level 1, Setup edit). -/
def execSetBalancePeriod (r : Request) (s : State) : Result :=
  takeRequest 84 1 .setup serveSetBalancePeriod r s

/-- READ_BALANCE (R105; level 3, Read). -/
def execReadBalance (r : Request) (s : State) : Result := takeRequest 85 3 .read serveReadBalance r s

/-- SET_LOSS_THRESHOLDS (R108; level 1, Setup edit). -/
def execSetLossThresholds (r : Request) (s : State) : Result :=
  takeRequest 86 1 .setup serveSetLossThresholds r s

end Sys2Proof.Machine
end

