-- ==== Sys2Proof/Machine/Dispatch.lean ====
section
/-! DEFINITION. The meaning of every command: one arm per constructor of `Instr`. -/

namespace Sys2Proof.Machine

def exec (i : Instr) (s : State) : Host.Outcome State Fault Refusal :=
  match i with
  | .nop r => Sys2Proof.Machine.execNop r s
  | .readMode r => Sys2Proof.Machine.execReadMode r s
  | .setMode r => Sys2Proof.Machine.execSetMode r s
  | .setWakeWindow r => Sys2Proof.Machine.execSetWakeWindow r s
  | .setClock r => Sys2Proof.Machine.execSetClock r s
  | .initialise r => Sys2Proof.Machine.execInitialise r s
  | .readJob r => Sys2Proof.Machine.execReadJob r s
  | .openJob r => Sys2Proof.Machine.execOpenJob r s
  | .activateJob r => Sys2Proof.Machine.execActivateJob r s
  | .suspendJob r => Sys2Proof.Machine.execSuspendJob r s
  | .closeJob r => Sys2Proof.Machine.execCloseJob r s
  | .releaseJob r => Sys2Proof.Machine.execReleaseJob r s
  | .setBha r => Sys2Proof.Machine.execSetBha r s
  | .setRate r => Sys2Proof.Machine.execSetRate r s
  | .setRateBands r => Sys2Proof.Machine.execSetRateBands r s
  | .setHoleSection r => Sys2Proof.Machine.execSetHoleSection r s
  | .clearHoleSection r => Sys2Proof.Machine.execClearHoleSection r s
  | .declareDown r => Sys2Proof.Machine.execDeclareDown r s
  | .clearDown r => Sys2Proof.Machine.execClearDown r s
  | .readRodType r => Sys2Proof.Machine.execReadRodType r s
  | .setRodType r => Sys2Proof.Machine.execSetRodType r s
  | .enrolRod r => Sys2Proof.Machine.execEnrolRod r s
  | .amendRod r => Sys2Proof.Machine.execAmendRod r s
  | .moveRod r => Sys2Proof.Machine.execMoveRod r s
  | .retireRod r => Sys2Proof.Machine.execRetireRod r s
  | .findRod r => Sys2Proof.Machine.execFindRod r s
  | .readRod r => Sys2Proof.Machine.execReadRod r s
  | .listString r => Sys2Proof.Machine.execListString r s
  | .readRoster r => Sys2Proof.Machine.execReadRoster r s
  | .declareStringLost r => Sys2Proof.Machine.execDeclareStringLost r s
  | .readCentre r => Sys2Proof.Machine.execReadCentre r s
  | .readOperation r => Sys2Proof.Machine.execReadOperation r s
  | .makeUp r => Sys2Proof.Machine.execMakeUp r s
  | .breakOut r => Sys2Proof.Machine.execBreakOut r s
  | .stow r => Sys2Proof.Machine.execStow r s
  | .runBha r => Sys2Proof.Machine.execRunBha r s
  | .pullBha r => Sys2Proof.Machine.execPullBha r s
  | .abortOp r => Sys2Proof.Machine.execAbortOp r s
  | .readDepth r => Sys2Proof.Machine.execReadDepth r s
  | .setHeadConfig r => Sys2Proof.Machine.execSetHeadConfig r s
  | .readPumps r => Sys2Proof.Machine.execReadPumps r s
  | .setPumpConfig r => Sys2Proof.Machine.execSetPumpConfig r s
  | .setCircConfig r => Sys2Proof.Machine.execSetCircConfig r s
  | .setPumpRate r => Sys2Proof.Machine.execSetPumpRate r s
  | .stopCirculation r => Sys2Proof.Machine.execStopCirculation r s
  | .clearCircTotal r => Sys2Proof.Machine.execClearCircTotal r s
  | .readTanks r => Sys2Proof.Machine.execReadTanks r s
  | .setTankConfig r => Sys2Proof.Machine.execSetTankConfig r s
  | .swapTanks r => Sys2Proof.Machine.execSwapTanks r s
  | .addWater r => Sys2Proof.Machine.execAddWater r s
  | .setBalancePeriod r => Sys2Proof.Machine.execSetBalancePeriod r s
  | .readBalance r => Sys2Proof.Machine.execReadBalance r s
  | .setLossThresholds r => Sys2Proof.Machine.execSetLossThresholds r s
  | .addAdditive r => Sys2Proof.Machine.execAddAdditive r s
  | .setAdditivePrice r => Sys2Proof.Machine.execSetAdditivePrice r s
  | .readAdditive r => Sys2Proof.Machine.execReadAdditive r s
  | .receiveAdditive r => Sys2Proof.Machine.execReceiveAdditive r s
  | .stockCount r => Sys2Proof.Machine.execStockCount r s
  | .drawAdditive r => Sys2Proof.Machine.execDrawAdditive r s
  | .retireAdditive r => Sys2Proof.Machine.execRetireAdditive r s
  | .readLag r => Sys2Proof.Machine.execReadLag r s
  | .setSurfaceLine r => Sys2Proof.Machine.execSetSurfaceLine r s
  | .readTransit r => Sys2Proof.Machine.execReadTransit r s
  | .readParcel r => Sys2Proof.Machine.execReadParcel r s
  | .setParcelStep r => Sys2Proof.Machine.execSetParcelStep r s
  | .takeSample r => Sys2Proof.Machine.execTakeSample r s
  | .rejectSample r => Sys2Proof.Machine.execRejectSample r s
  | .readLithology r => Sys2Proof.Machine.execReadLithology r s
  | .setLithology r => Sys2Proof.Machine.execSetLithology r s
  | .formationChange r => Sys2Proof.Machine.execFormationChange r s
  | .reviseInterval r => Sys2Proof.Machine.execReviseInterval r s
  | .noteWater r => Sys2Proof.Machine.execNoteWater r s
  | .readInterval r => Sys2Proof.Machine.execReadInterval r s
  | .readSheet r => Sys2Proof.Machine.execReadSheet r s
  | .readRates r => Sys2Proof.Machine.execReadRates r s
  | .settle r => Sys2Proof.Machine.execSettle r s
  | .readAttention r => Sys2Proof.Machine.execReadAttention r s
  | .clearAttention r => Sys2Proof.Machine.execClearAttention r s
  | .setAttentionMask r => Sys2Proof.Machine.execSetAttentionMask r s
  | .request m => Sys2Proof.Machine.execRequest m s
  | .release m => Sys2Proof.Machine.execRelease m s
  | .presented m => Sys2Proof.Machine.execPresented m s
  | .tag m => Sys2Proof.Machine.execTag m s
  | .stowed m => Sys2Proof.Machine.execStowed m s
  | .torqueMade m => Sys2Proof.Machine.execTorqueMade m s
  | .jointBroken m => Sys2Proof.Machine.execJointBroken m s
  | .bhaSet m => Sys2Proof.Machine.execBhaSet m s
  | .bhaClear m => Sys2Proof.Machine.execBhaClear m s
  | .fault m => Sys2Proof.Machine.execFault m s
  | .coupled m => Sys2Proof.Machine.execCoupled m s
  | .free m => Sys2Proof.Machine.execFree m s
  | .height m => Sys2Proof.Machine.execHeight m s
  | .level m => Sys2Proof.Machine.execLevel m s
  | .flow m => Sys2Proof.Machine.execFlow m s
  | .strokePulse p => Sys2Proof.Machine.execStrokePulse p s
  | .linkReset g => Sys2Proof.Machine.execLinkReset g s
  | .powerUp => Sys2Proof.Machine.execPowerUp s
  | .secondExpiry => Sys2Proof.Machine.execSecondExpiry s
  | .minuteExpiry => Sys2Proof.Machine.execMinuteExpiry s
  | .rampExpiry p => Sys2Proof.Machine.execRampExpiry p s
  | .stillExpiry => Sys2Proof.Machine.execStillExpiry s
  | .balanceExpiry => Sys2Proof.Machine.execBalanceExpiry s
  | .mixHoldExpiry => Sys2Proof.Machine.execMixHoldExpiry s
  | .wakeWindowExpiry => Sys2Proof.Machine.execWakeWindowExpiry s
  | .discardedFrame f => Sys2Proof.Machine.execDiscardedFrame f s
  | .discardedStationMessage b => Sys2Proof.Machine.execDiscardedStationMessage b s

end Sys2Proof.Machine
end

