-- ==== Sys2Proof/Safety.lean ====
section
/-! DEFINITION. What counts as a sound state of the 740: one predicate per block, each the shape its chapter
gives the block's records between commands. Statements are made in these terms. -/

namespace Sys2Proof.Machine

/-! ### Requests and handles, as the statements speak of them -/

/-- A request frame of code `code` carries the payload `ws` and passes the checks of frame, level, key and
mode (R179, R31, R2). -/
abbrev Taken (code : Byte) (required : Nat) (cls : ReqClass) (ws : List Word) (r : Request) (s : State) : Prop :=
  judgeFrame (requestFrame code r) = .ok ws ∧ admission required cls r s = none

/-- The state in which a request's owning block finds the 740: the buffer clocked out by the request's frame,
its level and the key lines sampled (R180, R31). -/
def State.heard (code : Byte) (r : Request) (s : State) : State :=
  (s.clockOut (frameBits (requestFrame code r))).sample r

/-- The outcome of a request accepted by its block, which left `t`: in WAKING the window ends, and the
response is placed in the buffer (R7, R180). -/
def accepted (cls : ReqClass) (status : Status) (payload : List Word) (t : State) : Result :=
  .next ((t.endWake cls).respond status payload)

/-- The outcome of a refusal: its status alone, and nothing else changed (R32). -/
def refusedWith (status : Status) (t : State) : Result := .next (t.respond status [])

/-- A handle word names the job context `j` in slot `i` (R30). -/
abbrev NamesJob (w : Word) (s : State) (i : Fin 4) (j : Job) : Prop :=
  jobSlotOf w = some i ∧ s.job? i = some j ∧ s.jobs[i].gen = genOf w

/-- A handle word names the rod record `r` in slot `i` (R30). -/
abbrev NamesRod (w : Word) (s : State) (i : Fin 128) (r : Rod) : Prop :=
  rodSlotOf w = some i ∧ s.rod? i = some r ∧ s.roster.slots[i].gen = genOf w

/-- A handle word names the additive record `x` in slot `i` (R30). -/
abbrev NamesAdditive (w : Word) (s : State) (i : Fin 16) (x : Additive) : Prop :=
  additiveSlotOf w = some i ∧ s.additive? i = some x ∧ s.tanks.additives[i].gen = genOf w

/-- The ACTIVE job is the context `j` in slot `a`. -/
abbrev ActiveIs (s : State) (a : Fin 4) (j : Job) : Prop := s.active? = some a ∧ s.job? a = some j

/-- A good station message of a kind, from the station `st` (R183). -/
abbrev Delivered (kind : Byte) (st : Station) (m : Message) : Prop :=
  judgeMessage (messageBytes kind m) = none ∧ stationOf m.address.toNat = some st

/-! ### Frames -/

/-- The parts of the state, one for each field. -/
inductive Part where
  | mode | jobs | protection | roster | arbiter | engine | depth | pumps | tanks | transit | lith | drilling
  | attn | link | receiver | draws | pending
deriving DecidableEq, Repr

/-- Two states agree on a part. -/
def Part.agree (p : Part) (s t : State) : Prop :=
  match p with
  | .mode => t.mode = s.mode
  | .jobs => t.jobs = s.jobs
  | .protection => t.protection = s.protection
  | .roster => t.roster = s.roster
  | .arbiter => t.arbiter = s.arbiter
  | .engine => t.engine = s.engine
  | .depth => t.depth = s.depth
  | .pumps => t.pumps = s.pumps
  | .tanks => t.tanks = s.tanks
  | .transit => t.transit = s.transit
  | .lith => t.lith = s.lith
  | .drilling => t.drilling = s.drilling
  | .attn => t.attn = s.attn
  | .link => t.link = s.link
  | .receiver => t.receiver = s.receiver
  | .draws => t.draws = s.draws
  | .pending => t.pending = s.pending

/-- `t` is `s` but for the parts listed. -/
structure Frame (changed : List Part) (s t : State) : Prop where
  /-- Every part that is not listed is as it was. -/
  kept : ∀ p, p ∉ changed → p.agree s t

/-! ### The catalogue of requests -/

/-- The catalogue of requests (spec/11, 11.4), code, required level and class, written out from its table;
NOP, which has neither level nor class, is not in it. -/
def catalogue : List (Byte × Nat × ReqClass) :=
  [(1, 3, .read), (2, 2, .mode), (3, 1, .setup), (4, 0, .general), (5, 0, .setup)]
    ++ [(16, 3, .read), (17, 1, .general), (18, 2, .general), (19, 2, .general), (20, 0, .general),
      (21, 0, .general), (22, 1, .general), (23, 0, .general), (24, 1, .general), (25, 1, .general),
      (26, 2, .general), (27, 2, .general)]
    ++ [(32, 3, .read), (33, 1, .setup), (34, 2, .general), (35, 1, .general), (36, 3, .general),
      (37, 2, .general), (38, 3, .read), (39, 3, .read), (40, 3, .read), (41, 3, .read), (42, 1, .general)]
    ++ [(48, 3, .read), (49, 3, .read), (50, 2, .operation), (51, 2, .operation), (52, 2, .operation),
      (53, 2, .operation), (54, 2, .operation), (55, 2, .general), (56, 3, .read), (57, 1, .setup)]
    ++ [(64, 3, .read), (65, 1, .setup), (66, 1, .setup), (67, 2, .operation), (68, 3, .general),
      (69, 2, .general)]
    ++ [(80, 3, .read), (81, 1, .setup), (82, 2, .general), (83, 3, .general), (84, 1, .setup),
      (85, 3, .read), (86, 1, .setup), (87, 1, .general), (88, 0, .general), (89, 3, .read),
      (90, 2, .general), (91, 1, .general), (92, 3, .general), (93, 1, .general)]
    ++ [(96, 3, .read), (97, 1, .setup), (112, 3, .read), (113, 3, .read), (114, 1, .setup),
      (115, 3, .general), (116, 3, .general)]
    ++ [(128, 3, .read), (129, 1, .setup), (130, 2, .general), (131, 2, .general), (132, 2, .general),
      (133, 3, .read)]
    ++ [(144, 3, .read), (145, 3, .read), (146, 0, .general)]
    ++ [(160, 3, .read), (161, 3, .general), (162, 2, .general)]

/-! ### What each command may touch -/

/-- What a request may touch: the response buffer, Protection's lines, the attention set (by a link error),
and the parts its own rule names. -/
def requestParts (own : List Part) : List Part := [.link, .protection, .attn] ++ own

/-- What a station report may touch: the attention set (by a discard or an attention of its own), and the
parts its receiver's rule names. -/
def reportParts (own : List Part) : List Part := .attn :: own

/-- The parts each command's rule lets it change (spec/01 to spec/11): the records of the block that takes it
and of those it is handed on to. -/
def touched (c : Instr) : List Part :=
  match c with
  | .nop _ => [.link, .attn]
  | .readMode _ => requestParts []
  | .setMode _ => requestParts [.mode, .transit, .jobs]
  | .setWakeWindow _ => requestParts [.mode]
  | .setClock _ => requestParts [.mode]
  | .initialise _ =>
    requestParts [.mode, .jobs, .roster, .arbiter, .engine, .depth, .pumps, .tanks, .transit, .lith, .drilling,
      .receiver]
  | .readJob _ => requestParts []
  | .openJob _ => requestParts [.jobs]
  | .activateJob _ => requestParts [.jobs, .transit, .depth]
  | .suspendJob _ => requestParts [.jobs, .transit, .depth]
  | .closeJob _ => requestParts [.jobs, .transit, .depth]
  | .releaseJob _ => requestParts [.jobs]
  | .setBha _ => requestParts [.jobs, .mode]
  | .setRate _ => requestParts [.jobs]
  | .setRateBands _ => requestParts [.jobs]
  | .setHoleSection _ => requestParts [.jobs, .mode]
  | .clearHoleSection _ => requestParts [.jobs, .mode]
  | .declareDown _ => requestParts [.jobs]
  | .clearDown _ => requestParts [.jobs]
  | .readRodType _ => requestParts []
  | .setRodType _ => requestParts [.roster, .mode]
  | .enrolRod _ => requestParts [.roster]
  | .amendRod _ => requestParts [.roster]
  | .moveRod _ => requestParts [.roster]
  | .retireRod _ => requestParts [.roster]
  | .findRod _ => requestParts []
  | .readRod _ => requestParts []
  | .listString _ => requestParts []
  | .readRoster _ => requestParts []
  | .declareStringLost _ => requestParts [.roster, .jobs, .depth, .mode]
  | .readCentre _ => requestParts []
  | .readOperation _ => requestParts []
  | .makeUp _ => requestParts [.engine, .arbiter]
  | .breakOut _ => requestParts [.engine, .arbiter]
  | .stow _ => requestParts [.engine, .arbiter]
  | .runBha _ => requestParts [.engine, .arbiter]
  | .pullBha _ => requestParts [.engine, .arbiter]
  | .abortOp _ => requestParts [.engine, .arbiter]
  | .readDepth _ => requestParts []
  | .setHeadConfig _ => requestParts [.depth]
  | .readPumps _ => requestParts []
  | .setPumpConfig _ => requestParts [.pumps]
  | .setCircConfig _ => requestParts [.pumps]
  | .setPumpRate _ => requestParts [.pumps]
  | .stopCirculation _ => requestParts [.pumps]
  | .clearCircTotal _ => requestParts [.pumps]
  | .readTanks _ => requestParts []
  | .setTankConfig _ => requestParts [.tanks, .pumps, .jobs, .transit]
  | .swapTanks _ => requestParts [.tanks, .pumps, .jobs, .transit]
  | .addWater _ => requestParts [.tanks, .pumps, .jobs, .transit]
  | .setBalancePeriod _ => requestParts [.tanks]
  | .readBalance _ => requestParts []
  | .setLossThresholds _ => requestParts [.tanks]
  | .addAdditive _ => requestParts [.tanks]
  | .setAdditivePrice _ => requestParts [.tanks]
  | .readAdditive _ => requestParts []
  | .receiveAdditive _ => requestParts [.tanks]
  | .stockCount _ => requestParts [.tanks]
  | .drawAdditive _ => requestParts [.tanks, .pumps, .jobs, .transit]
  | .retireAdditive _ => requestParts [.tanks]
  | .readLag _ => requestParts []
  | .setSurfaceLine _ => requestParts [.transit]
  | .readTransit _ => requestParts []
  | .readParcel _ => requestParts []
  | .setParcelStep _ => requestParts [.transit]
  | .takeSample _ => requestParts [.jobs, .transit]
  | .rejectSample _ => requestParts [.jobs, .transit]
  | .readLithology _ => requestParts []
  | .setLithology _ => requestParts [.lith]
  | .formationChange _ => requestParts [.jobs, .transit]
  | .reviseInterval _ => requestParts [.jobs]
  | .noteWater _ => requestParts [.jobs]
  | .readInterval _ => requestParts []
  | .readSheet _ => requestParts []
  | .readRates _ => requestParts []
  | .settle _ => requestParts [.jobs]
  | .readAttention _ => requestParts []
  | .clearAttention _ => requestParts []
  | .setAttentionMask _ => requestParts []
  | .request _ => reportParts [.arbiter, .engine, .mode]
  | .release _ => reportParts [.arbiter, .engine]
  | .presented _ => reportParts [.engine]
  | .tag _ => reportParts [.engine, .arbiter, .roster]
  | .stowed _ => reportParts [.engine, .arbiter, .roster]
  | .torqueMade _ => reportParts [.engine, .roster]
  | .jointBroken _ => reportParts [.engine, .arbiter, .roster]
  | .bhaSet _ => reportParts [.jobs, .roster, .engine, .arbiter]
  | .bhaClear _ => reportParts [.jobs, .roster, .engine, .arbiter]
  | .fault _ => reportParts [.engine, .arbiter]
  | .coupled _ => reportParts [.depth]
  | .free _ => reportParts [.depth, .arbiter, .engine, .transit, .jobs]
  | .height _ => reportParts [.jobs, .roster, .transit, .tanks, .drilling, .depth, .mode]
  | .level _ => reportParts [.tanks, .pumps, .jobs, .transit]
  | .flow _ => reportParts [.tanks, .jobs, .transit]
  | .strokePulse _ => [.pumps, .transit, .jobs, .mode, .attn]
  | .linkReset _ => [.link]
  | .powerUp => [.mode, .roster, .arbiter, .engine, .depth, .pumps, .tanks, .drilling, .attn, .link, .receiver]
  | .secondExpiry => [.mode, .pumps, .attn, .arbiter, .engine, .tanks, .jobs, .transit, .drilling, .draws]
  | .minuteExpiry => [.mode, .jobs, .attn, .drilling, .engine, .tanks, .pumps, .transit, .draws]
  | .rampExpiry _ => [.pumps]
  | .stillExpiry => [.pumps, .attn, .arbiter, .engine]
  | .balanceExpiry => [.tanks, .attn, .jobs, .transit]
  | .mixHoldExpiry => [.tanks, .attn, .jobs, .transit, .pumps]
  | .wakeWindowExpiry => [.mode, .attn]
  | .discardedFrame _ => [.link, .attn]
  | .discardedStationMessage _ => [.attn]

/-- The parts the end of a wake window may change: the entry into OPERATE (R5, R7). -/
def wakeEnd : List Part := [.mode, .transit, .jobs, .attn]

/-! ### Mode Controller -/

/-- The rig clock's counts lie in their ranges (R10). -/
abbrev State.ClockOk (s : State) : Prop := s.mode.second ≤ 59 ∧ s.mode.minute ≤ max32

/-- The wake window is present exactly while the mode is WAKING, with a count of 1 to 60, and its length
is 1 to 60 (R1). -/
abbrev State.WindowOk (s : State) : Prop :=
  1 ≤ s.mode.windowLen ∧ s.mode.windowLen ≤ 60 ∧ (s.mode.window.isSome = true ↔ s.mode.mode = .waking)
    ∧ s.mode.window.all (fun w => within 1 60 w.count) = true

/-! ### Slots and handles -/

/-- A generation lies in 1 to 255 (R29). -/
abbrev GenOk (g : Nat) : Prop := 1 ≤ g ∧ g ≤ 255

/-- Every slot of the three tables holds a generation of 1 to 255 (R29). -/
abbrev State.GenerationsOk (s : State) : Prop :=
  (∀ i : Fin 4, GenOk s.jobs[i].gen) ∧ (∀ i : Fin 128, GenOk s.roster.slots[i].gen)
    ∧ ∀ i : Fin 16, GenOk s.tanks.additives[i].gen

/-! ### Attention set -/

/-- A pending kind has a count of 1 to 255 and a detail; any other has neither (R185, R188). -/
abbrev AttnEntry.Ok (e : AttnEntry) : Prop :=
  if e.pending then 1 ≤ e.count ∧ e.count ≤ 255 ∧ e.detail.isSome else e.count = 0 ∧ e.detail = none

/-- The attention set's entries are each as R185 gives. -/
abbrev State.AttentionsOk (s : State) : Prop := ∀ k : Fin 22, AttnEntry.Ok s.attn[k]

/-! ### Pumps and circulation -/

/-- A pump's configuration lies in its ranges and its vps is worked out from it (R76, R78). -/
abbrev PumpRec.ConfigOk (r : PumpRec) : Prop :=
  1000 ≤ r.displacement ∧ r.displacement ≤ 40000 ∧ 50 ≤ r.efficiency ∧ r.efficiency ≤ 100 ∧ 10 ≤ r.ceiling
    ∧ r.ceiling ≤ 200 ∧ 1 ≤ r.rampStep ∧ r.rampStep ≤ 20 ∧ 1 ≤ r.rampInterval ∧ r.rampInterval ≤ 60
    ∧ r.vps = vpsOf r.displacement r.efficiency

/-- The ceiling in force follows the suction condition, target and setpoint stay under it, and the ramp
timer runs exactly while they differ (R76, R81, R82, R84). -/
abbrev PumpRec.RunOk (condition : Suction) (holdRate : Nat) (r : PumpRec) : Prop :=
  r.inForce = ceilingFor condition holdRate r.ceiling ∧ r.target ≤ r.inForce ∧ r.setpoint ≤ r.inForce
    ∧ (r.rampTimer = none ↔ r.setpoint = r.target)

/-- Both pump records are sound (R76, R78, R81, R82, R84). -/
abbrev State.PumpsOk (s : State) : Prop :=
  s.pumps.p1.ConfigOk ∧ s.pumps.p2.ConfigOk ∧ s.pumps.p1.RunOk s.tanks.condition s.pumps.holdRate
    ∧ s.pumps.p2.RunOk s.tanks.condition s.pumps.holdRate

/-- The still timer runs exactly in STOPPING, both targets are 0 outside RUNNING, and both setpoints are 0 in
STOPPED (spec/05, 5.5). -/
abbrev State.CirculationOk (s : State) : Prop :=
  (s.pumps.still.isSome = true ↔ s.pumps.circ = .stopping)
    ∧ (s.pumps.circ ≠ .running → s.pumps.p1.target = 0 ∧ s.pumps.p2.target = 0)
    ∧ (s.pumps.circ = .stopped → s.pumps.p1.setpoint = 0 ∧ s.pumps.p2.setpoint = 0)

/-! ### Well centre -/

/-- The holder is never GAUGE and never in the request set (R52, R53). -/
abbrev State.CentreOk (s : State) : Prop := s.arbiter.holder ≠ .gauge ∧ s.arbiter.has s.arbiter.holder = false

/-- The steps of a kind of operation (spec/04, 4.2). -/
def OpKind.steps : OpKind → List OpStep
  | .makeUp => [.awaitLoader, .awaitPresent, .awaitTag, .awaitTorque]
  | .breakOut => [.awaitWrench, .awaitBreak, .awaitLoader, .awaitTag, .awaitStow]
  | .stow => [.awaitLoader, .awaitTag, .awaitStow]
  | .runBha => [.awaitTongs, .awaitSet]
  | .pullBha => [.awaitTongs, .awaitClear]

/-- The step of the operation in flight is one of its kind's; the station it waits for is in the request
set, and the station that works at it holds the centre (spec/04, 4.2). -/
abbrev State.EngineOk (s : State) : Prop :=
  s.engine.op.all (fun o =>
    o.kind.steps.contains o.step && o.step.awaits.all s.arbiter.has
      && o.step.holds.all fun st => s.arbiter.holder == st) = true

/-- The last height lies within the head stroke, and the tracker's configuration in its ranges (R71). -/
abbrev State.DepthOk (s : State) : Prop :=
  s.depth.lastHeight ≤ s.depth.headStroke ∧ 100 ≤ s.depth.headStroke ∧ s.depth.headStroke ≤ 3000
    ∧ 5 ≤ s.depth.jumpLimit ∧ s.depth.jumpLimit ≤ 100

/-! ### Tanks -/

/-- A tank's configuration lies in its ranges and its level within its depth (R92, R93). -/
abbrev Tank.Ok (t : Tank) : Prop :=
  1000 ≤ t.capacity ∧ t.capacity ≤ 100000 ∧ 100 ≤ t.mlPerMm ∧ t.mlPerMm ≤ 200000 ∧ t.empty ≤ t.low
    ∧ t.low ≤ t.capacity ∧ t.ready ≤ t.capacity ∧ 1 ≤ t.mixHold ∧ t.mixHold ≤ 60 ∧ t.level ≤ t.depth

/-- Both tanks are sound, a READY standby tank has no mix hold running, and without a valid reference the
balance has counted no seconds (R92, R95, R105). -/
abbrev State.TanksOk (s : State) : Prop :=
  s.tanks.a.Ok ∧ s.tanks.b.Ok ∧ (s.tanks.standby = .ready → s.tanks.mixCount = none)
    ∧ s.tanks.remainder ≤ 999 ∧ s.tanks.coarse ≤ 6 ∧ s.tanks.fine ≤ 31
    ∧ (s.tanks.reference = none → s.tanks.elapsed = 0)

/-- On hand plus drawn is received plus shortfall (R100). -/
abbrev Additive.Balanced (x : Additive) : Prop := x.onHand + x.drawn = x.received + x.shortfall

/-- No two live rods carry one tag (R39, R40). -/
abbrev State.TagsOk (s : State) : Prop :=
  ∀ i k : Fin 128, ∀ x y : Rod, s.rod? i = some x → s.rod? k = some y → x.tag = y.tag → i = k

/-- No two rods stand in one carousel slot, and none stands in the slot an operation reserves (R36, R37). -/
abbrev State.RacksOk (s : State) : Prop :=
  (∀ i k : Fin 128, ∀ x y : Rod, ∀ slot : Fin 40, s.rod? i = some x → s.rod? k = some y →
      x.place = .carousel slot → y.place = .carousel slot → i = k)
    ∧ ∀ i : Fin 128, ∀ x : Rod, ∀ slot : Fin 40, s.rod? i = some x → s.reserved = some (.carousel slot) →
      x.place ≠ .carousel slot

/-- The string positions in use are 1 to n, no two rods share one, and at most one rod is at CENTRE (R36). -/
abbrev State.PositionsOk (s : State) : Prop :=
  (∀ i : Fin 128, (s.rod? i).all (fun x =>
      match x.place with
      | .string p => within 1 s.stringCount p && s.rodAtPosition p == some i
      | .centre => s.rodAtCentre == some i
      | _ => true) = true)
    ∧ s.stringRods.length = s.stringCount

/-- The lengths of the rods in the string, together (R38). -/
def State.rodsLength (s : State) : Nat :=
  ((List.finRange 128).map fun i => (((s.rod? i).filter Rod.inString).map Rod.length).getD 0).sum

/-- The ACTIVE job's BHA is in the string. -/
def State.bhaIn (s : State) : Bool := s.activeJob?.any fun (j : Job) => j.bha.place == .inString

/-- What the operation in flight has found and keeps: the rod of a MAKE_UP outside the string, with room for it
(R59), the rod of a BREAK_OUT on top of the string until the joint is broken, then at CENTRE (R62), the rod of a
STOW at CENTRE (R63), and the BHA out of the string or in it (R64). -/
def State.opHolds (s : State) (o : Operation) : Bool :=
  match o.kind with
  | .makeUp =>
    s.bhaIn && (o.rod.bind s.rod?).any (fun x =>
        !x.inString && s.roster.stringLen + x.length ≤ 100000
          && ((o.step != .awaitTorque && o.source != some .centre) || x.place == .centre))
      && (s.rodAtCentre.isNone || s.rodAtCentre == o.rod)
  | .breakOut =>
    s.bhaIn && (o.rod.bind s.rod?).any fun x =>
      if o.step = .awaitWrench ∨ o.step = .awaitBreak then
        x.place == .string s.stringCount && s.rodAtCentre.isNone
      else x.place == .centre
  | .stow => (o.rod.bind s.rod?).any fun x => x.place == .centre
  | .runBha => s.activeJob?.isSome && !s.bhaIn
  | .pullBha => s.bhaIn && s.stringCount == 0

/-- The string (R36, R38, R59): its positions sound; the string length the BHA's, when that is in the string, and
its rods' together, and at most 100,000 cm; no rod in it without the BHA; no BHA in it but the ACTIVE job's, and
none longer than 2,000 cm; and what the operation in flight has found still so. -/
abbrev State.StringOk (s : State) : Prop :=
  s.PositionsOk
    ∧ s.roster.stringLen = (if s.bhaIn then (s.activeJob?.map fun j => j.bha.length).getD 0 else 0) + s.rodsLength
    ∧ s.roster.stringLen ≤ 100000
    ∧ (s.bhaIn = false → s.stringCount = 0)
    ∧ (∀ i : Fin 4, (s.job? i).all (fun j =>
        j.bha.length ≤ 2000 && (j.phase == .active || j.bha.place != .inString)) = true)
    ∧ s.engine.op.all s.opHolds = true

/-- Every live additive's account balances (R100). -/
abbrev State.StoreOk (s : State) : Prop :=
  ∀ i : Fin 16, (s.additive? i).all (fun x => decide x.Balanced) = true

/-! ### Transit List -/

/-- Every ARRIVED parcel is older than every parcel in transit (R125). -/
def arrivedFirst : List Parcel → Bool
  | [] => true
  | p :: rest => if p.arrived then arrivedFirst rest else rest.all fun q => !q.arrived

/-- At most 48 parcels, at most 4 ARRIVED, and none of them behind one in transit (R125). -/
abbrev State.TransitOk (s : State) : Prop :=
  s.transit.parcels.length ≤ parcelLimit ∧ arrivedCount s.transit.parcels ≤ arrivedLimit
    ∧ arrivedFirst s.transit.parcels = true

/-! ### Jobs and columns -/

/-- At most one job is ACTIVE (R18). -/
abbrev State.OneActive (s : State) : Prop := ∀ a b : Fin 4, s.isActive a = true → s.isActive b = true → a = b

/-- Without an ACTIVE job the Transit List is empty and has no forming parcel; with one it has a forming top
(R125, R135). -/
abbrev State.FormingOk (s : State) : Prop :=
  (s.active? = none → s.transit.formingTop = none ∧ s.transit.parcels = [])
    ∧ (s.active? ≠ none → s.transit.formingTop ≠ none)

/-- The parcels of the ACTIVE job lie in its hole, each at least 1 cm long, and so does the forming top
(R125, R127). -/
abbrev State.ParcelsOk (s : State) : Prop :=
  s.activeJob?.all (fun j =>
    s.transit.parcels.all (fun p => p.top < p.bottom && p.bottom ≤ j.holeDepth)
      && s.transit.formingTop.all fun t => t ≤ j.holeDepth) = true

/-- Intervals that follow one another from a depth without a gap, each at least 1 cm thick but the last
(R140). -/
def chained (top : Nat) : List Interval → Bool
  | [] => false
  | [iv] => iv.top == top && iv.top ≤ iv.bottom
  | iv :: rest => iv.top == top && iv.top < iv.bottom && chained iv.bottom rest

/-- A job's column: 1 to 96 intervals covering [0, hole depth) (R140). -/
abbrev Job.ColumnOk (j : Job) : Prop :=
  chained 0 j.column = true ∧ j.column.length ≤ columnLimit ∧ columnBottom j.column = j.holeDepth

/-- Every job's column is sound (R140). -/
abbrev State.ColumnsOk (s : State) : Prop :=
  ∀ i : Fin 4, (s.job? i).all (fun j => decide j.ColumnOk) = true

/-- The bit depth of a job that is not ACTIVE is 0, and the depths of every job are in order (R16, R174). -/
abbrev State.DepthsOk (s : State) : Prop :=
  ∀ i : Fin 4, (s.job? i).all (fun j =>
    decide (j.startDepth ≤ j.settleMark ∧ j.settleMark ≤ j.holeDepth ∧ (j.phase ≠ .active → j.bitDepth = 0))) = true

/-- The footage of a class and a band on a job's sheet, settled and unsettled together (R161). -/
def Job.footage (j : Job) (c : RockClass) (band : Fin 3) : Int :=
  j.sheet[footageLine c band].settled + j.sheet[footageLine c band].unsettled

/-- For every class and band, settled plus unsettled footage is the thickness of that class in that band of
the column between start depth and hole depth (R161). -/
abbrev Job.FootageOk (j : Job) : Prop :=
  ∀ c ∈ RockClass.all, ∀ band : Fin 3, j.footage c band = (j.thickness j.b1 j.b2 c band : Int)

/-- The settled footage of a job lies between 0 and 100,000 cm on every line, its hole is at most 100,000 cm
deep and its bands are in order (R15, R161). -/
abbrev Job.FootageBounded (j : Job) : Prop :=
  j.holeDepth ≤ 100000 ∧ j.b1 ≤ j.b2 ∧
    ∀ c ∈ RockClass.all, ∀ band : Fin 3,
      0 ≤ j.sheet[footageLine c band].settled ∧ j.sheet[footageLine c band].settled ≤ 100000

/-- Every job's footage figures are bounded (R161). -/
abbrev State.FootageBounded (s : State) : Prop :=
  ∀ i : Fin 4, (s.job? i).all (fun j => decide j.FootageBounded) = true

/-- Every job's hole is at most 100,000 cm deep (R16). -/
abbrev State.HolesBounded (s : State) : Prop :=
  ∀ i : Fin 4, (s.job? i).all (fun j => decide (j.holeDepth ≤ 100000)) = true

/-- Every job's footage matches its column (R161). -/
abbrev State.FootageOk (s : State) : Prop :=
  ∀ i : Fin 4, (s.job? i).all (fun j => decide j.FootageOk) = true

/-! ### Lithology -/

/-- Entry 0 of the lithology table is UNKNOWN, class 1 (R139). -/
abbrev State.LithologyOk (s : State) : Prop := s.lith[0] = ⟨unknownName, .soft⟩

end Sys2Proof.Machine
end

