-- ==== Sys2Proof/Certificates/Slice0/Obligations.lean ====
section
/-! DEFINITION. The statements about the 740 that the provers prove. In a statement about a request, `r` is the
request's operand, `s` the state it finds, and `s.heard code r` that state with the response buffer clocked
out and Protection's lines sampled; `Taken` says that the frame is good and that level, key and mode let the
request through. `accepted` and `refusedWith` place the response in the buffer. -/

open Sys2Proof Sys2Proof.Machine

/-! ### The machine as a whole -/

/-- A step takes the command at the front of the queue and runs it with the queue's rest; with nothing waiting the
740 idles. The queue and the idling are the model's choice (log 10). -/
def Obligations.StepTakesTheFrontCommand : Prop :=
  (∀ (c : Instr) (rest : List Instr) (s : State),
      step { s with pending := c :: rest } = exec c { s with pending := rest })
    ∧ ∀ s : State, s.pending = [] → step s = .next s

/-- Each command changes only the parts its rule names, the queue never among them; a command taken in WAKING may
besides bring the entry into OPERATE that ends the wake window (R7). -/
def Obligations.CommandsTouchOnlyTheirOwnParts : Prop :=
  ∀ (c : Instr) (s t : State), exec c s = .next t →
    Frame (touched c ++ if s.mode.mode = .waking then wakeEnd else []) s t

/-- Every command leaves a next state, no command ends in a fault or a refusal. A good frame of a known code is a
request and a good message of kinds 1 to 15 a report, whatever row carries it: under the two discard rows it is no
discard and nothing happens, the model's choice (log 11). -/
def Obligations.EveryCommandCompletes : Prop :=
  (∀ (c : Instr) (s : State), ∃ t, exec c s = .next t)
    ∧ (∀ (f : RawFrame) (ws : List Word) (s : State), judgeFrame f = .ok ws → spellsNoRequest f = false →
        exec (.discardedFrame f) s = .next s)
    ∧ ∀ (b : List Byte) (s : State), judgeMessage b = none → kindNamed b = true →
        exec (.discardedStationMessage b) s = .next s

/-! ### Frames, messages and the CRC -/

/-- A frame spells exactly one command: the frame of a well-formed command spells that command, and every frame is
the frame of the well-formed command it spells. -/
def Obligations.FramesSpellCommands : Prop :=
  (∀ (i : Instr) (code : Byte) (r : Request), i.wellFormed = true → requestCode i = some (code, r) →
      commandOfFrame r.keys (requestFrame code r) = i)
    ∧ (∀ (keys : KeyLines) (f : RawFrame), (Instr.discardedFrame f).wellFormed = true →
        commandOfFrame keys f = .discardedFrame f)
    ∧ ∀ (keys : KeyLines) (f : RawFrame), f.tail.length < 16 →
        (commandOfFrame keys f).wellFormed = true ∧ frameOf (commandOfFrame keys f) = some f

/-- The bytes of a station message spell exactly one command: those of a well-formed command spell that command, and
every run of bytes is that of the well-formed command it spells. -/
def Obligations.MessagesSpellCommands : Prop :=
  (∀ (i : Instr) (kind : Byte) (m : Message), i.wellFormed = true → messageKind i = some (kind, m) →
      commandOfMessage (messageBytes kind m) = i)
    ∧ ∀ bytes : List Byte,
        (commandOfMessage bytes).wellFormed = true ∧ bytesOf (commandOfMessage bytes) = some bytes

/-- A run of words followed by its CRC has CRC 0; a change of one bit changes the CRC; and the frame a host makes of
a header, up to 63 payload words and their CRC passes the frame checks with that payload. -/
def Obligations.CrcGuardsFrames : Prop :=
  (∀ ws : List Word, crc (ws ++ [crc ws]) = 0)
    ∧ (∀ (before after : List Word) (w : Word) (k : Nat), k < 16 →
        crc (before ++ w :: after) ≠ crc (before ++ (w ^^^ (1#16 <<< k)) :: after))
    ∧ ∀ (code : Byte) (level : BitVec 2) (ws : List Word), ws.length < 64 →
        let h := header code level (BitVec.ofNat 6 ws.length)
        judgeFrame { words := h :: (ws ++ [crc (h :: ws)]), tail := [] } = .ok ws

/-- The link errors, in the order of their checks, for every request row: bits left over or too few words, too many
words, a wrong CRC; and, for DISCARDED_FRAME, a good frame whose code is not in the catalogue. Each clocks the
buffer out, answers with its status alone and raises LINK_ERROR; a frame of no bits does nothing. A link error
places its status alone in the buffer and raises LINK_ERROR. And a frame cut off by LINK_RESET is not checked: the
assembler and the response buffer are emptied, the bits gathered before the pulse have clocked out as many bits of
the buffer, and nothing else changes; the form of LINK_RESET's operand is the model's (log 5). -/
def Obligations.BadFramesAreLinkErrors : Prop :=
  (∀ (i : Instr) (code : Byte) (r : Request) (s : State), requestCode i = some (code, r) →
      let failed (status : Status) : Result :=
        .next ((s.clockOut (16 * (r.words.length + 1) + r.tail.length)).linkError status)
      (r.tail ≠ [] ∨ r.words.length < r.count.toNat + 1 → exec i s = failed .linkShort)
        ∧ (r.tail = [] → r.count.toNat + 1 < r.words.length → exec i s = failed .linkLong)
        ∧ ∀ (ws : List Word) (last : Word), r.tail = [] → r.words = ws ++ [last] → ws.length = r.count.toNat →
            last ≠ crc (header code r.level r.count :: ws) → exec i s = failed .linkCrc)
    ∧ (∀ (f : RawFrame) (s : State),
        (frameBits f = 0 → exec (.discardedFrame f) s = .next s)
          ∧ (∀ status, frameBits f ≠ 0 → judgeFrame f = .error status →
              exec (.discardedFrame f) s = .next ((s.clockOut (frameBits f)).linkError status))
          ∧ ∀ ws, judgeFrame f = .ok ws → spellsNoRequest f = true →
              exec (.discardedFrame f) s = .next ((s.clockOut (frameBits f)).linkError .badRequest))
    ∧ (∀ (status : Status) (s : State), s.linkError status =
        ({ s with link := { s.link with buffer := some ⟨status, []⟩ } }).raise .linkError (.command status))
    ∧ ∀ (gathered : List Bool) (s : State), exec (.linkReset gathered) s = .next { s with link :=
        { assembler := [], buffer := none
          dataOut := if gathered = [] then s.link.dataOut else clockedOut s.link.buffer gathered.length } }

/-- A station message that fails a check is discarded with LINK_ERROR and its reason, LENGTH, then SUM, then
ADDRESS, whatever row it stands in; a good one of kind 0 or above 15 is discarded with STATION_UNEXPECTED; and
neither changes anything else. The address 0 that a message of no bytes is given, and the step none of the second
discard, are the model's reading (log 26). -/
def Obligations.BadMessagesAreDiscarded : Prop :=
  (∀ (i : Instr) (kind : Byte) (m : Message) (s : State), messageKind i = some (kind, m) →
      let discarded (reason : StationReason) : Result :=
        .next (s.raise .linkError (.message reason m.address.toNat))
      let sum := (messageBytes kind m).foldl (fun a b => a + b.toNat) 0 % 256
      (sum ≠ 0 → exec i s = discarded .sum)
        ∧ (sum = 0 → (m.address.toNat = 0 ∨ 5 < m.address.toNat) → exec i s = discarded .address))
    ∧ ∀ (bytes : List Byte) (s : State),
        let address := (bytes.head?.map BitVec.toNat).getD 0
        let sum := bytes.foldl (fun a b => a + b.toNat) 0 % 256
        let discarded (reason : StationReason) : Result := .next (s.raise .linkError (.message reason address))
        (bytes.length ≠ 7 → exec (.discardedStationMessage bytes) s = discarded .length)
          ∧ (bytes.length = 7 → sum ≠ 0 → exec (.discardedStationMessage bytes) s = discarded .sum)
          ∧ (bytes.length = 7 → sum = 0 → (address = 0 ∨ 5 < address) →
              exec (.discardedStationMessage bytes) s = discarded .address)
          ∧ ∀ kind : Byte, bytes.length = 7 → sum = 0 → 1 ≤ address → address ≤ 5 → bytes[1]? = some kind →
              (kind.toNat = 0 ∨ 15 < kind.toNat) → exec (.discardedStationMessage bytes) s
                = .next (s.raise .stationUnexpected (.unexpected address kind.toNat none))

/-- A request answered with anything but OK or PENDING carries no payload, and nothing but the response buffer and
Protection's lines changes. -/
def Obligations.RefusedRequestsChangeNothing : Prop :=
  ∀ (i : Instr) (code : Byte) (r : Request) (ws payload : List Word) (s t : State) (status : Status),
    requestCode i = some (code, r) → i ≠ .nop r → judgeFrame (requestFrame code r) = .ok ws →
    exec i s = .next t → t.link.buffer = some ⟨status, payload⟩ → status ≠ .ok → status ≠ .pending →
    payload = [] ∧ Frame [.link, .protection] s t

/-- The catalogue names every request but NOP, and a request is refused LEVEL, then KEY, then MODE by the level and
class the catalogue gives it, before its block is asked. And the end of a wake window: in WAKING a request that is
accepted, OK or PENDING, and is neither a Read nor SET_MODE brings OPERATE with the window removed and the geometry
mark clear, after its own effect (that order is the model's reading, log 22), with the recompute when the mark was
set; a Read and a refusal leave mode, window and mark as they were; and in every other mode an acceptance only
places its answer in the buffer. -/
def Obligations.AdmissionFollowsTheCatalogue : Prop :=
  (∀ (i : Instr) (code : Byte) (r : Request), requestCode i = some (code, r) → i ≠ .nop r →
      ∃ required cls, (code, required, cls) ∈ catalogue)
    ∧ (∀ (i : Instr) (code : Byte) (r : Request) (ws : List Word) (s : State) (required : Nat) (cls : ReqClass),
        (code, required, cls) ∈ catalogue → requestCode i = some (code, r) →
        judgeFrame (requestFrame code r) = .ok ws →
        let keyless := (r.level.toNat = 0 ∧ r.keys.office = false)
          ∨ (r.level.toNat = 1 ∧ r.keys.office = false ∧ r.keys.supervisor = false)
        let barred := (cls = .setup ∧ s.mode.mode ≠ .setup)
          ∨ (cls = .operation ∧ s.mode.mode ≠ .operate ∧ s.mode.mode ≠ .waking)
          ∨ (cls = .general ∧ s.mode.mode = .standby)
        (required < r.level.toNat → exec i s = refusedWith .level (s.heard code r))
          ∧ (r.level.toNat ≤ required → keyless → exec i s = refusedWith .key (s.heard code r))
          ∧ (r.level.toNat ≤ required → ¬keyless → barred → exec i s = refusedWith .mode (s.heard code r))
          ∧ (r.level.toNat ≤ required → ¬keyless → ¬barred → Taken code required cls ws r s))
    ∧ (∀ (i : Instr) (code : Byte) (r : Request) (required : Nat) (cls : ReqClass) (s t : State) (status : Status)
          (payload : List Word), (code, required, cls) ∈ catalogue → requestCode i = some (code, r) →
        exec i s = .next t → t.link.buffer = some ⟨status, payload⟩ → s.mode.mode = .waking →
        (status = .ok ∨ status = .pending → cls = .general ∨ cls = .operation →
          t.mode.mode = .operate ∧ t.mode.window = none ∧ t.mode.geometryMark = false)
        ∧ ((status ≠ .ok ∧ status ≠ .pending) ∨ cls = .read → t.mode = s.mode))
    ∧ ∀ (cls : ReqClass) (status : Status) (payload : List Word) (u : State),
        let answered (t : State) : Result :=
          .next { t with link := { t.link with buffer := some ⟨status, payload⟩ } }
        let operate : State :=
          { u with mode := { u.mode with mode := .operate, window := none, geometryMark := false } }
        (u.mode.mode = .waking → cls = .general ∨ cls = .operation →
          (u.mode.geometryMark = true → accepted cls status payload u = answered operate.recompute)
          ∧ (u.mode.geometryMark = false → accepted cls status payload u = answered operate))
        ∧ (u.mode.mode ≠ .waking ∨ cls = .read ∨ cls = .mode →
            accepted cls status payload u = answered u)
        ∧ refusedWith status u = .next { u with link := { u.link with buffer := some ⟨status, []⟩ } }

/-- NOP leaves everything but DATA OUT as it was, the response buffer with it; a NOP frame that fails a check is a
link error. -/
def Obligations.NopLeavesTheBuffer : Prop :=
  ∀ (r : Request) (s : State),
    (∀ ws, judgeFrame (requestFrame 0 r) = .ok ws →
      exec (.nop r) s = .next { s with link := { s.link with
        dataOut := clockedOut s.link.buffer (16 * (r.words.length + 1)) } })
    ∧ ∀ status, judgeFrame (requestFrame 0 r) = .error status →
        exec (.nop r) s = .next ((s.clockOut (frameBits (requestFrame 0 r))).linkError status)

/-! ### Attention -/

/-- The attention set: what a raising does to its kind and to no other, what power-up and initialisation leave, and
that a link reset leaves the set as it is. The ATTN line: asserted exactly while a kind is pending and not masked,
and after power-up exactly when the mask of POWER_UP is off. -/
def Obligations.AttentionSetRule : Prop :=
  (∀ (k : AttnKind) (d : Detail) (s : State),
      (s.raise k d).attn[k.ix] =
          { pending := true, mask := s.attn[k.ix].mask, count := min (s.attn[k.ix].count + 1) 255, detail := some d }
        ∧ (∀ n : Fin 22, n ≠ k.ix → (s.raise k d).attn[n] = s.attn[n])
        ∧ Frame [.attn] s (s.raise k d))
    ∧ (∀ s t : State, exec .powerUp s = .next t →
        t.attn[AttnKind.powerUp.ix] =
            { pending := true, mask := s.attn[AttnKind.powerUp.ix].mask, count := 1, detail := some .none }
          ∧ ∀ n : Fin 22, n ≠ AttnKind.powerUp.ix →
              t.attn[n] = { pending := false, mask := s.attn[n].mask, count := 0, detail := none })
    ∧ (∀ (r : Request) (s t : State), Taken 5 0 .setup [] r s → s.pumps.circ = .stopped →
        exec (.initialise r) s = .next t → ∀ n : Fin 22, t.attn[n] = { s.attn[n] with mask := false })
    ∧ (∀ (g : List Bool) (s t : State), exec (.linkReset g) s = .next t → t.attn = s.attn)
    ∧ (∀ s : State, s.attnLine = true ↔ ∃ n : Fin 22, s.attn[n].pending = true ∧ s.attn[n].mask = false)
    ∧ ∀ s t : State, exec .powerUp s = .next t → t.attnLine = !s.attn[AttnKind.powerUp.ix].mask

/-! ### Resets -/

/-- Every invariant of the model holds of the reset state, and a power-up of it leaves it as it is: the reset state
is the initial records brought up by one power-up, the model's reading (log 1). -/
def Obligations.ResetIsSound : Prop :=
  exec .powerUp State.reset = .next State.reset
    ∧ State.reset.ClockOk ∧ State.reset.WindowOk ∧ State.reset.OneActive ∧ State.reset.FormingOk
    ∧ State.reset.DepthsOk ∧ State.reset.GenerationsOk ∧ State.reset.TagsOk ∧ State.reset.RacksOk
    ∧ State.reset.CentreOk ∧ State.reset.EngineOk ∧ State.reset.PumpsOk ∧ State.reset.CirculationOk
    ∧ State.reset.StringOk ∧ State.reset.TanksOk ∧ State.reset.StoreOk ∧ State.reset.DepthOk ∧ State.reset.AttentionsOk
    ∧ State.reset.TransitOk ∧ State.reset.ParcelsOk ∧ State.reset.ColumnsOk ∧ State.reset.LithologyOk
    ∧ State.reset.FootageBounded ∧ State.reset.HolesBounded ∧ State.reset.FootageOk

/-- What POWER_UP leaves: the stored records kept, STANDBY, the well centre with HEAD and an IDLE engine, both pumps
at 0 and circulation STOPPING, the balance and the filter started anew, the link empty. -/
def Obligations.PowerUpLeaves : Prop :=
  ∀ s : State, ∃ t, exec .powerUp s = .next t
    ∧ Frame (touched .powerUp) s t
    ∧ t.mode = { s.mode with mode := .standby, window := none, second := 0 }
    ∧ t.arbiter = ⟨.head, false, false, false⟩ ∧ t.engine = ⟨none, false⟩
    ∧ t.depth = { s.depth with coupled := true, held := none } ∧ t.drilling = false ∧ t.receiver = []
    ∧ t.link.assembler = [] ∧ t.link.buffer = none
    ∧ t.roster = { s.roster with slots := t.roster.slots }
    ∧ (∀ i : Fin 128, t.roster.slots[i] = { s.roster.slots[i] with
        rod := s.roster.slots[i].rod.map fun x => if x.place = .centre then { x with unverified := true } else x })
    ∧ t.tanks = { s.tanks with
        a := { s.tanks.a with fresh := false }, b := { s.tanks.b with fresh := false }
        condition := s.tanks.activeTank.suction, reference := none, additions := 0, elapsed := 0, fill := 0
        remainder := 0, lossClass := .normal, flowAccepted := none, flowLast := none }
    ∧ t.pumps = { s.pumps with
        p1 := { s.pumps.p1 with
          target := 0, setpoint := 0, rampTimer := none
          inForce := ceilingFor t.tanks.condition s.pumps.holdRate s.pumps.p1.ceiling }
        p2 := { s.pumps.p2 with
          target := 0, setpoint := 0, rampTimer := none
          inForce := ceilingFor t.tanks.condition s.pumps.holdRate s.pumps.p2.ceiling }
        circ := .stopping, still := some s.pumps.stillHold }

/-- What an accepted INITIALISE leaves: every record at its initial value, each slot that held one a generation on,
the rig clock's counts, the coupling flag, circulation and the pending attentions as they were; and that it is
refused NOT_STOPPED while circulation is not STOPPED. That it leaves the rig clock, the coupling flag, circulation
and the pending attentions as they were, and bounds the last height, is the model's reading (log 12). -/
def Obligations.InitialiseLeaves : Prop :=
  ∀ (r : Request) (s : State), Taken 5 0 .setup [] r s →
    (s.pumps.circ ≠ .stopped → exec (.initialise r) s = refusedWith .notStopped (s.heard 5 r))
    ∧ (s.pumps.circ = .stopped → ∃ t, exec (.initialise r) s = accepted .setup .ok [] t
      ∧ Frame (touched (.initialise r)) s t
      ∧ t.mode = { s.mode with windowLen := 10, geometryMark := false }
      ∧ (∀ i : Fin 4, t.jobs[i] = ⟨if s.jobs[i].job.isSome then nextGen s.jobs[i].gen else s.jobs[i].gen, none⟩)
      ∧ (∀ i : Fin 128, t.roster.slots[i] =
          ⟨if s.roster.slots[i].rod.isSome then nextGen s.roster.slots[i].gen else s.roster.slots[i].gen, none⟩)
      ∧ t.roster = { types := State.reset.roster.types, slots := t.roster.slots, worn := 0, damaged := 0, lost := 0
                     stringLen := 0 }
      ∧ t.arbiter = ⟨.head, false, false, false⟩ ∧ t.engine = ⟨none, false⟩
      ∧ t.depth = { coupled := s.depth.coupled, lastHeight := min s.depth.lastHeight 700, held := none
                    headStroke := 700, jumpLimit := 30 }
      ∧ t.pumps = { State.reset.pumps with circ := s.pumps.circ, still := s.pumps.still }
      ∧ (∀ i : Fin 16, t.tanks.additives[i] =
          ⟨if s.tanks.additives[i].item.isSome then nextGen s.tanks.additives[i].gen
            else s.tanks.additives[i].gen, none⟩)
      ∧ t.tanks = { State.reset.tanks with additives := t.tanks.additives }
      ∧ t.transit = State.reset.transit ∧ t.lith = State.reset.lith ∧ t.drilling = false ∧ t.receiver = []
      ∧ ∀ k : Fin 22, t.attn[k] = { s.attn[k] with mask := false })

/-! ### Mode Controller -/

/-- READ_MODE, SET_WAKE_WINDOW and SET_CLOCK complete, and so do READ_ATTENTION, CLEAR_ATTENTION and
SET_ATTENTION_MASK. The layout of READ_MODE's response is the model's (log 14), and so are the two words of the wake
source (log 29). -/
def Obligations.ModeAndAttentionRequestsComplete : Prop :=
  ∀ (r : Request) (s : State),
    (Taken 1 3 .read [] r s →
      exec (.readMode r) s = accepted .read .ok
        (u16 s.mode.mode.code ++ u16 s.mode.windowLen ++ u16 ((s.mode.window.map WakeWindow.count).getD 0)
          ++ ((s.mode.window.map fun w => w.source.words).getD [0, 0])
          ++ u32 s.mode.minute ++ u16 s.mode.second ++ flag s.mode.geometryMark)
        (s.heard 1 r))
    ∧ (∀ n, Taken 3 1 .setup [n] r s →
      (1 ≤ one n → one n ≤ 60 → exec (.setWakeWindow r) s
          = accepted .setup .ok [] { s.heard 3 r with mode := { s.mode with windowLen := one n } })
        ∧ (one n = 0 ∨ 60 < one n → exec (.setWakeWindow r) s = refusedWith .badField (s.heard 3 r)))
    ∧ (∀ hi lo, Taken 4 0 .general [hi, lo] r s → exec (.setClock r) s
        = accepted .general .ok [] { s.heard 4 r with mode := { s.mode with minute := two hi lo, second := 0 } })
    ∧ (∀ first, Taken 160 3 .read [first] r s → 1 ≤ one first → one first ≤ 22 →
      let pending := (List.finRange 22).filter fun k => s.attn[k].pending
      let shown := (pending.filter fun k => one first ≤ k.val + 1).take 6
      exec (.readAttention r) s = accepted .read .ok
        (u16 pending.length ++ shown.flatMap fun k =>
          BitVec.ofNat 16 ((k.val + 1) * 256 + s.attn[k].count) :: (s.attn[k].detail.getD .none).words)
        (s.heard 160 r))
    ∧ (∀ hi lo, Taken 161 3 .general [hi, lo] r s → two hi lo < 2 ^ 22 →
      exec (.clearAttention r) s = accepted .general .ok [] { s.heard 161 r with
        attn := Vector.ofFn fun k : Fin 22 =>
          if (two hi lo).testBit k.val && s.attn[k].pending then
            { s.attn[k] with pending := false, count := 0, detail := none }
          else s.attn[k] })
    ∧ ∀ hi lo, Taken 162 2 .general [hi, lo] r s → two hi lo < 2 ^ 22 →
      exec (.setAttentionMask r) s = accepted .general .ok [] { s.heard 162 r with
        attn := Vector.ofFn fun k : Fin 22 => { s.attn[k] with mask := (two hi lo).testBit k.val } }

/-- SET_MODE: no target but SETUP, OPERATE and STANDBY, the present mode as it is, the conditions on leaving SETUP
and OPERATE, and none on leaving STANDBY and WAKING. An entry into OPERATE with the geometry mark set clears it and
recomputes the lags. -/
def Obligations.SetModeRule : Prop :=
  ∀ (r : Request) (w : Word) (s : State), Taken 2 2 .mode [w] r s →
    let h := s.heard 2 r
    let entered (m : RigMode) : Result :=
      accepted .mode .ok [] { h with mode := { s.mode with mode := m, window := none } }
    let operate : Result :=
      if s.mode.geometryMark then
        accepted .mode .ok [] { h with
          mode := { s.mode with mode := .operate, window := none, geometryMark := false } }.recompute
      else entered .operate
    (one w ≠ 1 → one w ≠ 2 → one w ≠ 3 → exec (.setMode r) s = refusedWith .badField h)
    ∧ ∀ m : RigMode, m ≠ .waking → one w = m.code →
      (s.mode.mode = m → exec (.setMode r) s = accepted .mode .ok [] h)
      ∧ (s.mode.mode = .setup → m = .operate → exec (.setMode r) s = operate)
      ∧ (s.mode.mode = .setup → m = .standby → exec (.setMode r) s =
          if s.pumps.circ = .stopped then entered .standby else refusedWith .notStopped h)
      ∧ (s.mode.mode = .operate → m ≠ .operate → exec (.setMode r) s =
          if s.engine.op.isSome then refusedWith .busy h
          else if s.pumps.circ = .stopped then entered m else refusedWith .notStopped h)
      ∧ (s.mode.mode = .standby ∨ s.mode.mode = .waking → s.mode.mode ≠ m →
          exec (.setMode r) s = if m = .operate then operate else entered m)

/-- Only three events bring WAKING, and only out of STANDBY: a stroke, a REQUEST from HEAD, WRENCH, LOADER or TONGS,
and a HEIGHT report from HEAD that changes the height; the window then opens at its length with that source. Each of
them does so in STANDBY, and leaves mode, window and clock as they are in every other mode. -/
def Obligations.OnlyWakeEventsWake : Prop :=
  ∀ (c : Instr) (s t : State), exec c s = .next t →
    let wakes (source : WakeSource) : Prop :=
      (∃ p, c = .strokePulse p ∧ source = .stroke p)
        ∨ (∃ m st, c = .request m ∧ Delivered 1 st m ∧ st ≠ .gauge ∧ source = .request st)
        ∨ ∃ m, c = .height m ∧ Delivered 13 .head m ∧ s.clampHeight m.value.toInt ≠ s.depth.lastHeight
            ∧ source = .height
    (s.mode.mode ≠ .waking → t.mode.mode = .waking → s.mode.mode = .standby ∧ ∃ source, wakes source)
    ∧ (∀ source, s.mode.mode = .standby → wakes source →
        t.mode = { s.mode with mode := .waking, window := some ⟨s.mode.windowLen, source⟩ })
    ∧ ∀ source, s.mode.mode ≠ .standby → wakes source → t.mode = s.mode

/-- Every step keeps the rig clock's counts and the wake window in their ranges, the window open exactly
in WAKING. -/
def Obligations.ModeControllerInvariant : Prop :=
  ∀ s t : State, s.ClockOk → s.WindowOk → step s = .next t → t.ClockOk ∧ t.WindowOk

/-! ### Job Table -/

/-- The requests of a job's life complete: OPEN_JOB, ACTIVATE_JOB, SUSPEND_JOB, CLOSE_JOB of a SUSPENDED and of an
ACTIVE job, RELEASE_JOB. A suspension, and the closing of an ACTIVE job, mark NOT_SAMPLED on the column, oldest
parcel first, the range of every parcel and then of the forming parcel when that is 1 cm or longer. -/
def Obligations.JobLifecycleCompletes : Prop :=
  ∀ (r : Request) (s : State),
    let notSampled (i : Fin 4) (hole : Nat) : State :=
      let parcels := s.transit.parcels.foldl (fun u p => u.markRange i .notSampled p.top p.bottom) s
      if s.transit.formingTop.all fun top => hole ≤ top then parcels
      else parcels.markRange i .notSampled (s.transit.formingTop.getD hole) hole
    (∀ (num s1 s0 dia ty b11 b10 b21 b20 len od p1 p0 : Word) (t : Fin 4) (i : Fin 4),
      Taken 17 1 .general [num, s1, s0, dia, ty, b11, b10, b21, b20, len, od, p1, p0] r s →
      1 ≤ one num → two s1 s0 ≤ 100000 → 100 ≤ one dia → one dia ≤ 900 → one ty = t.val + 1 →
      1 ≤ two b11 b10 → two b11 b10 < two b21 b20 → two b21 b20 ≤ 100000 → 50 ≤ one len → one len ≤ 2000 →
      60 ≤ one od → one od ≤ 400 → two p1 p0 ≤ 2147483647 → s.jobNumberHeld (one num) = false →
      s.freeJobSlot = some i →
      let bed : Interval :=
        { top := two s1 s0, bottom := two s1 s0, lith := 0, cls := .soft, source := .driller, status := .pending
          lossZone := false, water := false, merged := false, yield := none, minutes := 0 }
      let above : Interval := { bed with top := 0, source := .none, status := .notSampled }
      exec (.openJob r) s = accepted .general .ok [(Handle.job i s.jobs[i].gen).word] { s.heard 17 r with
        jobs := s.jobs.set i ⟨s.jobs[i].gen, some
          { number := one num, phase := .opened, startDepth := two s1 s0, holeDepth := two s1 s0, bitDepth := 0
            declared := 0, rodType := t, bha := ⟨one len, one od, two p1 p0, .stowed⟩, b1 := two b11 b10
            b2 := two b21 b20, sections := [⟨0, one dia⟩]
            rates := ⟨Vector.replicate 12 0, Vector.replicate 5 0, 0⟩, down := false, settleMark := two s1 s0
            column := if two s1 s0 = 0 then [bed] else [above, bed]
            sheet := Vector.replicate 40 ⟨0, 0, 0⟩ }⟩ })
    ∧ (∀ (w : Word) (i : Fin 4) (j : Job), Taken 18 2 .general [w] r s → NamesJob w s i j → j.phase ≠ .closed →
      s.active? = none →
      exec (.activateJob r) s = accepted .general .ok [] { s.heard 18 r with
        jobs := s.jobs.set i ⟨s.jobs[i].gen, some { j with phase := .active, bitDepth := 0 }⟩
        transit := { s.transit with parcels := [], formingTop := some j.holeDepth }
        depth := { s.depth with held := none } })
    ∧ (∀ (w : Word) (i : Fin 4) (j : Job), Taken 19 2 .general [w] r s → NamesJob w s i j → j.phase = .active →
      s.engine.op = none → s.stringEmpty j = true → s.pumps.circ = .stopped →
      ∃ t j', exec (.suspendJob r) s = accepted .general .ok [] t ∧ t.job? i = some j' ∧ j'.phase = .suspended
        ∧ j'.bitDepth = 0 ∧ j'.number = j.number ∧ j'.holeDepth = j.holeDepth ∧ j'.settleMark = j.settleMark
        ∧ some j'.column = ((notSampled i j.holeDepth).job? i).map Job.column
        ∧ t.transit = { s.transit with parcels := [], formingTop := none }
        ∧ t.depth = { s.depth with held := none } ∧ Frame (touched (.suspendJob r)) s t)
    ∧ (∀ (w : Word) (i : Fin 4) (j : Job), Taken 20 0 .general [w] r s → NamesJob w s i j →
      (j.phase = .suspended
        ∨ (j.phase = .active ∧ s.engine.op = none ∧ s.stringEmpty j = true ∧ s.pumps.circ = .stopped)) →
      ∃ t j', exec (.closeJob r) s = accepted .general .ok [] t ∧ t.job? i = some j' ∧ j'.phase = .closed
        ∧ j'.number = j.number ∧ j'.holeDepth = j.holeDepth ∧ j'.settleMark = j.holeDepth
        ∧ (j.phase = .suspended → j'.column = j.column ∧ t.transit = s.transit)
        ∧ (j.phase = .active → some j'.column = ((notSampled i j.holeDepth).job? i).map Job.column
          ∧ t.transit = { s.transit with parcels := [], formingTop := none })
        ∧ (∀ line : Fin 40, j'.sheet[line].unsettled = 0) ∧ (∀ k : Fin 4, k ≠ i → t.jobs[k] = s.jobs[k])
        ∧ Frame (touched (.closeJob r)) s t)
    ∧ ∀ (w : Word) (i : Fin 4) (j : Job), Taken 21 0 .general [w] r s → NamesJob w s i j → j.phase = .closed →
      exec (.releaseJob r) s = accepted .general .ok [] { s.heard 21 r with
        jobs := s.jobs.set i ⟨if 255 ≤ s.jobs[i].gen then 1 else s.jobs[i].gen + 1, none⟩ }

/-- READ_JOB and the edits of a job's configuration complete: SET_BHA, SET_RATE of a footage, an activity and the
lost-mud rate, SET_RATE of BANDS, SET_HOLE_SECTION, CLEAR_HOLE_SECTION, DECLARE_DOWN and CLEAR_DOWN. A geometry edit
of the ACTIVE job in SETUP sets the geometry mark. The layout of READ_JOB's response is the model's (log 14), and so
is the handle's first place in the edits' payloads (log 34). -/
def Obligations.JobEditsComplete : Prop :=
  ∀ (r : Request) (s : State) (w : Word) (i : Fin 4) (j : Job), NamesJob w s i j →
    let edited (j' : Job) (h : State) : State := { h with jobs := s.jobs.set i ⟨s.jobs[i].gen, some j'⟩ }
    let marked (h : State) : State :=
      if j.phase = .active ∧ s.mode.mode = .setup then { h with mode := { s.mode with geometryMark := true } }
      else h
    (Taken 16 3 .read [w] r s →
      exec (.readJob r) s = accepted .read .ok
        (u16 j.number ++ u16 j.phase.code ++ u32 j.startDepth ++ u32 j.holeDepth ++ u32 j.bitDepth
          ++ u16 j.declared.val ++ u16 (j.rodType.val + 1) ++ u16 j.bha.length ++ u16 j.bha.od ++ u32 j.bha.price
          ++ u16 j.bha.place.code ++ u32 j.b1 ++ u32 j.b2 ++ sectionWords j.sections ++ flag j.down
          ++ u32 j.settleMark) (s.heard 16 r))
    ∧ (∀ len od p1 p0, Taken 22 1 .general [w, len, od, p1, p0] r s → j.phase ≠ .closed → 50 ≤ one len →
      one len ≤ 2000 → 60 ≤ one od → one od ≤ 400 → two p1 p0 ≤ 2147483647 →
      (j.phase = .active → s.mode.mode = .setup) → j.bha.place ≠ .inString →
      exec (.setBha r) s = accepted .general .ok []
        (marked (edited { j with bha := ⟨one len, one od, two p1 p0, .stowed⟩ } (s.heard 22 r))))
    ∧ (∀ item r1 r0, Taken 23 0 .general [w, item, r1, r0] r s → j.phase ≠ .closed → j.phase ≠ .active →
      two r1 r0 ≤ 2147483647 →
      (∀ n : Fin 12, one item = n.val + 1 → exec (.setRate r) s = accepted .general .ok []
        (edited { j with rates := { j.rates with footage := j.rates.footage.set n (two r1 r0) } } (s.heard 23 r)))
      ∧ (∀ n : Fin 5, one item = n.val + 13 → exec (.setRate r) s = accepted .general .ok []
        (edited { j with rates := { j.rates with activity := j.rates.activity.set n (two r1 r0) } } (s.heard 23 r)))
      ∧ (one item = 35 → exec (.setRate r) s = accepted .general .ok []
        (edited { j with rates := { j.rates with lostMud := two r1 r0 } } (s.heard 23 r))))
    ∧ (∀ item b11 b10 b21 b20, Taken 23 0 .general [w, item, b11, b10, b21, b20] r s → one item = 0 →
      j.phase ≠ .closed → j.phase ≠ .active → 1 ≤ two b11 b10 → two b11 b10 < two b21 b20 →
      two b21 b20 ≤ 100000 →
      exec (.setRateBands r) s = accepted .general .ok []
        ((edited { j with b1 := two b11 b10, b2 := two b21 b20 } (s.heard 23 r)).rebandFootage i j (two b11 b10)
          (two b21 b20)))
    ∧ (∀ t1 t0 dia, Taken 24 1 .general [w, t1, t0, dia] r s → j.phase ≠ .closed → two t1 t0 ≤ 100000 →
      100 ≤ one dia → one dia ≤ 900 → (j.phase = .active → s.mode.mode = .setup) →
      ((∃ e ∈ j.sections, e.top = two t1 t0) ∨ j.sections.length < 8) →
      exec (.setHoleSection r) s = accepted .general .ok []
        (marked (edited { j with sections := placeSection ⟨two t1 t0, one dia⟩ j.sections } (s.heard 24 r))))
    ∧ (∀ t1 t0, Taken 25 1 .general [w, t1, t0] r s → j.phase ≠ .closed → 1 ≤ two t1 t0 → two t1 t0 ≤ 100000 →
      (j.phase = .active → s.mode.mode = .setup) → (∃ e ∈ j.sections, e.top = two t1 t0) →
      exec (.clearHoleSection r) s = accepted .general .ok []
        (marked (edited { j with sections := j.sections.filter fun e => e.top ≠ two t1 t0 } (s.heard 25 r))))
    ∧ (Taken 26 2 .general [w] r s → j.phase ≠ .closed →
      exec (.declareDown r) s = accepted .general .ok [] (edited { j with down := true } (s.heard 26 r)))
    ∧ (Taken 27 2 .general [w] r s → j.phase ≠ .closed →
      exec (.clearDown r) s = accepted .general .ok [] (edited { j with down := false } (s.heard 27 r)))

/-- Every step keeps at most one job ACTIVE, the Transit List forming exactly while one is, and every job's depths
in order: start depth, settlement mark, hole depth, and no bit depth unless ACTIVE. -/
def Obligations.JobTableInvariant : Prop :=
  ∀ s t : State, s.OneActive → s.FormingOk → s.DepthsOk → step s = .next t →
    t.OneActive ∧ t.FormingOk ∧ t.DepthsOk

/-- A job's hole never grows shorter, and its number and start depth never change while it holds its slot; the hole
grows only by a HEIGHT report; a slot loses its job only with a new generation. -/
def Obligations.HoleDepthNeverFalls : Prop :=
  ∀ (c : Instr) (s t : State) (i : Fin 4) (j : Job), exec c s = .next t → s.job? i = some j →
    (∃ j', t.job? i = some j' ∧ t.jobs[i].gen = s.jobs[i].gen ∧ j'.number = j.number
      ∧ j'.startDepth = j.startDepth ∧ j.holeDepth ≤ j'.holeDepth
      ∧ (j.holeDepth < j'.holeDepth → ∃ m, c = .height m))
    ∨ (t.job? i = none ∧ t.jobs[i].gen = nextGen s.jobs[i].gen)

/-- The handle of every request that carries one is checked before anything else of its block's (R32): a handle of
another table or out of its table's slots is refused BAD_FIELD, one of an empty slot NOT_FOUND whatever its
generation, one of another generation STALE, and a generation of 0 is another than every sound slot's. That the
handle is the first word of the payload, where a rule does not say so (codes 22 to 27), is the model's choice (log
34). -/
def Obligations.HandleRule : Prop :=
  ∀ (i : Instr) (code : Byte) (r : Request) (w : Word) (rest : List Word) (s : State) (required : Nat)
      (cls : ReqClass), requestCode i = some (code, r) → (code, required, cls) ∈ catalogue →
    Taken code required cls (w :: rest) r s →
    (code.toNat ∈ [16, 18, 19, 20, 21, 22, 23, 24, 25, 26, 27, 96, 131, 132, 133, 144, 145, 146] →
      (slotCode w < 145 ∨ 148 < slotCode w → exec i s = refusedWith .badField (s.heard code r))
      ∧ ∀ k : Fin 4, slotCode w = k.val + 145 →
        (s.jobs[k].job = none → exec i s = refusedWith .notFound (s.heard code r))
        ∧ (s.jobs[k].job ≠ none → s.jobs[k].gen ≠ genOf w → exec i s = refusedWith .stale (s.heard code r))
        ∧ (s.jobs[k].job ≠ none → s.GenerationsOk → genOf w = 0 →
            exec i s = refusedWith .stale (s.heard code r)))
    ∧ (code.toNat ∈ [35, 36, 37, 39] →
      (slotCode w < 1 ∨ 128 < slotCode w → exec i s = refusedWith .badField (s.heard code r))
      ∧ ∀ k : Fin 128, slotCode w = k.val + 1 →
        (s.roster.slots[k].rod = none → exec i s = refusedWith .notFound (s.heard code r))
        ∧ (s.roster.slots[k].rod ≠ none → s.roster.slots[k].gen ≠ genOf w →
            exec i s = refusedWith .stale (s.heard code r))
        ∧ (s.roster.slots[k].rod ≠ none → s.GenerationsOk → genOf w = 0 →
            exec i s = refusedWith .stale (s.heard code r)))
    ∧ (code.toNat ∈ [88, 89, 90, 91, 92, 93] →
      (slotCode w < 129 ∨ 144 < slotCode w → exec i s = refusedWith .badField (s.heard code r))
      ∧ ∀ k : Fin 16, slotCode w = k.val + 129 →
        (s.tanks.additives[k].item = none → exec i s = refusedWith .notFound (s.heard code r))
        ∧ (s.tanks.additives[k].item ≠ none → s.tanks.additives[k].gen ≠ genOf w →
            exec i s = refusedWith .stale (s.heard code r))
        ∧ (s.tanks.additives[k].item ≠ none → s.GenerationsOk → genOf w = 0 →
            exec i s = refusedWith .stale (s.heard code r)))

/-! ### Rod Roster -/

/-- SET_ROD_TYPE replaces the record and grades every rod of the type anew, by the higher of the classes its two
counts give, and sets the geometry mark when the ACTIVE job names the type; ENROL_ROD, AMEND_ROD, MOVE_ROD and
RETIRE_ROD complete. That a destination TRUCK is taken whatever its two value words hold is the model's choice (log
19). -/
def Obligations.RosterEditsComplete : Prop :=
  ∀ (r : Request) (s : State),
    (∀ (n len od mb mc md db1 db0 dc1 dc0 dd1 dd0 p1 p0 : Word) (k : Fin 4),
      Taken 33 1 .setup [n, len, od, mb, mc, md, db1, db0, dc1, dc0, dd1, dd0, p1, p0] r s →
      one n = k.val + 1 → 100 ≤ one len → one len ≤ 1000 → 40 ≤ one od → one od ≤ 200 → 1 ≤ one mb →
      one mb < one mc → one mc < one md → 1 ≤ two db1 db0 → two db1 db0 < two dc1 dc0 →
      two dc1 dc0 < two dd1 dd0 → two p1 p0 ≤ 2147483647 →
      let type : RodType :=
        { length := one len, od := one od, makeUps := ⟨one mb, one mc, one md⟩
          drilled := ⟨two db1 db0, two dc1 dc0, two dd1 dd0⟩, price := two p1 p0 }
      let byMakeUps (x : Rod) : Nat :=
        if one md ≤ x.makeUps then 4 else if one mc ≤ x.makeUps then 3 else if one mb ≤ x.makeUps then 2 else 1
      let byDrilled (x : Rod) : Nat :=
        if two dd1 dd0 ≤ x.drilled then 4
        else if two dc1 dc0 ≤ x.drilled then 3
        else if two db1 db0 ≤ x.drilled then 2
        else 1
      ∃ t, exec (.setRodType r) s = accepted .setup .ok [] t
        ∧ Frame [.link, .protection, .roster, .attn, .mode] s t
        ∧ t.roster = { s.roster with types := s.roster.types.set k type, slots := t.roster.slots }
        ∧ (∀ q : Fin 128, ∀ x, s.rod? q = some x → x.type = k →
            ∃ wear : WearClass, wear.code = max (byMakeUps x) (byDrilled x)
              ∧ t.roster.slots[q] = ⟨s.roster.slots[q].gen, some { x with wear := wear }⟩)
        ∧ (∀ q : Fin 128, (∀ x, s.rod? q = some x → x.type ≠ k) → t.roster.slots[q] = s.roster.slots[q])
        ∧ t.mode = { s.mode with geometryMark :=
            s.mode.geometryMark || (s.activeJob?.any fun (j : Job) => j.rodType == k) })
    ∧ (∀ (g1 g0 ty len pk p1 p0 : Word) (k : Fin 4) (place : RackPlace) (i : Fin 128),
      Taken 34 2 .general [g1, g0, ty, len, pk, p1, p0] r s → two g1 g0 ≠ 0 → one ty = k.val + 1 →
      (one len = 0 ∨ (100 ≤ one len ∧ one len ≤ 1000)) → rackPlaceOf pk p1 p0 = some place →
      s.tagHeld (two g1 g0) = false → s.emptyRodSlot = some i → s.rackFree place = true →
      exec (.enrolRod r) s = accepted .general .ok [(Handle.rod i s.roster.slots[i].gen).word]
        ((s.heard 34 r).setRod i
          { tag := two g1 g0, type := k, length := if one len = 0 then s.roster.types[k].length else one len
            place := place.place, makeUps := 0, drilled := 0, wear := .a, lastJob := none, unverified := false }))
    ∧ (∀ (w g1 g0 len : Word) (i : Fin 128) (x : Rod), Taken 35 1 .general [w, g1, g0, len] r s →
      NamesRod w s i x → (one len = 0 ∨ (100 ≤ one len ∧ one len ≤ 1000)) → x.awayFromRacks = false →
      s.opRod ≠ some i → (two g1 g0 = 0 ∨ two g1 g0 = x.tag ∨ s.tagHeld (two g1 g0) = false) →
      exec (.amendRod r) s = accepted .general .ok []
        ((s.heard 35 r).setRod i { x with
          tag := if two g1 g0 = 0 then x.tag else two g1 g0
          length := if one len = 0 then x.length else one len, unverified := false }))
    ∧ (∀ (w pk p1 p0 : Word) (i : Fin 128) (x : Rod) (place : RackPlace),
      Taken 36 3 .general [w, pk, p1, p0] r s → NamesRod w s i x → rackPlaceOf pk p1 p0 = some place →
      x.awayFromRacks = false → s.opRod ≠ some i →
      (place.place = x.place → exec (.moveRod r) s = accepted .general .ok [] (s.heard 36 r))
      ∧ (place.place ≠ x.place → s.rackFree place = true → exec (.moveRod r) s = accepted .general .ok []
          ((s.heard 36 r).setRod i { x with place := place.place }))
      ∧ (place.place ≠ x.place → s.rackFree place = false →
          exec (.moveRod r) s = refusedWith .full (s.heard 36 r)))
    ∧ ∀ (w why : Word) (i : Fin 128) (x : Rod), Taken 37 2 .general [w, why] r s → NamesRod w s i x →
      x.awayFromRacks = false → s.opRod ≠ some i →
      (one why = 1 → exec (.retireRod r) s = accepted .general .ok [] { s.heard 37 r with
        roster := { s.roster with
          slots := s.roster.slots.set i ⟨nextGen s.roster.slots[i].gen, none⟩
          worn := min (s.roster.worn + 1) 65535 } })
      ∧ (one why = 2 → exec (.retireRod r) s = accepted .general .ok [] { s.heard 37 r with
        roster := { s.roster with
          slots := s.roster.slots.set i ⟨nextGen s.roster.slots[i].gen, none⟩
          damaged := min (s.roster.damaged + 1) 65535 } })
      ∧ (one why ≠ 1 → one why ≠ 2 → exec (.retireRod r) s = refusedWith .badField (s.heard 37 r))

/-- READ_ROD_TYPE, FIND_ROD, READ_ROD, LIST_STRING and READ_ROSTER complete, and so does DECLARE_STRING_LOST: its
answer, and all it leaves. Each rod of the string leaves its slot a generation on, and no other rod changes; the
rods-lost line of each type rises by the rods of that type and the BHA-lost line by a BHA in the string, and no
other line changes; the ACTIVE job's bit depth is 0, and no other job changes. In SETUP a BHA lost sets the geometry
mark (the model's reading, log 33). The layout of the reads' responses is the model's (logs 14, 17 and 35). -/
def Obligations.RosterReadsComplete : Prop :=
  ∀ (r : Request) (s : State),
    (∀ (n : Word) (k : Fin 4), Taken 32 3 .read [n] r s → one n = k.val + 1 →
      let t := s.roster.types[k]
      exec (.readRodType r) s = accepted .read .ok
        (u16 t.length ++ u16 t.od ++ u16 t.makeUps.b ++ u16 t.makeUps.c ++ u16 t.makeUps.d ++ u32 t.drilled.b
          ++ u32 t.drilled.c ++ u32 t.drilled.d ++ u32 t.price) (s.heard 32 r))
    ∧ (∀ (g1 g0 : Word) (i : Fin 128) (x : Rod), Taken 38 3 .read [g1, g0] r s → two g1 g0 ≠ 0 →
      (s.findRod fun y => y.tag == two g1 g0) = some i → s.rod? i = some x →
      exec (.findRod r) s = accepted .read .ok
        ([(Handle.rod i s.roster.slots[i].gen).word] ++ rodPlaceWords x.place ++ flag x.unverified) (s.heard 38 r))
    ∧ (∀ (w : Word) (i : Fin 128) (x : Rod), Taken 39 3 .read [w] r s → NamesRod w s i x →
      exec (.readRod r) s = accepted .read .ok
        (u32 x.tag ++ u16 (x.type.val + 1) ++ u16 x.length ++ rodPlaceWords x.place ++ u16 x.makeUps
          ++ u32 x.drilled ++ u16 x.wear.code ++ handleWord (x.lastJob.map fun n => .job n.slot n.gen)
          ++ flag x.unverified ++ [(Handle.rod i s.roster.slots[i].gen).word]) (s.heard 39 r))
    ∧ (∀ p1 p0, Taken 40 3 .read [p1, p0] r s → 1 ≤ two p1 p0 → two p1 p0 ≤ 100000 →
      exec (.listString r) s = accepted .read .ok
        (u16 s.stringCount ++ u32 s.roster.stringLen
          ++ ((s.stringRods.drop (two p1 p0 - 1)).take 16).map fun i => (s.rodHandle i).word) (s.heard 40 r))
    ∧ (Taken 41 3 .read [] r s →
      exec (.readRoster r) s = accepted .read .ok
        (u16 (s.countRods fun _ => true) ++ u16 (s.countRods Rod.inCarousel)
          ++ u16 (s.countRods fun x => x.place == .truck) ++ u16 s.stringCount
          ++ handleWord (s.rodAtCentre.map s.rodHandle) ++ u32 s.roster.stringLen ++ u16 s.roster.worn
          ++ u16 s.roster.damaged ++ u16 s.roster.lost ++ rackPlaceWords s.reserved) (s.heard 41 r))
    ∧ ∀ (a : Fin 4) (j : Job), Taken 42 1 .general [] r s → ActiveIs s a j → s.engine.op = none →
      s.pumps.circ = .stopped → s.stringEmpty j = false → s.roster.lost ≤ 65535 →
      ∃ t j', exec (.declareStringLost r) s
          = accepted .general .ok (u16 s.stringRods.length ++ flag (j.bha.place = .inString)) t
        ∧ t.depth = { s.depth with held := none }
        ∧ t.mode = { s.mode with geometryMark :=
            s.mode.geometryMark || (s.mode.mode == .setup && j.bha.place == .inString) }
        ∧ t.jobs = s.jobs.set a ⟨s.jobs[a].gen, some j'⟩
        ∧ j' = { j with
            bitDepth := 0, bha := { j.bha with place := if j.bha.place = .inString then .lost else j.bha.place }
            sheet := j'.sheet }
        ∧ (∀ line : Fin 40, j'.sheet[line].settled = j.sheet[line].settled
          ∧ j'.sheet[line].amount = j.sheet[line].amount
          ∧ (line.val < 35 → j'.sheet[line] = j.sheet[line]))
        ∧ (∀ line : Fin 40, ∀ k : Fin 4, line.val = k.val + 35 → -2147483647 ≤ j.sheet[line].unsettled →
            j.sheet[line].unsettled ≤ 2147483647 → j'.sheet[line].unsettled = clampLine (j.sheet[line].unsettled
              + (s.stringRods.filter fun i => (s.rod? i).any fun x => x.type == k).length))
        ∧ j'.sheet[39].unsettled = (if j.bha.place = .inString then clampLine (j.sheet[39].unsettled + 1)
            else j.sheet[39].unsettled)
        ∧ t.roster = { s.roster with
            stringLen := 0, lost := min (s.roster.lost + s.stringRods.length) 65535, slots := t.roster.slots }
        ∧ (∀ i ∈ s.stringRods, t.roster.slots[i] =
            ⟨if 255 ≤ s.roster.slots[i].gen then 1 else s.roster.slots[i].gen + 1, none⟩)
        ∧ (∀ i : Fin 128, i ∉ s.stringRods → t.roster.slots[i] = s.roster.slots[i])
        ∧ Frame (touched (.declareStringLost r)) s t

/-- Every step keeps every slot's generation in 1 to 255, so that no handle of generation 0 ever names a record;
every attention entry either pending, with a count of 1 to 255 and a detail, or with neither; entry 0 of the
lithology table UNKNOWN; the tags of the live rods distinct; and every carousel slot with at most one rod, a slot
that an operation reserves with none. -/
def Obligations.RecordsInvariant : Prop :=
  (∀ s t : State, s.GenerationsOk → s.AttentionsOk → s.LithologyOk → step s = .next t →
      t.GenerationsOk ∧ t.AttentionsOk ∧ t.LithologyOk)
    ∧ ∀ s t : State, s.TagsOk → s.RacksOk → step s = .next t → t.TagsOk ∧ t.RacksOk

/-- Every step keeps the string sound: its positions 1 to n with one rod each, at most one rod at CENTRE, the string
length the sum of what is in the string and at most 100,000 cm, the rods only over a BHA in the string, the BHA in
the string only for the ACTIVE job; and what the operation in flight has found stays so. The premises are that one
job at most is ACTIVE and that the engine stands at a step of its operation. -/
def Obligations.StringInvariant : Prop :=
  ∀ s t : State, s.OneActive → s.EngineOk → s.StringOk → step s = .next t → t.StringOk

/-! ### Well centre and rod operations -/

/-- The requests on the well centre complete. The five operations are accepted PENDING, with their kind and their
rod's handle: the record, the tripping mark, and the request for the first station; a MAKE_UP of a rod verified at
CENTRE goes straight to AWAIT_TORQUE. READ_CENTRE, READ_OPERATION, ABORT_OP, READ_DEPTH and SET_HEAD_CONFIG
complete. An aborted operation ends with ROD_OP_DONE; the station it waited for leaves the request set, the station
that held the centre for it gives it up, and the roster and the jobs stay as they are. The layout of the responses,
with 0 for an absent field or handle, is the model's (log 14), and so is the request set as one word (log 40); that a
source CENTRE and a destination TRUCK are taken whatever their two value words hold is the model's choice too (log
19). -/
def Obligations.CentreRequestsComplete : Prop :=
  (∀ (r : Request) (s : State) (a : Fin 4) (j : Job), ActiveIs s a j → s.engine.op = none →
    let took (code : Byte) (o : Operation) : State := { s.heard code r with engine := ⟨some o, true⟩ }
    let rodWord (i : Fin 128) : Word := (Handle.rod i s.roster.slots[i].gen).word
    (∀ (pk p1 p0 : Word) (src : OpSource) (i : Fin 128) (x : Rod), Taken 50 2 .operation [pk, p1, p0] r s →
      opSourceOf pk p1 p0 = some src → j.bha.place = .inString → (src ≠ .centre → s.rodAtCentre = none) →
      s.rodAtSource src = some i → s.rod? i = some x → x.type = j.rodType →
      s.roster.stringLen + x.length ≤ 100000 → (x.wear = .d → r.level.toNat ≤ 1) →
      let o : Operation :=
        { kind := .makeUp, step := .awaitLoader, rod := some i, expected := some x.tag, source := some src
          dest := none, tagReg := none }
      (src = .centre → x.unverified = false → exec (.makeUp r) s
        = accepted .operation .pending [1, rodWord i] (took 50 { o with step := .awaitTorque }))
      ∧ (src ≠ .centre ∨ x.unverified = true → exec (.makeUp r) s
        = accepted .operation .pending [1, rodWord i] ((took 50 o).engineRequest .loader)))
    ∧ (∀ (pk p1 p0 : Word) (dest : RackPlace) (i : Fin 128) (x : Rod), Taken 51 2 .operation [pk, p1, p0] r s →
      rackPlaceOf pk p1 p0 = some dest → s.rodAtPosition s.stringCount = some i → s.rod? i = some x →
      s.rodAtCentre = none → s.rackFree dest = true → s.pumps.circ = .stopped →
      exec (.breakOut r) s = accepted .operation .pending [2, rodWord i] ((took 51
        { kind := .breakOut, step := .awaitWrench, rod := some i, expected := some x.tag, source := none
          dest := some dest, tagReg := none }).engineRequest .wrench))
    ∧ (∀ (pk p1 p0 : Word) (dest : RackPlace) (i : Fin 128) (x : Rod), Taken 52 2 .operation [pk, p1, p0] r s →
      rackPlaceOf pk p1 p0 = some dest → s.rodAtCentre = some i → s.rod? i = some x → s.rackFree dest = true →
      exec (.stow r) s = accepted .operation .pending [3, rodWord i] ((took 52
        { kind := .stow, step := .awaitLoader, rod := some i, expected := some x.tag, source := none
          dest := some dest, tagReg := none }).engineRequest .loader))
    ∧ (Taken 53 2 .operation [] r s → j.bha.place = .stowed → s.rodAtCentre = none →
      exec (.runBha r) s = accepted .operation .pending [4, 0] ((took 53
        { kind := .runBha, step := .awaitTongs, rod := none, expected := none, source := none, dest := none
          tagReg := none }).engineRequest .tongs))
    ∧ (Taken 54 2 .operation [] r s → j.bha.place = .inString → s.stringCount = 0 → s.rodAtCentre = none →
      s.pumps.circ = .stopped →
      exec (.pullBha r) s = accepted .operation .pending [5, 0] ((took 54
        { kind := .pullBha, step := .awaitTongs, rod := none, expected := none, source := none, dest := none
          tagReg := none }).engineRequest .tongs)))
  ∧ ∀ (r : Request) (s : State),
    (Taken 48 3 .read [] r s →
      exec (.readCentre r) s = accepted .read .ok
        (u16 (stationCode s.arbiter.holder)
          ++ u16 (s.arbiter.wrench.toNat + 2 * s.arbiter.loader.toNat + 4 * s.arbiter.tongs.toNat)
          ++ u16 (if s.depth.coupled then 1 else 2)) (s.heard 48 r))
    ∧ (Taken 49 3 .read [] r s →
      (s.engine.op = none → exec (.readOperation r) s
        = accepted .read .ok (List.replicate 13 0 ++ flag s.engine.tripping) (s.heard 49 r))
      ∧ ∀ o, s.engine.op = some o → exec (.readOperation r) s
        = accepted .read .ok
          (u16 o.kind.code ++ u16 o.step.code ++ handleWord (o.rod.map s.rodHandle) ++ u32 (o.expected.getD 0)
            ++ opSourceWords o.source ++ rackPlaceWords o.dest ++ u32 (o.tagReg.getD 0) ++ flag s.engine.tripping)
          (s.heard 49 r))
    ∧ (∀ o, Taken 55 2 .general [] r s → s.engine.op = some o →
      ∃ t, exec (.abortOp r) s = accepted .general .ok [] t
        ∧ Frame [.link, .protection, .engine, .arbiter, .attn] s t
        ∧ t.engine = { op := none, tripping := s.engine.tripping }
        ∧ (∀ st, o.step.awaits = some st → t.arbiter = s.arbiter.put st false)
        ∧ (∀ st, o.step.holds = some st → s.arbiter.holder = st →
            t.arbiter = ({ s with engine := { op := none, tripping := s.engine.tripping } } : State).endHolding.arbiter)
        ∧ (o.step.awaits = none → o.step.holds = none → t.arbiter = s.arbiter)
        ∧ t.attn[AttnKind.rodOpDone.ix].detail
            = some (.opDone o.kind .aborted (o.rod.map s.rodHandle) none 0))
    ∧ (Taken 56 3 .read [] r s →
      exec (.readDepth r) s = accepted .read .ok
        (u16 (if s.depth.coupled then 1 else 2) ++ u16 s.depth.lastHeight ++ u32 (s.depth.held.getD 0)
          ++ u16 s.depth.headStroke ++ u16 s.depth.jumpLimit ++ u32 s.roster.stringLen
          ++ u32 ((s.activeJob?.map Job.bitDepth).getD 0) ++ u32 ((s.activeJob?.map Job.holeDepth).getD 0))
        (s.heard 56 r))
    ∧ ∀ stroke jump, Taken 57 1 .setup [stroke, jump] r s → 100 ≤ one stroke → one stroke ≤ 3000 →
      5 ≤ one jump → one jump ≤ 100 →
      exec (.setHeadConfig r) s = accepted .setup .ok [] { s.heard 57 r with
        depth := { s.depth with
          headStroke := one stroke, jumpLimit := one jump, lastHeight := min s.depth.lastHeight (one stroke) } }

/-- The reports that carry an operation forward complete, each at its step from its station: PRESENTED, a confirmed
TAG that agrees and one that differs, STOWED, TORQUE_MADE, JOINT_BROKEN, BHA_SET, BHA_CLEAR; and FAULT at any step.
What a join leaves: the rod on top of the string with one make-up more, the ACTIVE job its last job, verified and
graded anew, ROD_WORN when its class rose, and the string longer by its length; what a break-out leaves: the rod at
CENTRE and the string shorter. And a report to the engine that does not fit its step is discarded:
STATION_UNEXPECTED with the station, the kind and the step, and nothing else; so with no operation in flight, from a
station the step does not wait for, at another step, a FAULT from a station not of the operation, a TORQUE_MADE
while HEAD does not hold the centre. -/
def Obligations.EngineReportsComplete : Prop :=
  (∀ (m : Message) (s : State) (o : Operation), s.engine.op = some o →
    let at_ (o : Operation) (s : State) : State := { s with engine := { s.engine with op := some o } }
    let done (s : State) : State := s.endOp o .done none 0
    (Delivered 3 .loader m → o.step = .awaitPresent →
      exec (.presented m) s = .next (at_ { o with step := .awaitTag, tagReg := none } s))
    ∧ (Delivered 4 .loader m → o.step = .awaitTag → m.value.toNat ≠ 0 → o.tagReg = some m.value.toNat →
      (∀ i src, o.expected = some m.value.toNat → o.kind = .makeUp → o.rod = some i → o.source = some src →
        exec (.tag m) s = .next ((at_ { o with step := .awaitTorque, tagReg := none }
          (if src = .centre then s else s.placeRod i .centre)).engineRelease .loader))
      ∧ (o.expected = some m.value.toNat → o.kind = .breakOut ∨ o.kind = .stow →
        exec (.tag m) s = .next (at_ { o with step := .awaitStow, tagReg := none } s))
      ∧ (∀ i e, o.expected = some e → e ≠ m.value.toNat → o.rod = some i →
        exec (.tag m) s = .next (((((s.modifyRod i fun x => { x with unverified := true }).raise .tagMismatch
          (.tags e m.value.toNat)).endOp o .mismatch none 0)).engineRelease .loader)))
    ∧ (∀ i place, Delivered 5 .loader m → o.step = .awaitStow → o.rod = some i → o.dest = some place →
      exec (.stowed m) s = .next ((done (s.modifyRod i fun x =>
        { x with place := place.place, unverified := false })).engineRelease .loader))
    ∧ (∀ i, Delivered 6 .head m → o.step = .awaitTorque → s.arbiter.holder = .head → o.rod = some i →
      exec (.torqueMade m) s = .next (done (s.joinRod i)))
    ∧ (∀ i, Delivered 7 .wrench m → o.step = .awaitBreak → o.rod = some i →
      exec (.jointBroken m) s = .next (((at_ { o with step := .awaitLoader } (s.unjoinRod i)).engineRequest
        .loader).engineRelease .wrench))
    ∧ (∀ a j, Delivered 8 .tongs m → o.step = .awaitSet → ActiveIs s a j →
      exec (.bhaSet m) s = .next ((done ((s.setJob a
        { j with bha := { j.bha with place := .inString } }).setStringLen
          (s.roster.stringLen + j.bha.length))).engineRelease .tongs))
    ∧ (∀ a j, Delivered 9 .tongs m → o.step = .awaitClear → ActiveIs s a j →
      exec (.bhaClear m) s = .next ((done ((s.setJob a
        { j with bha := { j.bha with place := .stowed } }).setStringLen
          (s.roster.stringLen - j.bha.length))).engineRelease .tongs))
    ∧ ∀ st, Delivered 10 st m → st ∈ o.kind.stations →
      exec (.fault m) s = .next ((s.endOp o .faulted (some st) m.value.toNat).withdraw o))
  ∧ (∀ (s : State) (i : Fin 128) (x : Rod), s.rod? i = some x →
    let put (y : Rod) (len : Nat) : Roster := { s.roster with
      stringLen := len, slots := s.roster.slots.set i ⟨s.roster.slots[i].gen, some y⟩ }
    let joined : Rod := { x with
      place := .string (s.stringCount + 1), makeUps := min (x.makeUps + 1) 65535
      lastJob := s.active?.map fun a => ⟨a, s.jobs[a].gen⟩, unverified := false }
    let graded : Rod := { joined with wear := joined.grade s.roster.types[x.type] }
    let up : State := { s with roster := put graded (s.roster.stringLen + x.length) }
    s.joinRod i = (if x.wear.code < graded.wear.code then
        up.raise .rodWorn (.worn (.rod i s.roster.slots[i].gen) graded.wear) else up)
    ∧ s.unjoinRod i = { s with roster := put { x with place := .centre } (s.roster.stringLen - x.length) })
  ∧ ∀ (m : Message) (s : State) (st : Station),
    let discarded (kind : Nat) : Result := .next (s.raise .stationUnexpected
      (.unexpected m.address.toNat kind (s.engine.op.map Operation.step)))
    let misfits (step : OpStep) (want : Station) : Prop := ∀ o, s.engine.op = some o → o.step ≠ step ∨ st ≠ want
    (Delivered 3 st m → misfits .awaitPresent .loader → exec (.presented m) s = discarded 3)
    ∧ (Delivered 4 st m → misfits .awaitTag .loader → exec (.tag m) s = discarded 4)
    ∧ (Delivered 5 st m → misfits .awaitStow .loader → exec (.stowed m) s = discarded 5)
    ∧ (Delivered 6 st m → misfits .awaitTorque .head ∨ s.arbiter.holder ≠ .head →
        exec (.torqueMade m) s = discarded 6)
    ∧ (Delivered 7 st m → misfits .awaitBreak .wrench → exec (.jointBroken m) s = discarded 7)
    ∧ (Delivered 8 st m → misfits .awaitSet .tongs → exec (.bhaSet m) s = discarded 8)
    ∧ (Delivered 9 st m → misfits .awaitClear .tongs → exec (.bhaClear m) s = discarded 9)
    ∧ (Delivered 10 st m → (∀ o, s.engine.op = some o → st ∉ o.kind.stations) → exec (.fault m) s = discarded 10)

/-- The tag register: in AWAIT_TAG a TAG of 0 empties it; one that equals its content empties it and confirms the
value; any other replaces its content. Entering AWAIT_TAG empties it, and outside AWAIT_TAG a TAG leaves it as it
was, discarded. -/
def Obligations.TagRegisterRule : Prop :=
  (∀ (m : Message) (s : State) (o : Operation), s.engine.op = some o →
    (Delivered 4 .loader m → o.step = .awaitTag →
      (m.value.toNat = 0 → exec (.tag m) s
        = .next { s with engine := { s.engine with op := some { o with tagReg := none } } })
      ∧ (m.value.toNat ≠ 0 → o.tagReg ≠ some m.value.toNat → exec (.tag m) s
        = .next { s with engine := { s.engine with op := some { o with tagReg := some m.value.toNat } } })
      ∧ (m.value.toNat ≠ 0 → o.tagReg = some m.value.toNat → exec (.tag m) s
        = .next (if o.expected = some m.value.toNat then s.tagMatched { o with tagReg := none }
            else s.tagDiffers { o with tagReg := none } m.value.toNat)))
    ∧ ∀ st, Delivered 4 st m → (o.step ≠ .awaitTag ∨ st ≠ .loader) →
      exec (.tag m) s = .next (s.raise .stationUnexpected (.unexpected m.address.toNat 4 (some o.step))))
  ∧ ∀ (c : Instr) (s t : State) (o : Operation), exec c s = .next t →
      (∀ o', s.engine.op = some o' → o'.step ≠ .awaitTag) → t.engine.op = some o → o.step = .awaitTag →
      o.tagReg = none

/-- REQUEST and RELEASE complete for each of the five stations: HEAD's REQUEST and RELEASE pass the arbiter by,
GAUGE's are discarded, and WRENCH, LOADER and TONGS join and leave the set and give up the centre. A REQUEST that is
delivered and not GAUGE's is also put to the wake test. The step none of GAUGE's discards is the model's reading
(log 26). -/
def Obligations.RequestAndReleaseComplete : Prop :=
  ∀ (m : Message) (s : State) (st : Station),
    (Delivered 1 st m →
      (st = .gauge → exec (.request m) s
        = .next (s.raise .stationUnexpected (.unexpected m.address.toNat 1 none)))
      ∧ (st = .head ∨ s.arbiter.holder = st ∨ s.arbiter.has st = true → st ≠ .gauge →
        exec (.request m) s = .next (s.wake (.request st)))
      ∧ (st ≠ .head → st ≠ .gauge → s.arbiter.holder ≠ st → s.arbiter.has st = false →
        exec (.request m) s
          = .next (({ s with arbiter := s.arbiter.put st true }).grantTest.wake (.request st))))
    ∧ (Delivered 2 st m →
      (st = .gauge → exec (.release m) s
        = .next (s.raise .stationUnexpected (.unexpected m.address.toNat 2 none)))
      ∧ (st = .head → exec (.release m) s = .next s)
      ∧ (st ≠ .head → st ≠ .gauge → s.arbiter.holder ≠ st → s.arbiter.has st = false →
        exec (.release m) s = .next s)
      ∧ (st ≠ .head → st ≠ .gauge → s.arbiter.holder = st →
        ((∀ o, s.engine.op = some o → o.step.holds ≠ some st) → exec (.release m) s = .next s.endHolding)
        ∧ ∀ o, s.engine.op = some o → o.step.holds = some st →
            exec (.release m) s = .next (s.endOp o .faulted (some st) 0).endHolding)
      ∧ (st ≠ .head → st ≠ .gauge → s.arbiter.holder ≠ st → s.arbiter.has st = true →
        ((∀ o, s.engine.op = some o → o.step.awaits ≠ some st) →
          exec (.release m) s = .next { s with arbiter := s.arbiter.put st false })
        ∧ ∀ o, s.engine.op = some o → o.step.awaits = some st →
            exec (.release m) s
              = .next (({ s with arbiter := s.arbiter.put st false }).endOp o .faulted (some st) 0)))

/-- The passing of the well centre. The arbiter's test grants it only while HEAD holds it and the head is FREE, and
at the end of a holding it passes on while the head is FREE: to WRENCH when it has asked and circulation is STOPPED,
else to LOADER when it has asked, else to TONGS when it has asked; that station leaves the set and holds the centre,
and an operation that waits for it takes its next step, with the tag register empty where that is AWAIT_TAG.
Otherwise a test changes nothing, and the centre of a holding that ends returns to HEAD. The engine's own request of
a station that holds the centre serves its step at once, of one in the set changes nothing, and of any other joins
the set and brings the test; its release of a station ends that station's holding. An operation's end empties the
record and raises ROD_OP_DONE; the withdrawal of one takes its station out of the set or ends its holding. -/
def Obligations.GrantRule : Prop :=
  ∀ s : State,
    let served (st : Station) : Option Operation := s.engine.op.map fun o =>
      if o.step.awaits = some st then
        match o.kind with
        | .makeUp =>
          if o.source = some .centre then { o with step := .awaitTag, tagReg := none }
          else { o with step := .awaitPresent }
        | .breakOut =>
          if o.step = .awaitWrench then { o with step := .awaitBreak }
          else { o with step := .awaitTag, tagReg := none }
        | .stow => { o with step := .awaitTag, tagReg := none }
        | .runBha => { o with step := .awaitSet }
        | .pullBha => { o with step := .awaitClear }
      else o
    let passed (t : State) : Prop :=
      (s.arbiter.wrench = true → s.pumps.circ = .stopped → t = { s with
        arbiter := { s.arbiter with wrench := false, holder := .wrench }
        engine := { s.engine with op := served .wrench } })
      ∧ ((s.arbiter.wrench = false ∨ s.pumps.circ ≠ .stopped) → s.arbiter.loader = true → t = { s with
        arbiter := { s.arbiter with loader := false, holder := .loader }
        engine := { s.engine with op := served .loader } })
      ∧ ((s.arbiter.wrench = false ∨ s.pumps.circ ≠ .stopped) → s.arbiter.loader = false →
        s.arbiter.tongs = true → t = { s with
          arbiter := { s.arbiter with tongs := false, holder := .tongs }
          engine := { s.engine with op := served .tongs } })
    let noneEligible : Prop := (s.arbiter.wrench = false ∨ s.pumps.circ ≠ .stopped) ∧ s.arbiter.loader = false
      ∧ s.arbiter.tongs = false
    let returned : State := { s with arbiter := { s.arbiter with holder := .head } }
    (s.arbiter.holder = .head → s.depth.coupled = false → passed s.grantTest)
    ∧ (s.arbiter.holder ≠ .head ∨ s.depth.coupled = true ∨ noneEligible → s.grantTest = s)
    ∧ (s.depth.coupled = false → passed s.endHolding)
    ∧ (s.depth.coupled = true ∨ noneEligible → s.endHolding = returned)
    ∧ (∀ st : Station,
      (s.arbiter.holder = st → s.engineRequest st = { s with engine := { s.engine with op := served st } })
      ∧ (s.arbiter.holder ≠ st → s.arbiter.has st = true → s.engineRequest st = s)
      ∧ (s.arbiter.holder ≠ st → s.arbiter.has st = false →
        s.engineRequest st = ({ s with arbiter := s.arbiter.put st true }).grantTest)
      ∧ (s.arbiter.holder = st → s.engineRelease st = s.endHolding)
      ∧ (s.arbiter.holder ≠ st → s.engineRelease st = s))
    ∧ ∀ o : Operation,
      (∀ outcome st value, s.endOp o outcome st value = ({ s with engine := { s.engine with op := none } }).raise
        .rodOpDone (.opDone o.kind outcome (o.rod.map s.rodHandle) st value))
      ∧ (∀ st, o.step.awaits = some st → s.withdraw o = { s with arbiter := s.arbiter.put st false })
      ∧ (∀ st, o.step.holds = some st → s.withdraw o = s.engineRelease st)
      ∧ (o.step.awaits = none → o.step.holds = none → s.withdraw o = s)

/-- Every step keeps the arbiter and the engine in step: the holder is not GAUGE and is not in the request set; the
operation stands at a step of its kind, the station it waits for is in the set, and the station that works at it
holds the centre. And from every state, the well centre passes to WRENCH only while circulation is STOPPED and the
head is FREE. -/
def Obligations.WellCentreInvariant : Prop :=
  (∀ s t : State, s.CentreOk → s.EngineOk → step s = .next t → t.CentreOk ∧ t.EngineOk)
    ∧ ∀ (c : Instr) (s t : State), exec c s = .next t → s.arbiter.holder ≠ .wrench → t.arbiter.holder = .wrench →
        t.pumps.circ = .stopped ∧ t.depth.coupled = false

/-! ### Depth Tracker -/

/-- COUPLED, FREE and HEIGHT from HEAD complete, and the same kinds from another station are discarded. A FREE that
finds the flag COUPLED frees the head; a HEIGHT is clamped to 0 and the head stroke, raises SENSOR_RANGE when the
clamp moved it, is put to the wake test, and gives the last height. The step none of the discards is the model's
reading (log 26). -/
def Obligations.DepthReportsComplete : Prop :=
  ∀ (m : Message) (s : State) (st : Station),
    let discarded (kind : Nat) : Result :=
      .next (s.raise .stationUnexpected (.unexpected m.address.toNat kind none))
    (Delivered 11 st m → exec (.coupled m) s =
      if st = .head then .next { s with depth := { s.depth with coupled := true } } else discarded 11)
    ∧ (Delivered 12 st m →
      (st ≠ .head → exec (.free m) s = discarded 12)
      ∧ (st = .head → s.depth.coupled = false → exec (.free m) s = .next s)
      ∧ (st = .head → s.depth.coupled = true → exec (.free m) s =
          .next ({ s with depth := { s.depth with coupled := false, held := none } }).headFreed))
    ∧ (Delivered 13 st m →
      (st ≠ .head → exec (.height m) s = discarded 13)
      ∧ (st = .head →
        let v := m.value.toInt
        let h : Nat := if v < 0 then 0 else min v.toNat s.depth.headStroke
        let woken : State := if h = s.depth.lastHeight then s else s.wake .height
        let ranged : State :=
          if v < 0 ∨ (s.depth.headStroke : Int) < v then woken.raise .sensorRange (.sensor .head none v) else woken
        let taken : State := { ranged with depth := { s.depth with lastHeight := h } }
        ((s.depth.coupled = false ∨ s.active? = none) → exec (.height m) s = .next taken)
        ∧ ∀ a j, s.depth.coupled = true → ActiveIs s a j →
            exec (.height m) s = .next (taken.testCandidate a j (s.roster.stringLen - h))))

/-- The four cases of a candidate depth against the hole depth of the ACTIVE job, and all that a new hole leaves.
The hole and the bit stand at the candidate. Every rod of the string gains the new centimetres and is graded anew,
the others are as they were. The column is extended: the deepest interval grows when it is a PENDING one of the
driller's in the declared rock, or takes that rock when it has no thickness, and else a new interval follows it, by
a capacity merge when there are 96, or, without one, the deepest grows MERGED with COLUMN_FULL. The new centimetres
below the start depth are unsettled footage of the deepest interval's class, band by band. The forming parcel is
then tried for a birth (TransitBirthRule), the hole-fill is added while the reference is valid, and the drilling
mark is set. -/
def Obligations.CandidateRule : Prop :=
  ∀ (s : State) (a : Fin 4) (j : Job) (candidate : Nat), s.job? a = some j →
    let t := s.testCandidate a j candidate
    let grown : Prop :=
      ∃ m : State, t = { m.growForming a with
          drilling := true
          tanks := { s.tanks with fill :=
            if s.tanks.reference = none then s.tanks.fill
            else s.tanks.fill + holeFill j.sections j.holeDepth candidate } }
        ∧ Frame [.jobs, .roster, .attn, .depth] s m ∧ m.depth = { s.depth with held := none }
        ∧ (∀ k : Fin 4, k ≠ a → m.jobs[k] = s.jobs[k])
        ∧ m.roster = { s.roster with slots := m.roster.slots }
        ∧ (s.PositionsOk → ∀ q : Fin 128, m.roster.slots[q] = ⟨s.roster.slots[q].gen, (s.rod? q).map fun x =>
            if x.inString then
              let worked : Rod := { x with drilled := min (x.drilled + (candidate - j.holeDepth)) 4294967295 }
              { worked with wear := worked.grade s.roster.types[x.type] }
            else x⟩)
        ∧ ∃ j', m.jobs[a] = ⟨s.jobs[a].gen, some j'⟩
          ∧ j' = { j with holeDepth := candidate, bitDepth := candidate, column := j'.column, sheet := j'.sheet }
          ∧ ∀ above deepest, j.column = above ++ [deepest] → deepest.bottom = j.holeDepth → j.column.length ≤ 96 →
            let rock := s.lith[j.declared].cls
            let fresh : Interval :=
              { top := j.holeDepth, bottom := candidate, lith := j.declared, cls := rock, source := .driller
                status := .pending, lossZone := false, water := false, merged := false, yield := none, minutes := 0 }
            let grows : Prop := deepest.status = .pending ∧ deepest.source = .driller ∧ deepest.lith = j.declared
            let below := max j.holeDepth j.startDepth
            let inBand (band : Fin 3) : Nat := match band with
              | 0 => min candidate j.b1 - below
              | 1 => min candidate j.b2 - max below j.b1
              | 2 => candidate - max below j.b2
            (grows → j'.column = above ++ [{ deepest with bottom := candidate }])
            ∧ (¬grows → deepest.top = deepest.bottom → j'.column = above ++ [{ deepest with
                lith := j.declared, cls := rock, source := .driller, status := .pending, bottom := candidate }])
            ∧ (¬grows → deepest.top ≠ deepest.bottom → j.column.length < 96 → j'.column = j.column ++ [fresh])
            ∧ (¬grows → deepest.top ≠ deepest.bottom → j.column.length = 96 →
                (∀ col, capacityMerge j.column = some col → j'.column = col ++ [fresh])
                ∧ (capacityMerge j.column = none →
                  j'.column = above ++ [{ deepest with bottom := candidate, merged := true }]
                  ∧ m.attn[AttnKind.columnFull.ix].detail
                    = some (.columnFull (.job a s.jobs[a].gen) .extension j.holeDepth candidate)))
            ∧ ∀ last, j'.column.getLast? = some last →
                (∀ band : Fin 3, ∀ line : Fin 40, line.val = (last.cls.code - 1) * 3 + band.val →
                  j'.sheet[line] = { j.sheet[line] with
                    unsettled := clampLine (j.sheet[line].unsettled + inBand band) })
                ∧ ∀ line : Fin 40, line.val / 3 + 1 ≠ last.cls.code → j'.sheet[line] = j.sheet[line]
    (candidate ≤ j.holeDepth → t = { s with
      jobs := s.jobs.set a ⟨s.jobs[a].gen, some { j with bitDepth := candidate }⟩
      depth := { s.depth with held := none } })
    ∧ (j.holeDepth < candidate → candidate - j.holeDepth ≤ s.depth.jumpLimit → grown)
    ∧ (j.holeDepth < candidate → s.depth.jumpLimit < candidate - j.holeDepth → s.depth.held = some candidate →
        grown)
    ∧ (j.holeDepth < candidate → s.depth.jumpLimit < candidate - j.holeDepth → s.depth.held ≠ some candidate →
        t = ({ s with depth := { s.depth with held := some candidate } }).raise .depthJump
          (.jump candidate j.holeDepth))

/-! ### Pumps and circulation -/

/-- READ_PUMPS, SET_PUMP_CONFIG, SET_CIRC_CONFIG, SET_PUMP_RATE, STOP_CIRCULATION and CLEAR_CIRC_TOTAL complete. A
target is clamped to the ceiling in force; one already held changes nothing (the model's reading, log 20). What a
new target does to circulation: out of STOPPED a target above 0 brings RUNNING, with INTERLOCK_BREACH while WRENCH
holds the centre; in RUNNING both targets at 0 bring STOPPING; in STOPPING a target above 0 brings RUNNING. What a
new ceiling in force does: one that falls brings setpoint and target down to it and stops the ramp timer when they
are equal, and with both targets at 0 in RUNNING begins the stop (log 21); one that rises changes neither. The
layout of READ_PUMPS' response is the model's (log 14), and so is a stopped timer read as 0 (log 41). -/
def Obligations.PumpRequestsComplete : Prop :=
  (∀ (r : Request) (s : State),
    (Taken 64 3 .read [] r s →
      exec (.readPumps r) s = accepted .read .ok
        (s.pumps.p1.words ++ s.pumps.p2.words ++ u16 s.pumps.holdRate ++ u16 s.pumps.stillHold
          ++ u16 s.pumps.circ.code ++ u16 (s.pumps.still.getD 0) ++ u32 s.pumps.total ++ u16 s.tanks.condition.code)
        (s.heard 64 r))
    ∧ (∀ (pump disp eff ceil stp interval : Word) (p : Pump),
      Taken 65 1 .setup [pump, disp, eff, ceil, stp, interval] r s → one pump = pumpCode p → 1000 ≤ one disp →
      one disp ≤ 40000 → 50 ≤ one eff → one eff ≤ 100 → 10 ≤ one ceil → one ceil ≤ 200 → 1 ≤ one stp →
      one stp ≤ 20 → 1 ≤ one interval → one interval ≤ 60 →
      exec (.setPumpConfig r) s = accepted .setup .ok [] { s.heard 65 r with
        pumps := (s.pumps.setPump p { s.pumps.pump p with
          displacement := one disp, efficiency := one eff, ceiling := one ceil, rampStep := one stp
          rampInterval := one interval, vps := one disp * one eff / 100 }).reworkPump s.tanks.condition p })
    ∧ (∀ hold still, Taken 66 1 .setup [hold, still] r s → one hold ≤ 50 → 2 ≤ one still → one still ≤ 60 →
      exec (.setCircConfig r) s = accepted .setup .ok [] { s.heard 66 r with
        pumps := { s.pumps with holdRate := one hold, stillHold := one still }.rework s.tanks.condition })
    ∧ (∀ (pump rate : Word) (p : Pump), Taken 67 2 .operation [pump, rate] r s → one pump = pumpCode p →
      let ceiling := (s.pumps.pump p).inForce
      let target := min (one rate) ceiling
      exec (.setPumpRate r) s = accepted .operation .ok (u16 target ++ u16 ceiling)
        (if target = (s.pumps.pump p).target then s.heard 67 r
          else ({ s.heard 67 r with
            pumps := s.pumps.setPump p ((s.pumps.pump p).aim target) }).targetCirculation p target))
    ∧ (Taken 68 3 .general [] r s →
      (s.pumps.circ = .stopped → exec (.stopCirculation r) s = accepted .general .ok [] (s.heard 68 r))
      ∧ (s.pumps.circ = .stopping → exec (.stopCirculation r) s = accepted .general .pending [] (s.heard 68 r))
      ∧ (s.pumps.circ = .running → exec (.stopCirculation r) s = accepted .general .pending [] { s.heard 68 r with
        pumps := { s.pumps with
          p1 := s.pumps.p1.aim 0, p2 := s.pumps.p2.aim 0, circ := .stopping, still := some s.pumps.stillHold } }))
    ∧ (Taken 69 2 .general [] r s → exec (.clearCircTotal r) s = accepted .general .ok [] { s.heard 69 r with
        pumps := { s.pumps with total := 0 } }))
  ∧ (∀ (p : Pump) (target : Nat) (s : State),
    let running : State := { s with pumps := { s.pumps with circ := .running, still := none } }
    let atRest : Prop := s.pumps.p1.target = 0 ∧ s.pumps.p2.target = 0
    (s.pumps.circ = .stopped → 0 < target → s.targetCirculation p target =
      (if s.arbiter.holder = .wrench then running.raise .interlockBreach (.breach .target p) else running))
    ∧ (s.pumps.circ = .stopping → 0 < target → s.targetCirculation p target = running)
    ∧ (s.pumps.circ ≠ .running → target = 0 → s.targetCirculation p target = s)
    ∧ (s.pumps.circ = .running → atRest → s.targetCirculation p target = { s with
        pumps := { s.pumps with circ := .stopping, still := some s.pumps.stillHold } })
    ∧ (s.pumps.circ = .running → ¬atRest → s.targetCirculation p target = s))
  ∧ ∀ (condition : Suction) (c : PumpCtl),
    let ceiling (x : PumpRec) : Nat := match condition with
      | .normal => x.ceiling
      | .low => min x.ceiling c.holdRate
      | .empty => 0
    let held (x : PumpRec) : PumpRec :=
      if ceiling x < x.inForce then { x with
        inForce := ceiling x, setpoint := min x.setpoint (ceiling x), target := min x.target (ceiling x)
        rampTimer := if min x.setpoint (ceiling x) = min x.target (ceiling x) then none else x.rampTimer }
      else { x with inForce := ceiling x }
    let settled (fallen : Prop) (d e : PumpCtl) : Prop :=
      (fallen ∧ d.p1.target = 0 ∧ d.p2.target = 0 ∧ d.circ = .running →
        e = { d with circ := .stopping, still := some d.stillHold })
      ∧ (¬(fallen ∧ d.p1.target = 0 ∧ d.p2.target = 0 ∧ d.circ = .running) → e = d)
    settled (ceiling c.p1 < c.p1.inForce ∨ ceiling c.p2 < c.p2.inForce) { c with p1 := held c.p1, p2 := held c.p2 }
      (c.rework condition)
    ∧ ∀ p : Pump, settled (ceiling (c.pump p) < (c.pump p).inForce) (c.setPump p (held (c.pump p)))
        (c.reworkPump condition p)

/-- A stroke: its pump's count rises and wraps, the circulation total rises by its vps and saturates, the parcels in
transit advance, the rig wakes from STANDBY; and then STOPPED becomes RUNNING, uncommanded, with a breach when
WRENCH holds the centre, RUNNING stays, and STOPPING restarts the still timer. The order of the parcels, the wake
and circulation is the model's, and any order leaves the same (log 36). -/
def Obligations.StrokeCompletes : Prop :=
  ∀ (p : Pump) (s : State),
    let rec_ := s.pumps.pump p
    let counted : PumpCtl :=
      { s.pumps.setPump p { rec_ with strokes := (rec_.strokes + 1) % 4294967296 } with
        total := min (s.pumps.total + rec_.vps) 4294967295 }
    let moved : State := (({ s with pumps := counted }).advanceParcels rec_.vps).wake (.stroke p)
    let started : State := { moved with pumps := { counted with circ := .running, still := none } }
    (s.pumps.circ = .running → exec (.strokePulse p) s = .next moved)
    ∧ (s.pumps.circ = .stopping → exec (.strokePulse p) s
      = .next { moved with pumps := { counted with still := some s.pumps.stillHold } })
    ∧ (s.pumps.circ = .stopped → exec (.strokePulse p) s
      = .next ((if s.arbiter.holder = .wrench then started.raise .interlockBreach (.breach .stroke p)
          else started).raise .uncommandedPump (.pump p)))

/-- Every step keeps both pump records in range and their vps with their configuration, each ceiling in force with
the suction condition and over its pump's target and setpoint, each ramp timer running exactly while setpoint and
target differ, the still timer exactly in STOPPING, and pumps at rest when circulation is STOPPED. And from every
state, a setpoint rises only at a ramp expiry of its pump, by at most the ramp step, and not past its target. -/
def Obligations.PumpInvariant : Prop :=
  (∀ s t : State, s.PumpsOk → s.CirculationOk → step s = .next t → t.PumpsOk ∧ t.CirculationOk)
    ∧ ∀ (c : Instr) (s t : State) (p : Pump), exec c s = .next t →
        (s.pumps.pump p).setpoint < (t.pumps.pump p).setpoint →
        (c = .secondExpiry ∨ c = .rampExpiry p)
          ∧ (t.pumps.pump p).setpoint ≤ (s.pumps.pump p).setpoint + (s.pumps.pump p).rampStep
          ∧ (t.pumps.pump p).setpoint ≤ (s.pumps.pump p).target

/-! ### Clock and timers -/

/-- The expiries that are rows of their own complete; of a timer that does not run, they do nothing (the model's
choice, log 8). A ramp moves the setpoint toward the target; a still expiry stops circulation only with both
setpoints at 0; a balance expiry takes a reading; a mix hold's end has the standby state worked out; a window's end
returns to STANDBY with UNEXPLAINED_WAKE. SECOND_EXPIRY and MINUTE_EXPIRY complete: within the minute a second
expiry raises the second count and goes to the Pump Controller and the balance (in that order by the model's choice,
log 9); past 59 it is also a minute expiry; the five receivers then, and the three of a MINUTE_EXPIRY on its own,
are served once each in an order that is free (log 6). -/
def Obligations.ExpiriesComplete : Prop :=
  (∀ s : State,
    (∀ p : Pump,
      let x := s.pumps.pump p
      let moved := if x.setpoint ≤ x.target then min x.target (x.setpoint + x.rampStep)
        else max x.target (x.setpoint - x.rampStep)
      (x.rampTimer = none → exec (.rampExpiry p) s = .next s)
      ∧ (x.rampTimer ≠ none → exec (.rampExpiry p) s = .next { s with pumps := s.pumps.setPump p { x with
          setpoint := moved, rampTimer := if moved = x.target then none else some x.rampInterval } }))
    ∧ (s.pumps.still = none → exec .stillExpiry s = .next s)
    ∧ (s.pumps.still ≠ none → (s.pumps.p1.setpoint ≠ 0 ∨ s.pumps.p2.setpoint ≠ 0) →
        exec .stillExpiry s = .next { s with pumps := { s.pumps with still := some s.pumps.stillHold } })
    ∧ (s.pumps.still ≠ none → s.pumps.p1.setpoint = 0 → s.pumps.p2.setpoint = 0 →
        exec .stillExpiry s = .next ((({ s with pumps := { s.pumps with circ := .stopped, still := none } }).raise
          .circStopped (.volume s.pumps.total)).grantTest))
    ∧ (s.tanks.reference = none → exec .balanceExpiry s = .next s)
    ∧ (s.tanks.reference ≠ none → exec .balanceExpiry s = .next (({ s with
        tanks := { s.tanks with elapsed := max s.tanks.elapsed s.tanks.period } }).reading
          s.tanks.activeTank.volume))
    ∧ (s.tanks.mixCount = none → exec .mixHoldExpiry s = .next s)
    ∧ (s.tanks.mixCount ≠ none → exec .mixHoldExpiry s
        = .next ({ s with tanks := { s.tanks with mixCount := none } }).reworkStandby)
    ∧ (s.mode.window = none → exec .wakeWindowExpiry s = .next s)
    ∧ ∀ w, s.mode.window = some w → exec .wakeWindowExpiry s
        = .next (({ s with mode := { s.mode with mode := .standby, window := none } }).raise .unexplainedWake
            (.wake w.source)))
    ∧ (∀ s : State, s.mode.second < 59 → exec .secondExpiry s
      = .next ({ s with mode := { s.mode with second := s.mode.second + 1 } }).pumpSecond.balanceSecond)
    ∧ (∀ s : State, 59 ≤ s.mode.second → exec .secondExpiry s
      = .next ((permuteBy 5 (Config.freeOrder s.draws) expiryReceivers).foldl (fun s f => f s)
        { s with
          mode := { s.mode with second := 0, minute := (s.mode.minute + 1) % 4294967296 }, draws := s.draws + 1 }))
    ∧ (∀ s : State, exec .minuteExpiry s
      = .next ((permuteBy 3 (Config.freeOrder s.draws) minuteReceivers).foldl (fun s f => f s)
        { s with mode := { s.mode with minute := (s.mode.minute + 1) % 4294967296 }, draws := s.draws + 1 }))
    ∧ ∀ n : Nat,
        (permuteBy 5 n expiryReceivers).Perm
          [State.pumpSecond, State.balanceSecond, State.sheetMinute, State.mixMinute, State.windowMinute]
        ∧ (permuteBy 3 n minuteReceivers).Perm [State.sheetMinute, State.mixMinute, State.windowMinute]

/-- What a second expiry and a minute expiry do to each timer. The Pump Controller first counts both ramp timers
down, a ramp at its end moving the setpoint toward the target by at most the step, the timer stopping at the target
and starting again short of it; then circulation found RUNNING with both targets 0 begins the stop, with the still
timer at its hold; and otherwise the still timer counts down, and at its end circulation is STOPPED, with
CIRC_STOPPED and the arbiter's test, when both setpoints are 0, and the timer starts again when one is not. While
the reference is valid the balance counts its elapsed seconds and takes a reading of the ACTIVE tank when they reach
the period. A minute expiry counts the mix hold down, whose end has the standby state worked out, and in WAKING the
wake window, whose end returns to STANDBY with UNEXPLAINED_WAKE. A timer that does not run is not counted. -/
def Obligations.TimerRule : Prop :=
  ∀ s : State,
    let ramped (x : PumpRec) : PumpRec :=
      let moved := if x.setpoint ≤ x.target then min x.target (x.setpoint + x.rampStep)
        else max x.target (x.setpoint - x.rampStep)
      match x.rampTimer with
      | none => x
      | some n =>
        if n ≤ 1 then
          { x with setpoint := moved, rampTimer := if moved = x.target then none else some x.rampInterval }
        else { x with rampTimer := some (n - 1) }
    let c : PumpCtl := { s.pumps with p1 := ramped s.pumps.p1, p2 := ramped s.pumps.p2 }
    let idle : Prop := s.pumps.circ = .running ∧ s.pumps.p1.target = 0 ∧ s.pumps.p2.target = 0
    (idle → s.pumpSecond = { s with pumps := { c with circ := .stopping, still := some s.pumps.stillHold } })
    ∧ (¬idle → s.pumps.still = none → s.pumpSecond = { s with pumps := c })
    ∧ (∀ n, ¬idle → s.pumps.still = some n →
      (1 < n → s.pumpSecond = { s with pumps := { c with still := some (n - 1) } })
      ∧ (n ≤ 1 → c.p1.setpoint ≠ 0 ∨ c.p2.setpoint ≠ 0 →
        s.pumpSecond = { s with pumps := { c with still := some s.pumps.stillHold } })
      ∧ (n ≤ 1 → c.p1.setpoint = 0 → c.p2.setpoint = 0 → s.pumpSecond =
        (({ s with pumps := { c with circ := .stopped, still := none } }).raise .circStopped
          (.volume s.pumps.total)).grantTest))
    ∧ (s.tanks.reference = none → s.balanceSecond = s)
    ∧ (s.tanks.reference ≠ none →
      let counted : State := { s with tanks := { s.tanks with elapsed := s.tanks.elapsed + 1 } }
      let period := s.tanks.coarse * 480 + (s.tanks.fine + 1) * 30
      (s.tanks.elapsed + 1 < period → s.balanceSecond = counted)
      ∧ (period ≤ s.tanks.elapsed + 1 →
        s.balanceSecond = counted.reading (s.tanks.activeTank.level * s.tanks.activeTank.mlPerMm)))
    ∧ (s.tanks.mixCount = none → s.mixMinute = s)
    ∧ (∀ n, s.tanks.mixCount = some n →
      (1 < n → s.mixMinute = { s with tanks := { s.tanks with mixCount := some (n - 1) } })
      ∧ (n ≤ 1 → s.mixMinute = ({ s with tanks := { s.tanks with mixCount := none } }).reworkStandby))
    ∧ (s.mode.mode ≠ .waking ∨ s.mode.window = none → s.windowMinute = s)
    ∧ ∀ w, s.mode.mode = .waking → s.mode.window = some w →
      (1 < w.count → s.windowMinute = { s with
        mode := { s.mode with window := some { w with count := w.count - 1 } } })
      ∧ (w.count ≤ 1 → s.windowMinute =
        ({ s with mode := { s.mode with mode := .standby, window := none } }).raise .unexplainedWake
          (.wake w.source))

/-! ### Tanks, balance and additives -/

/-- READ_TANKS, SET_TANK_CONFIG, SWAP_TANKS, ADD_WATER, SET_BALANCE_PERIOD, READ_BALANCE and SET_LOSS_THRESHOLDS
complete. The layout of the reads' responses is the model's (log 14), with the accumulator in four words (log 15),
an invalid reference read as 0 (log 28), the codes of the loss classes (log 37) and a mix hold that is stopped read
as 0 (log 41). -/
def Obligations.TankRequestsComplete : Prop :=
  ∀ (r : Request) (s : State),
    (Taken 80 3 .read [] r s →
      exec (.readTanks r) s = accepted .read .ok
        (s.tanks.tankWords .a ++ s.tanks.tankWords .b ++ u16 s.tanks.condition.code ++ u16 s.tanks.lossClass.code)
        (s.heard 80 r))
    ∧ (∀ (tank c1 c0 m1 m0 l1 l0 e1 e0 r1 r0 mix : Word) (t : TankId),
      Taken 81 1 .setup [tank, c1, c0, m1, m0, l1, l0, e1, e0, r1, r0, mix] r s → one tank = t.code →
      1000 ≤ two c1 c0 → two c1 c0 ≤ 100000 → 100 ≤ two m1 m0 → two m1 m0 ≤ 200000 → two e1 e0 ≤ two l1 l0 →
      two l1 l0 ≤ two c1 c0 → two r1 r0 ≤ two c1 c0 → 1 ≤ one mix → one mix ≤ 60 →
      let x := s.tanks.tank t
      let level := min x.level (two c1 c0 * 1000 / two m1 m0)
      let held : State := { s.heard 81 r with
        tanks := s.tanks.setTank t {
          capacity := two c1 c0, mlPerMm := two m1 m0, level := level, low := two l1 l0, empty := two e1 e0
          ready := two r1 r0, mixHold := one mix, fresh := x.fresh } }
      (t = s.tanks.active → s.tanks.reference ≠ none → exec (.setTankConfig r) s = accepted .setup .ok []
        ({ held with tanks := { held.tanks with
          reference := some (level * two m1 m0), additions := 0, elapsed := 0, fill := 0 } }).suctionTest)
      ∧ (t = s.tanks.active → s.tanks.reference = none →
        exec (.setTankConfig r) s = accepted .setup .ok [] held.suctionTest)
      ∧ (t ≠ s.tanks.active →
        exec (.setTankConfig r) s = accepted .setup .ok [] held.reworkStandby.suctionTest))
    ∧ (Taken 82 2 .general [] r s →
      (s.tanks.standby = .ready → exec (.swapTanks r) s = accepted .general .ok [] ((s.heard 82 r).swap .request))
      ∧ (s.tanks.standby ≠ .ready → exec (.swapTanks r) s = refusedWith .notReady (s.heard 82 r)))
    ∧ (∀ (tank l1 l0 : Word) (t : TankId), Taken 83 3 .general [tank, l1, l0] r s → one tank = t.code →
      1 ≤ two l1 l0 → two l1 l0 ≤ 100000 →
      (t = s.tanks.active → s.tanks.reference ≠ none → exec (.addWater r) s = accepted .general .ok []
        { s.heard 83 r with tanks := { s.tanks with
          additions := min (s.tanks.additions + two l1 l0 * 1000) 4294967295 } })
      ∧ (t = s.tanks.active → s.tanks.reference = none →
        exec (.addWater r) s = accepted .general .ok [] (s.heard 83 r))
      ∧ (t ≠ s.tanks.active → exec (.addWater r) s = accepted .general .ok [] ({ s.heard 83 r with
        tanks := { s.tanks with mixCount := some s.tanks.standbyTank.mixHold } }).reworkStandby))
    ∧ (∀ coarse fine, Taken 84 1 .setup [coarse, fine] r s → one coarse ≤ 6 → one fine ≤ 31 →
      exec (.setBalancePeriod r) s = accepted .setup .ok [] { s.heard 84 r with
        tanks := { s.tanks with coarse := one coarse, fine := one fine } })
    ∧ (Taken 85 3 .read [] r s →
      exec (.readBalance r) s = accepted .read .ok
        (u32 (s.tanks.reference.getD 0) ++ flag s.tanks.reference.isSome ++ u32 s.tanks.additions
          ++ u16 s.tanks.elapsed ++ u64 s.tanks.fill ++ u16 s.tanks.remainder ++ u16 s.tanks.coarse
          ++ u16 s.tanks.fine ++ u16 (s.tanks.coarse * 480 + (s.tanks.fine + 1) * 30)
          ++ u16 s.tanks.lossClass.code ++ u16 s.tanks.gain ++ u16 s.tanks.seepage ++ u16 s.tanks.severe)
        (s.heard 85 r))
    ∧ ∀ gain seepage severe, Taken 86 1 .setup [gain, seepage, severe] r s → 1 ≤ one gain → one gain ≤ 5000 →
      1 ≤ one seepage → one seepage ≤ 5000 → one seepage < one severe → one severe ≤ 50000 →
      exec (.setLossThresholds r) s = accepted .setup .ok [] { s.heard 86 r with
        tanks := { s.tanks with gain := one gain, seepage := one seepage, severe := one severe } }

/-- The requests of the additive store complete: ADD_ADDITIVE, SET_ADDITIVE_PRICE, READ_ADDITIVE, RECEIVE_ADDITIVE,
STOCK_COUNT, DRAW_ADDITIVE and RETIRE_ADDITIVE. A draw past the stock on hand leaves the rest as shortfall and
raises INVENTORY_SHORT; it is billed to the ACTIVE job, and into the STANDBY tank restarts the mix hold. The layout
of READ_ADDITIVE's response is the model's (log 14). -/
def Obligations.AdditiveRequestsComplete : Prop :=
  ∀ (r : Request) (s : State),
    (∀ (n0 n1 n2 n3 p1 p0 : Word) (i : Fin 16), Taken 87 1 .general [n0, n1, n2, n3, p1, p0] r s →
      (∀ c ∈ (nameOf n0 n1 n2 n3).toList, 32 ≤ c.toNat ∧ c.toNat ≤ 126) →
      (∃ c ∈ (nameOf n0 n1 n2 n3).toList, c.toNat ≠ 32) → two p1 p0 ≤ 2147483647 →
      (∀ k x, s.additive? k = some x → x.name ≠ nameOf n0 n1 n2 n3) → s.emptyAdditiveSlot = some i →
      exec (.addAdditive r) s = accepted .general .ok [(Handle.additive i s.tanks.additives[i].gen).word]
        ((s.heard 87 r).setAdditive i
          { name := nameOf n0 n1 n2 n3, price := two p1 p0, onHand := 0, received := 0, drawn := 0
            shortfall := 0 }))
    ∧ ∀ (w : Word) (i : Fin 16) (x : Additive), NamesAdditive w s i x →
      (∀ p1 p0, Taken 88 0 .general [w, p1, p0] r s → two p1 p0 ≤ 2147483647 →
        exec (.setAdditivePrice r) s
          = accepted .general .ok [] ((s.heard 88 r).setAdditive i { x with price := two p1 p0 }))
      ∧ (Taken 89 3 .read [w] r s →
        exec (.readAdditive r) s = accepted .read .ok
          (nameWords x.name ++ u32 x.price ++ u32 x.onHand ++ u32 x.received ++ u32 x.drawn ++ u32 x.shortfall
            ++ [(Handle.additive i s.tanks.additives[i].gen).word]) (s.heard 89 r))
      ∧ (∀ units, Taken 90 2 .general [w, units] r s → 1 ≤ one units → x.onHand + one units ≤ 4294967295 →
        x.received + one units ≤ 4294967295 →
        exec (.receiveAdditive r) s = accepted .general .ok [] ((s.heard 90 r).setAdditive i
          { x with onHand := x.onHand + one units, received := x.received + one units }))
      ∧ (∀ q1 q0, Taken 91 1 .general [w, q1, q0] r s →
        exec (.stockCount r) s = accepted .general .ok [] ((s.heard 91 r).setAdditive i
          { x with onHand := two q1 q0, received := two q1 q0, drawn := 0, shortfall := 0 }))
      ∧ (∀ (units tank : Word) (t : TankId) (a : Fin 4), Taken 92 3 .general [w, units, tank] r s →
        one tank = t.code → 1 ≤ one units → x.drawn + one units ≤ 4294967295 →
        x.shortfall + (one units - x.onHand) ≤ 4294967295 → s.active? = some a →
        let drawn : State := (s.heard 92 r).setAdditive i
          { x with
            drawn := x.drawn + one units, onHand := x.onHand - one units
            shortfall := x.shortfall + (one units - x.onHand) }
        let noted : State :=
          if one units ≤ x.onHand then drawn
          else drawn.raise .inventoryShort
            (.short (.additive i s.tanks.additives[i].gen) (one units - x.onHand))
        let billed : State := noted.addUnsettled a (consumableLine i) (one units)
        exec (.drawAdditive r) s = accepted .general .ok []
          (if t = s.tanks.active then billed
            else ({ billed with
              tanks := { billed.tanks with mixCount := some s.tanks.standbyTank.mixHold } }).reworkStandby))
      ∧ (Taken 93 1 .general [w] r s →
        ((∀ a j, s.job? a = some j →
            j.sheet[consumableLine i].settled = 0 ∧ j.sheet[consumableLine i].unsettled = 0) →
          exec (.retireAdditive r) s = accepted .general .ok [] { s.heard 93 r with
            tanks := { s.tanks with
              additives := s.tanks.additives.set i ⟨nextGen s.tanks.additives[i].gen, none⟩ } })
        ∧ (∀ a j, s.job? a = some j →
            j.sheet[consumableLine i].settled ≠ 0 ∨ j.sheet[consumableLine i].unsettled ≠ 0 →
            exec (.retireAdditive r) s = refusedWith .inUse (s.heard 93 r)))

/-- LEVEL and FLOW of GAUGE complete, and one from another station or of another value is discarded. A level is
clamped to 0 and the tank's depth with SENSOR_RANGE; the first of the ACTIVE tank makes the reference valid, one of
the STANDBY tank works its state out anew, and the suction test follows. A flow value counts when it repeats the
last; NO_FLOW accepted while RUNNING brings TOTAL, and FLOW newly accepted in TOTAL brings NORMAL. The step none of
the discards is the model's reading (log 26). A change of loss class raises LOSS_CLASS with the bit depth; the entry
into TOTAL wipes the Transit List and marks LOSS_ZONE on the interval at the bit, unless the class was SEVERE; the
change from TOTAL to NORMAL marks nothing; a class already held changes nothing. -/
def Obligations.GaugeReportsComplete : Prop :=
  (∀ (m : Message) (s : State) (st : Station),
    (Delivered 14 st m →
      (st ≠ .gauge ∨ levelTank m.value = none → exec (.level m) s
        = .next (s.raise .stationUnexpected (.unexpected m.address.toNat 14 none)))
      ∧ ∀ t, st = .gauge → levelTank m.value = some t →
        let v := levelValue m.value
        let x := s.tanks.tank t
        let level : Nat := if v < 0 then 0 else min v.toNat x.depth
        let ranged : State :=
          if v < 0 ∨ (x.depth : Int) < v then s.raise .sensorRange (.sensor .gauge (some t) v) else s
        let taken : State :=
          { ranged with tanks := s.tanks.setTank t { x with level := level, fresh := true } }
        (t ≠ s.tanks.active → exec (.level m) s = .next taken.reworkStandby.suctionTest)
        ∧ (t = s.tanks.active → s.tanks.reference ≠ none → exec (.level m) s = .next taken.suctionTest)
        ∧ (t = s.tanks.active → s.tanks.reference = none → exec (.level m) s
          = .next ({ taken with tanks := { taken.tanks with
              reference := some (level * x.mlPerMm), additions := 0, elapsed := 0 } }).suctionTest))
    ∧ (Delivered 15 st m →
      (st ≠ .gauge ∨ flowOf m.value = none → exec (.flow m) s
        = .next (s.raise .stationUnexpected (.unexpected m.address.toNat 15 none)))
      ∧ ∀ v, st = .gauge → flowOf m.value = some v →
        let held : State := { s with tanks := { s.tanks with
          flowAccepted := if s.tanks.flowLast = some v then some v else s.tanks.flowAccepted
          flowLast := some v } }
        let accepted_ := s.tanks.flowLast = some v ∨ s.tanks.flowAccepted = some v
        exec (.flow m) s = .next
          (if v = .noFlow ∧ accepted_ ∧ s.pumps.circ = .running then held.changeLoss .total 0
            else if v = .flow ∧ s.tanks.flowLast = some .flow ∧ s.tanks.flowAccepted ≠ some .flow
              ∧ s.tanks.lossClass = .total then held.changeLoss .normal 0
            else held)))
  ∧ ∀ s : State,
    let raised (cls : LossClass) : State := ({ s with tanks := { s.tanks with lossClass := cls } }).raise .lossClass
      (.loss cls (s.activeJob?.map Job.bitDepth))
    (∀ yield, s.changeLoss s.tanks.lossClass yield = s)
    ∧ (s.tanks.lossClass = .total → s.changeLoss .normal 0 = raised .normal)
    ∧ (s.tanks.lossClass ≠ .total → s.active? = none → s.changeLoss .total 0 = raised .total)
    ∧ (s.tanks.lossClass = .severe → s.changeLoss .total 0 = (raised .total).wipe)
    ∧ ∀ a j, s.tanks.lossClass ≠ .total → s.tanks.lossClass ≠ .severe → ActiveIs s a j →
      ∃ j', (raised .total).wipe.job? a = some j' ∧ j'.bitDepth = j.bitDepth
        ∧ s.changeLoss .total 0 = { (raised .total).wipe with
          jobs := (raised .total).wipe.jobs.set a ⟨s.jobs[a].gen, some { j' with
            column := markContaining j.bitDepth (fun iv => { iv with lossZone := true }) j'.column }⟩ }

/-- The standby state, the suction test and the swap. The standby tank is FILLING below its ready mark, else MIXING
while its hold runs, else READY; a change to READY brings the test. The test swaps the tanks by itself when the
ACTIVE tank is at or below its low mark and the other READY; otherwise the condition is SUCTION_EMPTY at or below
the empty mark, LOW_SUCTION at or below the low mark, else NORMAL, and a change of it has the ceilings worked out
and, but into NORMAL, raises its attention with the tank and its litres. A swap takes a reading of the outgoing
tank, exchanges the roles, starts the outgoing tank's hold and works its state out, makes the reference the incoming
tank's volume when that is fresh and not valid otherwise, with additions and elapsed seconds 0, makes the test for
the incoming tank, and raises TANK_SWAPPED with that tank and the cause. -/
def Obligations.SuctionRule : Prop :=
  ∀ s : State,
    let x := s.tanks.activeTank
    let y := s.tanks.standbyTank
    let volume (k : Tank) : Nat := k.level * k.mlPerMm
    let found : StandbyState :=
      if volume y < y.ready * 1000 then .filling else if s.tanks.mixCount = none then .ready else .mixing
    let worked : State := { s with tanks := { s.tanks with standby := found } }
    let condition : Suction :=
      if volume x ≤ x.empty * 1000 then .empty else if volume x ≤ x.low * 1000 then .low else .normal
    let changed : State := { s with
      tanks := { s.tanks with condition := condition }, pumps := s.pumps.rework condition }
    let swaps : Prop := volume x ≤ x.low * 1000 ∧ s.tanks.standby = .ready
    (found = .ready → s.tanks.standby ≠ .ready → s.reworkStandby = worked.suctionTest)
    ∧ (found ≠ .ready ∨ s.tanks.standby = .ready → s.reworkStandby = worked)
    ∧ (swaps → s.suctionTest = s.swap .automatic)
    ∧ (¬swaps → condition = s.tanks.condition → s.suctionTest = s)
    ∧ (¬swaps → condition ≠ s.tanks.condition →
      (condition = .normal → s.suctionTest = changed)
      ∧ (condition = .low →
        s.suctionTest = changed.raise .lowSuction (.suction s.tanks.active (volume x / 1000)))
      ∧ (condition = .empty →
        s.suctionTest = changed.raise .suctionEmpty (.suction s.tanks.active (volume x / 1000))))
    ∧ ∀ cause : SwapCause,
      let u := (s.reading (volume x)).tanks
      let incoming : TankId := if s.tanks.active = .a then .b else .a
      s.swap cause = (({ s.reading (volume x) with tanks := { u with
          active := incoming, mixCount := some x.mixHold
          standby := if volume x < x.ready * 1000 then .filling else .mixing
          reference := if y.fresh then some (volume y) else none, additions := 0, elapsed := 0 } }).suctionTest).raise
        .tankSwapped (.swapped incoming cause)

/-- A balance reading with a measured volume, for every state with a valid reference; without one there is none. The
loss is the reference and the additions less the whole hundredths of the accumulator and the measured volume. Its
class: a deficit at or below minus the gain threshold is GAIN, a loss at or above the severe threshold SEVERE, at or
above the seepage threshold SEEPAGE, any other NORMAL; TOTAL stays. A change of class raises LOSS_CLASS with the bit
depth, and marks the interval at the bit: LOSS_ZONE into SEVERE, WATER with the yield into GAIN. A loss above 0 adds
to the remainder, whose whole litres go to line 35 of the ACTIVE job. The reference becomes the measured volume. -/
def Obligations.BalanceReadingRule : Prop :=
  ∀ (s : State) (measured : Nat),
    let u := s.tanks
    let t := s.reading measured
    (u.reference = none → t = s)
    ∧ ∀ reference, u.reference = some reference →
      let loss : Int := ((reference + u.additions : Nat) : Int) - (u.fill / 100 : Nat) - measured
      let found : LossClass :=
        if u.lossClass = .total then .total
        else if loss ≤ -((u.gain * 1000 : Nat) : Int) then .gain
        else if ((u.severe * 1000 : Nat) : Int) ≤ loss then .severe
        else if ((u.seepage * 1000 : Nat) : Int) ≤ loss then .seepage
        else .normal
      let yield := if u.elapsed = 0 then 0 else min ((-loss).toNat * 60 / (u.elapsed * 1000)) 65535
      let marked (bit : Nat) (column : List Interval) : List Interval :=
        if found = u.lossClass then column
        else match found with
          | .severe => markContaining bit (fun iv => { iv with lossZone := true }) column
          | .gain => markContaining bit
              (fun iv => { iv with water := true, yield := some (iv.yield.getD yield) }) column
          | _ => column
      t.tanks = { u with
          reference := some measured, additions := 0, elapsed := 0, fill := u.fill % 100, lossClass := found
          remainder := if 0 < loss then (u.remainder + loss.toNat) % 1000 else u.remainder }
      ∧ (found = u.lossClass → t.attn[AttnKind.lossClass.ix] = s.attn[AttnKind.lossClass.ix])
      ∧ (found ≠ u.lossClass → t.attn[AttnKind.lossClass.ix].detail
          = some (.loss found (s.activeJob?.map Job.bitDepth)))
      ∧ (s.active? = none → t.jobs = s.jobs)
      ∧ (∀ a j, ActiveIs s a j → t.jobs = s.jobs.set a ⟨s.jobs[a].gen, some { j with
          column := marked j.bitDepth j.column
          sheet :=
            if 0 < loss then j.sheet.set 34 { j.sheet[34] with
              unsettled := clampLine (j.sheet[34].unsettled + ((u.remainder + loss.toNat) / 1000 : Nat)) }
            else j.sheet }⟩)
      ∧ Frame [.tanks, .jobs, .attn] s t

/-- Every step keeps the tanks and the tracker in their ranges (levels within depths, marks within capacities, a
READY standby tank out of its mix hold, no elapsed seconds without a reference, the last height within the head
stroke) and every additive's account in balance: on hand plus drawn is received plus shortfall. -/
def Obligations.TanksAndStoreInvariant : Prop :=
  ∀ s t : State, s.TanksOk → s.StoreOk → s.DepthOk → step s = .next t → t.TanksOk ∧ t.StoreOk ∧ t.DepthOk

/-! ### Lag and the Transit List -/

/-- The two capacities, and their range for diameters of up to 900 mm. The pieces of a depth `z` follow one another
from 0 to `z` without a gap, each at least 1 cm long and none crossing a section top or the BHA top; at depth 0
there are none. Each takes the diameter of the section containing it and, above the BHA top, the rod's OD, below it
the BHA's; and the lag is the sum of their terms and the surface line volume, held in 32 bits. The hole-fill of a
range is the sum, centimetre by centimetre, of the capacity of the hole there. -/
def Obligations.CapacitiesAndPieces : Prop :=
  (∀ D d : Nat,
    (d < D → annularCapacity D d = (D ^ 2 - d ^ 2) * 785 / 1000) ∧ (D ≤ d → annularCapacity D d = 0)
      ∧ holeCapacity D = D ^ 2 * 785 / 1000
      ∧ (D ≤ 900 → D ^ 2 * 785 ≤ 635850000 ∧ annularCapacity D d ≤ 635850 ∧ holeCapacity D ≤ 635850))
    ∧ (∀ (sections : List Section) (bha : Bha) (rodOd z : Nat),
    let ps := lagPieces sections bha rodOd z
    ps.map Piece.bottom = (ps.map Piece.top).drop 1 ++ (if z = 0 then [] else [z])
      ∧ (ps.map Piece.top).head? = (if z = 0 then none else some 0)
      ∧ ∀ p ∈ ps, p.top < p.bottom
        ∧ (∀ e ∈ sections, e.top ≤ p.top ∨ p.bottom ≤ e.top)
        ∧ (z - bha.length ≤ p.top ∨ p.bottom ≤ z - bha.length)
        ∧ p.diameter = diameterAt sections p.top
        ∧ p.od = (if z - bha.length ≤ p.top then bha.od else rodOd)
        ∧ p.term = annularCapacity p.diameter p.od * (p.bottom - p.top) / 100)
    ∧ (∀ (s : State) (j : Job) (z : Nat), s.lag j z =
        min (((lagPieces j.sections j.bha s.roster.types[j.rodType].od z).map Piece.term).sum
          + s.transit.surfaceLine) 4294967295)
    ∧ ∀ (sections : List Section) (h0 h1 : Nat),
        holeFill sections h0 h1 = ((List.range' h0 (h1 - h0)).map fun y => holeCapacity (diameterAt sections y)).sum

/-- READ_LAG, SET_SURFACE_LINE, READ_TRANSIT, READ_PARCEL, SET_PARCEL_STEP, TAKE_SAMPLE and REJECT_SAMPLE complete.
A sample binds the oldest ARRIVED parcel's range and takes the parcel off the list, or is refused COLUMN_FULL with
the parcel kept. The layout of the responses, with 0 for an absent field, is the model's (log 14). -/
def Obligations.LagAndTransitRequestsComplete : Prop :=
  ∀ (r : Request) (s : State),
    (∀ (w z1 z0 first : Word) (i : Fin 4) (j : Job), Taken 96 3 .read [w, z1, z0, first] r s →
      NamesJob w s i j → two z1 z0 ≤ 100000 → 1 ≤ one first → one first ≤ 9 →
      let z := two z1 z0
      let ps := lagPieces j.sections j.bha s.roster.types[j.rodType].od z
      exec (.readLag r) s = accepted .read .ok
        (u32 (s.lag j z) ++ u32 (z - j.bha.length) ++ u32 s.transit.surfaceLine
          ++ u32 (holeCapacity (diameterAt j.sections z)) ++ u16 ps.length
          ++ ((ps.drop (one first - 1)).take 4).flatMap (fun p => u32 p.top ++ u32 p.bottom ++ u16 p.diameter
            ++ u16 p.od ++ u32 p.capacity ++ u32 p.term)
          ++ u32 ((s.lag j z + s.pumps.p1.vps - 1) / s.pumps.p1.vps)
          ++ u32 ((s.lag j z + s.pumps.p2.vps - 1) / s.pumps.p2.vps)) (s.heard 96 r))
    ∧ (∀ v1 v0, Taken 97 1 .setup [v1, v0] r s → two v1 v0 ≤ 500000 →
      exec (.setSurfaceLine r) s = accepted .setup .ok [] { s.heard 97 r with
        transit := { s.transit with surfaceLine := two v1 v0 } })
    ∧ (Taken 112 3 .read [] r s →
      exec (.readTransit r) s = accepted .read .ok
        (u32 (s.transit.formingTop.getD 0) ++ u32 ((s.active?.map fun i => s.formingLength i).getD 0)
          ++ u16 s.transit.parcels.length ++ u16 (arrivedCount s.transit.parcels) ++ u32 s.transit.births
          ++ u16 s.transit.step ++ u32 s.transit.surfaceLine) (s.heard 112 r))
    ∧ (∀ n, Taken 113 3 .read [n] r s → 1 ≤ one n → one n ≤ 48 →
      (∀ p, s.transit.parcels[one n - 1]? = some p → exec (.readParcel r) s = accepted .read .ok
        (u32 p.ordinal ++ u32 p.top ++ u32 p.bottom ++ u32 p.lag ++ u32 p.advanced
          ++ u16 (if p.arrived then 2 else 1) ++ flag p.merged) (s.heard 113 r))
      ∧ (s.transit.parcels.length < one n → exec (.readParcel r) s = refusedWith .notFound (s.heard 113 r)))
    ∧ (∀ n, Taken 114 1 .setup [n] r s → 10 ≤ one n → one n ≤ 200 →
      exec (.setParcelStep r) s = accepted .setup .ok [] { s.heard 114 r with
        transit := { s.transit with step := one n } })
    ∧ (∀ (lith : Word) (l : Fin 64) (yield : List Word) (a : Fin 4) (p : Parcel), yield.length ≤ 1 →
      Taken 115 3 .general (lith :: yield) r s → one lith = l.val → s.active? = some a →
      s.oldestArrived = some p →
      (∀ t, (s.heard 115 r).bindRange a (.sample l (yield.head?.map one)) p.top p.bottom = some t →
        exec (.takeSample r) s = accepted .general .ok
          (u32 p.ordinal ++ u32 p.top ++ u32 p.bottom ++ flag p.merged)
          { t with transit := { s.transit with parcels := removeArrived s.transit.parcels } })
      ∧ ((s.heard 115 r).bindRange a (.sample l (yield.head?.map one)) p.top p.bottom = none →
        exec (.takeSample r) s = refusedWith .columnFull (s.heard 115 r)))
    ∧ ∀ (a : Fin 4) (p : Parcel), Taken 116 3 .general [] r s → s.active? = some a → s.oldestArrived = some p →
      exec (.rejectSample r) s = accepted .general .ok (u32 p.ordinal ++ u32 p.top ++ u32 p.bottom)
        (({ s.heard 116 r with
          transit := { s.transit with parcels := removeArrived s.transit.parcels } }).markRange a .notSampled
            p.top p.bottom)

/-- Births. A birth numbers the forming range from the forming top to the hole depth with the next ordinal and moves
the forming top to the hole depth. In TOTAL nothing is listed and the range is marked NO_RETURNS; with fewer than 48
parcels a new one is the youngest, IN_TRANSIT at advanced 0 with the lag of the hole depth; and a full list's
youngest takes the range in, keeping its ordinal and its advance, with its new lag and TRANSIT_MERGED. New hole
brings a birth when the range is at least the parcel step, and 1 cm, long; FORMATION_CHANGE and the head's freeing
(after the arbiter's test for a grant) when it is 1 cm long. -/
def Obligations.TransitBirthRule : Prop :=
  (∀ (s : State) (a : Fin 4) (j : Job) (top : Nat), s.job? a = some j → s.transit.formingTop = some top →
    let ordinal := (s.transit.births + 1) % 4294967296
    let counted (ps : List Parcel) : State := { s with transit := { s.transit with
      parcels := ps, births := ordinal, formingTop := some j.holeDepth } }
    let fresh : Parcel :=
      { ordinal := ordinal, top := top, bottom := j.holeDepth, lag := s.lag j j.holeDepth, advanced := 0
        arrived := false, merged := false }
    let born (t : State) : Prop :=
      (s.tanks.lossClass = .total →
        t = (counted s.transit.parcels).markRange a .noReturns top j.holeDepth
        ∧ t.transit = (counted s.transit.parcels).transit)
      ∧ (s.tanks.lossClass ≠ .total → s.transit.parcels.length < 48 →
        t = counted (s.transit.parcels ++ [fresh]))
      ∧ ∀ older youngest, s.tanks.lossClass ≠ .total → 48 ≤ s.transit.parcels.length →
        s.transit.parcels = older ++ [youngest] →
        t = (counted (older ++ [{ youngest with
          bottom := j.holeDepth, lag := s.lag j j.holeDepth, merged := true }])).raise .transitMerged
            (.merged youngest.ordinal youngest.top j.holeDepth ordinal)
    (j.holeDepth ≤ top → s.growForming a = s ∧ s.closeForming a = s)
    ∧ (top < j.holeDepth → born (s.closeForming a))
    ∧ (top < j.holeDepth → s.transit.step ≤ j.holeDepth - top → born (s.growForming a))
    ∧ (j.holeDepth - top < s.transit.step → s.growForming a = s))
  ∧ ∀ s : State, (s.active? = none → s.headFreed = s.grantTest)
      ∧ ∀ a, s.active? = some a → s.headFreed = s.grantTest.closeForming a

/-- Arrivals, at a stroke and at a recompute. A stroke advances every parcel in transit by its volume, a recompute
gives every one its lag anew; then, from the oldest, those whose advance has reached their lag arrive, up to the
first that has not. Past four at the shaker the oldest are dropped, their ranges marked NOT_SAMPLED in turn, with
SAMPLE_DROPPED; each arrival raises PARCEL_ARRIVED. The wipe of TOTAL takes every parcel in transit off the list and
marks its range NO_RETURNS. Without an ACTIVE job none of these does anything. -/
def Obligations.TransitArrivalRule : Prop :=
  ∀ s : State,
    let marks (a : Fin 4) (status : CutStatus) (ps : List Parcel) : State :=
      ps.foldl (fun u p => u.markRange a status p.top p.bottom) s
    let raised (k : AttnKind) (detail : Parcel → Detail) (ps : List Parcel) (t : State) : Prop :=
      (ps = [] → t.attn[k.ix] = s.attn[k.ix])
      ∧ ∀ earlier last, ps = earlier ++ [last] → t.attn[k.ix] =
        { pending := true, mask := s.attn[k.ix].mask, count := min (s.attn[k.ix].count + ps.length) 255,
          detail := some (detail last) }
    let tested (a : Fin 4) (ps : List Parcel) (t : State) : Prop :=
      let moving := ps.filter fun p => !p.arrived
      let coming := moving.takeWhile fun p => p.lag ≤ p.advanced
      let shaker := (ps.filter Parcel.arrived) ++ coming.map fun p => { p with arrived := true }
      let surplus := shaker.length - 4
      t.transit = { s.transit with parcels := shaker.drop surplus ++ moving.drop coming.length }
      ∧ t.jobs = (marks a .notSampled (shaker.take surplus)).jobs
      ∧ raised .parcelArrived (fun p => .arrived p.ordinal p.top p.bottom p.merged) coming t
      ∧ raised .sampleDropped (fun p => .dropped p.ordinal p.top p.bottom) (shaker.take surplus) t
      ∧ Frame [.transit, .jobs, .attn] s t
    (s.active? = none → (∀ vps, s.advanceParcels vps = s) ∧ s.recompute = s ∧ s.wipe = s)
    ∧ ∀ a j, ActiveIs s a j → s.TransitOk →
      (∀ vps, tested a (s.transit.parcels.map fun p =>
        if p.arrived then p else { p with advanced := min (p.advanced + vps) 4294967295 }) (s.advanceParcels vps))
      ∧ tested a (s.transit.parcels.map fun p =>
        if p.arrived then p else { p with lag := s.lag j p.bottom }) s.recompute
      ∧ s.wipe.transit = { s.transit with parcels := s.transit.parcels.filter Parcel.arrived }
      ∧ s.wipe.jobs = (marks a .noReturns (s.transit.parcels.filter fun p => !p.arrived)).jobs

/-- Every step keeps the Transit List within 48 parcels, at most four of them ARRIVED, and those the oldest. -/
def Obligations.TransitInvariant : Prop :=
  ∀ s t : State, s.TransitOk → step s = .next t → t.TransitOk

/-! ### Strata Column -/

/-- READ_LITHOLOGY, SET_LITHOLOGY, FORMATION_CHANGE, REVISE_INTERVAL, NOTE_WATER and READ_INTERVAL complete. That
FORMATION_CHANGE opens its bed before the forming parcel closes, and the form of READ_INTERVAL's selector, are the
model's (logs 23 and 16). The layout of the reads' responses is the model's (log 14), with the codes of the sources
(log 18), and so is the order of the joins that NOTE_WATER brings (log 25). -/
def Obligations.StrataRequestsComplete : Prop :=
  ∀ (r : Request) (s : State),
    (∀ first, Taken 128 3 .read [first] r s → one first ≤ 63 →
      exec (.readLithology r) s = accepted .read .ok
        ((((List.finRange 64).drop (one first)).take 8).flatMap fun k =>
          u16 k.val ++ nameWords s.lith[k].name ++ u16 s.lith[k].cls.code) (s.heard 128 r))
    ∧ (∀ (entry n0 n1 n2 n3 cls : Word) (k : Fin 64) (c : RockClass),
      Taken 129 1 .setup [entry, n0, n1, n2, n3, cls] r s → one entry = k.val → k ≠ 0 → one cls = c.code →
      (∀ x ∈ (nameOf n0 n1 n2 n3).toList, 32 ≤ x.toNat ∧ x.toNat ≤ 126) →
      exec (.setLithology r) s = accepted .setup .ok [] { s.heard 129 r with
        lith := s.lith.set k ⟨nameOf n0 n1 n2 n3, c⟩ })
    ∧ (∀ (lith : Word) (l : Fin 64) (a : Fin 4) (j : Job) (above : List Interval) (deepest : Interval),
      Taken 130 2 .general [lith] r s → one lith = l.val → ActiveIs s a j → j.column = above ++ [deepest] →
      let left (col : List Interval) : State := ({ s.heard 130 r with
        jobs := s.jobs.set a ⟨s.jobs[a].gen, some { j with column := col, declared := l }⟩ }).closeForming a
      let bed : Interval :=
        { top := j.holeDepth, bottom := j.holeDepth, lith := l, cls := s.lith[l].cls, source := .driller
          status := .pending, lossZone := false, water := false, merged := false, yield := none, minutes := 0 }
      (deepest.top = deepest.bottom → exec (.formationChange r) s = accepted .general .ok []
        (left (above ++ [{ deepest with lith := l, cls := s.lith[l].cls }])))
      ∧ (deepest.top ≠ deepest.bottom → j.column.length < 96 →
        exec (.formationChange r) s = accepted .general .ok [] (left (j.column ++ [bed])))
      ∧ (deepest.top ≠ deepest.bottom → j.column.length = 96 → ∀ col, capacityMerge j.column = some col →
        exec (.formationChange r) s = accepted .general .ok [] (left (col ++ [bed])))
      ∧ (deepest.top ≠ deepest.bottom → j.column.length = 96 → capacityMerge j.column = none →
        exec (.formationChange r) s = refusedWith .columnFull (s.heard 130 r)))
    ∧ (∀ (w t1 t0 b1 b0 lith : Word) (l : Fin 64) (i : Fin 4) (j : Job),
      Taken 131 2 .general [w, t1, t0, b1, b0, lith] r s → NamesJob w s i j → j.phase ≠ .closed →
      one lith = l.val → two t1 t0 < two b1 b0 → two b1 b0 ≤ j.holeDepth →
      (two t1 t0 < j.settleMark → 1 < r.level.toNat →
        exec (.reviseInterval r) s = refusedWith .settled (s.heard 131 r))
      ∧ (j.settleMark ≤ two t1 t0 ∨ r.level.toNat ≤ 1 →
        (∀ t, (s.heard 131 r).bindRange i (.revise l) (two t1 t0) (two b1 b0) = some t →
          exec (.reviseInterval r) s = accepted .general .ok (u16 (t.intervalCount i)) t)
        ∧ ((s.heard 131 r).bindRange i (.revise l) (two t1 t0) (two b1 b0) = none →
          exec (.reviseInterval r) s = refusedWith .columnFull (s.heard 131 r))))
    ∧ (∀ (w d1 d0 yield : Word) (i : Fin 4) (j : Job), Taken 132 2 .general [w, d1, d0, yield] r s →
      NamesJob w s i j → j.phase ≠ .closed → two d1 d0 ≤ 100000 → two d1 d0 ≤ j.holeDepth →
      exec (.noteWater r) s = accepted .general .ok [] { s.heard 132 r with
        jobs := s.jobs.set i ⟨s.jobs[i].gen, some { j with
          column := markContaining (two d1 d0) (fun iv => { iv with water := true, yield := some (one yield) })
            j.column }⟩ })
    ∧ ∀ (w : Word) (i : Fin 4) (j : Job), NamesJob w s i j →
      let shown (k : Nat) (iv : Interval) : List Word :=
        u32 iv.top ++ u32 iv.bottom ++ u16 iv.lith.val ++ u16 iv.cls.code ++ u16 iv.source.code
          ++ u16 iv.status.code ++ u16 (iv.lossZone.toNat + 2 * iv.water.toNat + 4 * iv.merged.toNat)
          ++ u16 (iv.yield.getD 0) ++ u32 iv.minutes ++ u16 (k + 1) ++ u16 j.column.length ++ u32 j.holeDepth
          ++ u32 j.settleMark
      (∀ d1 d0 iv, Taken 133 3 .read [w, d1, d0] r s → two d1 d0 ≤ 100000 → two d1 d0 ≤ j.holeDepth →
        j.column[containing (two d1 d0) j.column]? = some iv →
        exec (.readInterval r) s
          = accepted .read .ok (shown (containing (two d1 d0) j.column) iv) (s.heard 133 r))
      ∧ (∀ n iv, Taken 133 3 .read [w, n] r s → 1 ≤ one n → one n ≤ 96 → j.column[one n - 1]? = some iv →
        exec (.readInterval r) s = accepted .read .ok (shown (one n - 1) iv) (s.heard 133 r))

/-- A range change, by a sample, a revision or a mark. Where the column has room for its splits, what it gives
stands at every depth of [a, b) and nothing else changes at any other depth; a deepest interval of no thickness at b
takes it too, and one below b does not; the column stays sound and its drilled minutes stay in sum; the settled
figures and the lines that are not footage stay. A range strictly inside one interval whose record it changes cuts
that interval in three, with its minutes shared. Without room a change seeks it by capacity merges, one after
another: a sample or a revision that finds none is refused; a mark that finds room is made in the merged column, and
one that finds none makes no merge, gives its status to the intervals of some thickness wholly inside and raises
COLUMN_FULL. And a flag mark changes the interval that contains its depth, or the deepest below them all, and no
other. -/
def Obligations.RangeChangeRule : Prop :=
  (∀ (s : State) (i : Fin 4) (j : Job) (change : RangeChange) (a b : Nat), s.job? i = some j → j.ColumnOk → a < b →
    b ≤ j.holeDepth →
    let given (iv : Interval) : Interval := match change with
      | .sample l none => { iv with lith := l, cls := s.lith[l].cls, source := .sample, status := .sampled }
      | .sample l (some y) =>
        { iv with
          lith := l, cls := s.lith[l].cls, source := .sample, status := .sampled, water := true, yield := some y }
      | .mark status => { iv with status := status }
      | .revise l => { iv with lith := l, cls := s.lith[l].cls, source := .revised }
    let log (iv : Interval) : Interval := { iv with top := 0, bottom := 0, minutes := 0 }
    let cuts := (j.column.filter fun iv => iv.top < a && a < iv.bottom).length
      + (j.column.filter fun iv => iv.top < b && b < iv.bottom).length
    let changed (t : State) (inside : Nat → Interval → Prop) (deep : Prop) (j' : Job) : Prop :=
      t.jobs = s.jobs.set i ⟨s.jobs[i].gen, some j'⟩ ∧ j'.ColumnOk
      ∧ j' = { j with column := j'.column, sheet := j'.sheet }
      ∧ (∀ line : Fin 40, j'.sheet[line].settled = j.sheet[line].settled
        ∧ j'.sheet[line].amount = j.sheet[line].amount ∧ (12 ≤ line.val → j'.sheet[line] = j.sheet[line]))
      ∧ (∀ depth u v, depth < j.holeDepth → j.column[containing depth j.column]? = some u →
        j'.column[containing depth j'.column]? = some v →
        (inside depth u → log v = log (given u)) ∧ (¬inside depth u → log v = log u))
      ∧ (∀ u v, j.column.getLast? = some u → u.top = u.bottom → j'.column.getLast? = some v →
        (deep → log v = log (given u)) ∧ (¬deep → log v = log u))
      ∧ ((j.column.map Interval.minutes).sum ≤ 4294967295 →
        (j'.column.map Interval.minutes).sum = (j.column.map Interval.minutes).sum)
      ∧ Frame [.jobs, .attn] s t
    let inRange (depth : Nat) (_ : Interval) : Prop := a ≤ depth ∧ depth < b
    let cutInThree (j' : Job) : Prop :=
      ∀ above iv below, j.column = above ++ iv :: below → iv.top < a → b < iv.bottom → log (given iv) ≠ log iv →
        let upper := iv.minutes * (a - iv.top) / (iv.bottom - iv.top)
        let middle := (iv.minutes - upper) * (b - a) / (iv.bottom - a)
        j'.column = above ++ [{ iv with bottom := a, minutes := upper },
          { given iv with top := a, bottom := b, minutes := middle },
          { iv with top := b, minutes := iv.minutes - upper - middle }] ++ below
    (j.column.length + cuts ≤ 96 →
      (∃ t j', s.bindRange i change a b = some t ∧ changed t inRange (b = j.holeDepth) j' ∧ cutInThree j')
      ∧ ∀ status, change = .mark status →
        ∃ j', changed (s.markRange i status a b) inRange (b = j.holeDepth) j' ∧ cutInThree j' ∧ j'.sheet = j.sheet
          ∧ (s.markRange i status a b).attn = s.attn)
    ∧ (96 < j.column.length + cuts →
      (∀ col, capacityMerge j.column = some col → s.bindRange i change a b
        = ({ s with jobs := s.jobs.set i ⟨s.jobs[i].gen, some { j with column := col }⟩ }).bindRange i change a b)
      ∧ (capacityMerge j.column = none → s.bindRange i change a b = none))
    ∧ ∀ status, change = .mark status →
      (∀ t, s.bindRange i change a b = some t → s.markRange i status a b = t)
      ∧ (s.bindRange i change a b = none →
        ∃ j', changed (s.markRange i status a b) (fun _ u => a ≤ u.top ∧ u.bottom ≤ b) False j' ∧ j'.sheet = j.sheet
          ∧ (s.markRange i status a b).attn[AttnKind.columnFull.ix].detail = some (.columnFull
            (.job i s.jobs[i].gen) (if status = .noReturns then .noReturns else .notSampled) a b)))
  ∧ ∀ (j : Job) (d : Nat) (mark : Interval → Interval), j.ColumnOk →
    (∀ iv, (mark iv).top = iv.top ∧ (mark iv).bottom = iv.bottom) →
    let log (iv : Interval) : Interval := { iv with top := 0, bottom := 0, minutes := 0 }
    let col := markContaining d mark j.column
    { j with column := col }.ColumnOk
    ∧ (∀ depth u v, depth < j.holeDepth → j.column[containing depth j.column]? = some u →
      col[containing depth col]? = some v →
      (containing depth j.column = containing d j.column → log v = log (mark u))
      ∧ (containing depth j.column ≠ containing d j.column → log v = log u))
    ∧ ∀ u v, j.column.getLast? = some u → col.getLast? = some v →
      (containing d j.column + 1 = j.column.length → log v = log (mark u))
      ∧ (containing d j.column + 1 ≠ j.column.length → log v = log u)

/-- The capacity merge: none when no two neighbours above the deepest interval share a class; else it merges the
pair of smallest combined thickness, the shallowest of equals. The record of the thicker of the two, or of the upper
of equals, gives lithology, source, status and yield (the other's yield where it holds none); the flags are those of
either with MERGED, the minutes their sum. -/
def Obligations.CapacityMergeRule : Prop :=
  ∀ col : List Interval,
    let eligible (k : Nat) (u l : Interval) : Prop :=
      k + 2 < col.length ∧ col[k]? = some u ∧ col[k + 1]? = some l ∧ u.cls = l.cls
    ((∀ k u l, ¬eligible k u l) → capacityMerge col = none)
    ∧ ∀ k u l, eligible k u l →
      (∀ n v w, eligible n v w → l.bottom - u.top ≤ w.bottom - v.top ∧ (n < k → l.bottom - u.top < w.bottom - v.top)) →
      let thicker := if u.bottom - u.top < l.bottom - l.top then l else u
      let other := if u.bottom - u.top < l.bottom - l.top then u else l
      capacityMerge col = some (col.take k ++ { thicker with
          top := u.top, bottom := l.bottom, lossZone := u.lossZone || l.lossZone, water := u.water || l.water
          merged := true, yield := if thicker.yield = none then other.yield else thicker.yield
          minutes := min (u.minutes + l.minutes) 4294967295 } :: col.drop (k + 2))

/-- Every step keeps every job's column a run of 1 to 96 intervals that covers [0, hole depth) without a gap or an
overlap, none but the deepest without thickness, and the ACTIVE job's parcels inside its hole. -/
def Obligations.ColumnInvariant : Prop :=
  ∀ s t : State, s.OneActive → s.ParcelsOk → s.ColumnsOk → step s = .next t → t.ParcelsOk ∧ t.ColumnsOk

/-! ### Job Sheet -/

/-- READ_SHEET, READ_RATES and SETTLE complete. A settlement leaves nothing unsettled and the mark at the hole
depth, touches no other job, answers with the mark and the job total, marked when that reached a limit, and raises
AMOUNT_SATURATED, kind SETTLED, for each line in order whose increment, settled quantity or amount reached one. The
layout of the responses is the model's (log 14), and a figure at a limit exactly counts as having reached it (log
24). -/
def Obligations.SheetRequestsComplete : Prop :=
  ∀ (r : Request) (s : State) (w : Word) (i : Fin 4) (j : Job), NamesJob w s i j →
    (∀ first, Taken 144 3 .read [w, first] r s → 1 ≤ one first → one first ≤ 40 →
      let total := clampLine (((List.finRange 40).map (s.provisional j)).sum)
      exec (.readSheet r) s = accepted .read .ok
        ((((List.finRange 40).drop (one first - 1)).take 4).flatMap (fun line =>
            u16 (line.val + 1) ++ flag (s.linePresent j line) ++ i32 j.sheet[line].settled
              ++ i32 j.sheet[line].unsettled ++ i32 j.sheet[line].amount ++ i32 (s.provisional j line)
              ++ flag (s.provisional j line == 2147483647 || s.provisional j line == -2147483647))
          ++ i32 total ++ flag (total == 2147483647 || total == -2147483647) ++ u32 j.settleMark ++ u32 j.holeDepth
          ++ u32 j.startDepth) (s.heard 144 r))
    ∧ (Taken 145 3 .read [w] r s →
      exec (.readRates r) s = accepted .read .ok
        (u32 j.b1 ++ u32 j.b2 ++ j.rates.footage.toList.flatMap u32 ++ j.rates.activity.toList.flatMap u32
          ++ u32 0 ++ u32 j.rates.lostMud ++ u32 s.roster.types[0].price ++ u32 s.roster.types[1].price
          ++ u32 s.roster.types[2].price ++ u32 s.roster.types[3].price ++ u32 j.bha.price) (s.heard 145 r))
    ∧ (Taken 146 0 .general [w] r s → j.phase = .active ∨ j.phase = .suspended →
      ∃ t j', exec (.settle r) s = accepted .general .ok
          (let total := clampLine (((List.finRange 40).map (t.provisional j')).sum)
           u32 j.holeDepth ++ i32 total ++ flag (total == 2147483647 || total == -2147483647)) t
        ∧ t.job? i = some j' ∧ j' = { j with settleMark := j.holeDepth, sheet := j'.sheet }
        ∧ (∀ line : Fin 40, j'.sheet[line] =
            if j.sheet[line].unsettled = 0 then j.sheet[line]
            else
              { settled := clampLine (j.sheet[line].settled + j.sheet[line].unsettled), unsettled := 0
                amount := clampLine (j.sheet[line].amount
                  + lineAmount line (s.linePrice j line) j.sheet[line].unsettled) })
        ∧ (∀ k : Fin 4, k ≠ i → t.jobs[k] = s.jobs[k]) ∧ Frame [.link, .protection, .jobs, .attn] s t
        ∧ (∀ k : Fin 22, k ≠ AttnKind.amountSaturated.ix → t.attn[k] = s.attn[k])
        ∧ let atLimit (z : Int) : Prop := z = 2147483647 ∨ z = -2147483647
          let increment (line : Fin 40) : Nat :=
            let n := j.sheet[line].unsettled.natAbs * s.linePrice j line
            if line.val < 12 then (n + 50) / 100
            else if line.val < 18 then (n + 30) / 60
            else if line.val = 34 then (n + 500) / 1000
            else n
          let full (line : Fin 40) : Prop := j.sheet[line].unsettled ≠ 0
            ∧ (2147483647 < increment line ∨ atLimit j'.sheet[line].settled ∨ atLimit j'.sheet[line].amount)
          ∃ lines : List (Fin 40), lines.Pairwise (fun x y => x.val < y.val) ∧ (∀ line, line ∈ lines ↔ full line)
            ∧ (lines = [] → t.attn[AttnKind.amountSaturated.ix] = s.attn[AttnKind.amountSaturated.ix])
            ∧ ∀ earlier last, lines = earlier ++ [last] → t.attn[AttnKind.amountSaturated.ix] =
              { pending := true, mask := s.attn[AttnKind.amountSaturated.ix].mask
                count := min (s.attn[AttnKind.amountSaturated.ix].count + lines.length) 255
                detail := some (.saturated (.job i s.jobs[i].gen) last .settled) })

/-- The minute that has ended. Its line, for an ACTIVE job: STANDBY in the modes STANDBY and WAKING, else DOWN with
the flag set, else DRILLING with the drilling mark, else TRIPPING with the tripping mark or an operation in flight,
else CIRCULATING unless circulation is STOPPED, else IDLE. That line rises by 1 minute and no other changes; a
DRILLING minute goes to the deepest interval too, and no other interval changes. Without an ACTIVE job nothing is
billed. In either case the drilling mark is cleared, and the tripping mark unless an operation is in flight. -/
def Obligations.MinuteRule : Prop :=
  ∀ s : State,
    let t := s.sheetMinute
    t.drilling = false ∧ t.engine = { s.engine with tripping := s.engine.tripping && s.engine.op.isSome }
    ∧ (s.active? = none → Frame [.drilling, .engine] s t)
    ∧ ∀ a j, ActiveIs s a j →
      let number : Nat :=
        if s.mode.mode = .standby ∨ s.mode.mode = .waking then 17
        else if j.down then 18
        else if s.drilling then 13
        else if s.engine.tripping = true ∨ s.engine.op ≠ none then 15
        else if s.pumps.circ ≠ .stopped then 14
        else 16
      Frame [.drilling, .engine, .jobs, .attn] s t
      ∧ ∃ j', t.jobs = s.jobs.set a ⟨s.jobs[a].gen, some j'⟩
        ∧ j' = { j with column := j'.column, sheet := j'.sheet }
        ∧ (∀ line : Fin 40, line.val + 1 ≠ number → j'.sheet[line] = j.sheet[line])
        ∧ (∀ line : Fin 40, line.val + 1 = number → j'.sheet[line] = { j.sheet[line] with
            unsettled := clampLine (j.sheet[line].unsettled + 1) })
        ∧ (number ≠ 13 → j'.column = j.column)
        ∧ ∀ above deepest, number = 13 → j.column = above ++ [deepest] → j'.column =
            above ++ [{ deepest with minutes := min (deepest.minutes + 1) 4294967295 }]

/-- The amount of a quantity on a line: footage per metre, activity per hour, lost mud per cubic metre, and counts,
each rounded to the nearest cent with the half up in magnitude and saturated. -/
def Obligations.AmountRule : Prop :=
  ∀ (line : Fin 40) (price q : Nat), price ≤ 2147483647 → q ≤ 2147483647 →
    let limited (n : Nat) : Int := min n 2147483647
    (line.val + 1 ≤ 12 → lineAmount line price q = limited ((q * price + 50) / 100))
    ∧ (13 ≤ line.val + 1 → line.val + 1 ≤ 18 → lineAmount line price q = limited ((q * price + 30) / 60))
    ∧ (line.val + 1 = 35 → lineAmount line price q = limited ((q * price + 500) / 1000))
    ∧ (19 ≤ line.val + 1 → line.val + 1 ≠ 35 → lineAmount line price q = limited (q * price))
    ∧ lineAmount line price (-(q : Int)) = -lineAmount line price q

/-- Every step keeps every job's footage lines with its column: for each class and band, settled plus unsettled
footage is the thickness of that class in that band between start depth and hole depth. The premises are the
invariants of the columns, depths and bands, and that the string is no longer than 100,000 cm (StringInvariant keeps
it so), so that no hole becomes deeper and no figure saturates. -/
def Obligations.FootageInvariant : Prop :=
  ∀ s t : State, s.OneActive → s.ParcelsOk → s.ColumnsOk → s.DepthsOk → s.FootageBounded → s.FootageOk →
    s.roster.stringLen ≤ 100000 → step s = .next t → t.HolesBounded ∧ t.FootageBounded ∧ t.FootageOk
end

