-- ==== Sys2Proof/Laws/State.lean ====
section
/-! SUPPORT. One lemma per field and per update of `State`, each true by `rfl`. -/

namespace Sys2Proof.Machine

/-! ### `State.raise` -/

@[simp] theorem State.raise_mode (k : AttnKind) (d : Detail) (s : State) : (s.raise k d).mode = s.mode := rfl
@[simp] theorem State.raise_jobs (k : AttnKind) (d : Detail) (s : State) : (s.raise k d).jobs = s.jobs := rfl
@[simp] theorem State.raise_protection (k : AttnKind) (d : Detail) (s : State) :
    (s.raise k d).protection = s.protection := rfl
@[simp] theorem State.raise_roster (k : AttnKind) (d : Detail) (s : State) :
    (s.raise k d).roster = s.roster := rfl
@[simp] theorem State.raise_arbiter (k : AttnKind) (d : Detail) (s : State) :
    (s.raise k d).arbiter = s.arbiter := rfl
@[simp] theorem State.raise_engine (k : AttnKind) (d : Detail) (s : State) :
    (s.raise k d).engine = s.engine := rfl
@[simp] theorem State.raise_depth (k : AttnKind) (d : Detail) (s : State) :
    (s.raise k d).depth = s.depth := rfl
@[simp] theorem State.raise_pumps (k : AttnKind) (d : Detail) (s : State) :
    (s.raise k d).pumps = s.pumps := rfl
@[simp] theorem State.raise_tanks (k : AttnKind) (d : Detail) (s : State) :
    (s.raise k d).tanks = s.tanks := rfl
@[simp] theorem State.raise_transit (k : AttnKind) (d : Detail) (s : State) :
    (s.raise k d).transit = s.transit := rfl
@[simp] theorem State.raise_lith (k : AttnKind) (d : Detail) (s : State) : (s.raise k d).lith = s.lith := rfl
@[simp] theorem State.raise_drilling (k : AttnKind) (d : Detail) (s : State) :
    (s.raise k d).drilling = s.drilling := rfl
@[simp] theorem State.raise_attn (k : AttnKind) (d : Detail) (s : State) :
    (s.raise k d).attn = s.attn.set k.ix ((s.attn[k.ix]).raised d) := rfl
@[simp] theorem State.raise_link (k : AttnKind) (d : Detail) (s : State) : (s.raise k d).link = s.link := rfl
@[simp] theorem State.raise_receiver (k : AttnKind) (d : Detail) (s : State) :
    (s.raise k d).receiver = s.receiver := rfl
@[simp] theorem State.raise_draws (k : AttnKind) (d : Detail) (s : State) :
    (s.raise k d).draws = s.draws := rfl
@[simp] theorem State.raise_pending (k : AttnKind) (d : Detail) (s : State) :
    (s.raise k d).pending = s.pending := rfl

/-! ### `State.setJob` -/

@[simp] theorem State.setJob_mode (i : Fin 4) (j : Job) (s : State) : (s.setJob i j).mode = s.mode := rfl
@[simp] theorem State.setJob_jobs (i : Fin 4) (j : Job) (s : State) :
    (s.setJob i j).jobs = s.jobs.set i { s.jobs[i] with job := some j } := rfl
@[simp] theorem State.setJob_protection (i : Fin 4) (j : Job) (s : State) :
    (s.setJob i j).protection = s.protection := rfl
@[simp] theorem State.setJob_roster (i : Fin 4) (j : Job) (s : State) :
    (s.setJob i j).roster = s.roster := rfl
@[simp] theorem State.setJob_arbiter (i : Fin 4) (j : Job) (s : State) :
    (s.setJob i j).arbiter = s.arbiter := rfl
@[simp] theorem State.setJob_engine (i : Fin 4) (j : Job) (s : State) :
    (s.setJob i j).engine = s.engine := rfl
@[simp] theorem State.setJob_depth (i : Fin 4) (j : Job) (s : State) : (s.setJob i j).depth = s.depth := rfl
@[simp] theorem State.setJob_pumps (i : Fin 4) (j : Job) (s : State) : (s.setJob i j).pumps = s.pumps := rfl
@[simp] theorem State.setJob_tanks (i : Fin 4) (j : Job) (s : State) : (s.setJob i j).tanks = s.tanks := rfl
@[simp] theorem State.setJob_transit (i : Fin 4) (j : Job) (s : State) :
    (s.setJob i j).transit = s.transit := rfl
@[simp] theorem State.setJob_lith (i : Fin 4) (j : Job) (s : State) : (s.setJob i j).lith = s.lith := rfl
@[simp] theorem State.setJob_drilling (i : Fin 4) (j : Job) (s : State) :
    (s.setJob i j).drilling = s.drilling := rfl
@[simp] theorem State.setJob_attn (i : Fin 4) (j : Job) (s : State) : (s.setJob i j).attn = s.attn := rfl
@[simp] theorem State.setJob_link (i : Fin 4) (j : Job) (s : State) : (s.setJob i j).link = s.link := rfl
@[simp] theorem State.setJob_receiver (i : Fin 4) (j : Job) (s : State) :
    (s.setJob i j).receiver = s.receiver := rfl
@[simp] theorem State.setJob_draws (i : Fin 4) (j : Job) (s : State) : (s.setJob i j).draws = s.draws := rfl
@[simp] theorem State.setJob_pending (i : Fin 4) (j : Job) (s : State) :
    (s.setJob i j).pending = s.pending := rfl

/-! ### `State.setRod` -/

@[simp] theorem State.setRod_mode (i : Fin 128) (r : Rod) (s : State) : (s.setRod i r).mode = s.mode := rfl
@[simp] theorem State.setRod_jobs (i : Fin 128) (r : Rod) (s : State) : (s.setRod i r).jobs = s.jobs := rfl
@[simp] theorem State.setRod_protection (i : Fin 128) (r : Rod) (s : State) :
    (s.setRod i r).protection = s.protection := rfl
@[simp] theorem State.setRod_roster (i : Fin 128) (r : Rod) (s : State) :
    (s.setRod i r).roster =
      { s.roster with slots := s.roster.slots.set i { s.roster.slots[i] with rod := some r } } := rfl
@[simp] theorem State.setRod_arbiter (i : Fin 128) (r : Rod) (s : State) :
    (s.setRod i r).arbiter = s.arbiter := rfl
@[simp] theorem State.setRod_engine (i : Fin 128) (r : Rod) (s : State) :
    (s.setRod i r).engine = s.engine := rfl
@[simp] theorem State.setRod_depth (i : Fin 128) (r : Rod) (s : State) : (s.setRod i r).depth = s.depth := rfl
@[simp] theorem State.setRod_pumps (i : Fin 128) (r : Rod) (s : State) : (s.setRod i r).pumps = s.pumps := rfl
@[simp] theorem State.setRod_tanks (i : Fin 128) (r : Rod) (s : State) : (s.setRod i r).tanks = s.tanks := rfl
@[simp] theorem State.setRod_transit (i : Fin 128) (r : Rod) (s : State) :
    (s.setRod i r).transit = s.transit := rfl
@[simp] theorem State.setRod_lith (i : Fin 128) (r : Rod) (s : State) : (s.setRod i r).lith = s.lith := rfl
@[simp] theorem State.setRod_drilling (i : Fin 128) (r : Rod) (s : State) :
    (s.setRod i r).drilling = s.drilling := rfl
@[simp] theorem State.setRod_attn (i : Fin 128) (r : Rod) (s : State) : (s.setRod i r).attn = s.attn := rfl
@[simp] theorem State.setRod_link (i : Fin 128) (r : Rod) (s : State) : (s.setRod i r).link = s.link := rfl
@[simp] theorem State.setRod_receiver (i : Fin 128) (r : Rod) (s : State) :
    (s.setRod i r).receiver = s.receiver := rfl
@[simp] theorem State.setRod_draws (i : Fin 128) (r : Rod) (s : State) : (s.setRod i r).draws = s.draws := rfl
@[simp] theorem State.setRod_pending (i : Fin 128) (r : Rod) (s : State) :
    (s.setRod i r).pending = s.pending := rfl

/-! ### `State.removeRod` -/

@[simp] theorem State.removeRod_mode (i : Fin 128) (s : State) : (s.removeRod i).mode = s.mode := rfl
@[simp] theorem State.removeRod_jobs (i : Fin 128) (s : State) : (s.removeRod i).jobs = s.jobs := rfl
@[simp] theorem State.removeRod_protection (i : Fin 128) (s : State) :
    (s.removeRod i).protection = s.protection := rfl
@[simp] theorem State.removeRod_roster (i : Fin 128) (s : State) :
    (s.removeRod i).roster =
      { s.roster with slots := s.roster.slots.set i ⟨nextGen s.roster.slots[i].gen, none⟩ } := rfl
@[simp] theorem State.removeRod_arbiter (i : Fin 128) (s : State) : (s.removeRod i).arbiter = s.arbiter := rfl
@[simp] theorem State.removeRod_engine (i : Fin 128) (s : State) : (s.removeRod i).engine = s.engine := rfl
@[simp] theorem State.removeRod_depth (i : Fin 128) (s : State) : (s.removeRod i).depth = s.depth := rfl
@[simp] theorem State.removeRod_pumps (i : Fin 128) (s : State) : (s.removeRod i).pumps = s.pumps := rfl
@[simp] theorem State.removeRod_tanks (i : Fin 128) (s : State) : (s.removeRod i).tanks = s.tanks := rfl
@[simp] theorem State.removeRod_transit (i : Fin 128) (s : State) : (s.removeRod i).transit = s.transit := rfl
@[simp] theorem State.removeRod_lith (i : Fin 128) (s : State) : (s.removeRod i).lith = s.lith := rfl
@[simp] theorem State.removeRod_drilling (i : Fin 128) (s : State) :
    (s.removeRod i).drilling = s.drilling := rfl
@[simp] theorem State.removeRod_attn (i : Fin 128) (s : State) : (s.removeRod i).attn = s.attn := rfl
@[simp] theorem State.removeRod_link (i : Fin 128) (s : State) : (s.removeRod i).link = s.link := rfl
@[simp] theorem State.removeRod_receiver (i : Fin 128) (s : State) :
    (s.removeRod i).receiver = s.receiver := rfl
@[simp] theorem State.removeRod_draws (i : Fin 128) (s : State) : (s.removeRod i).draws = s.draws := rfl
@[simp] theorem State.removeRod_pending (i : Fin 128) (s : State) : (s.removeRod i).pending = s.pending := rfl

/-! ### `State.setAdditive` -/

@[simp] theorem State.setAdditive_mode (i : Fin 16) (x : Additive) (s : State) :
    (s.setAdditive i x).mode = s.mode := rfl
@[simp] theorem State.setAdditive_jobs (i : Fin 16) (x : Additive) (s : State) :
    (s.setAdditive i x).jobs = s.jobs := rfl
@[simp] theorem State.setAdditive_protection (i : Fin 16) (x : Additive) (s : State) :
    (s.setAdditive i x).protection = s.protection := rfl
@[simp] theorem State.setAdditive_roster (i : Fin 16) (x : Additive) (s : State) :
    (s.setAdditive i x).roster = s.roster := rfl
@[simp] theorem State.setAdditive_arbiter (i : Fin 16) (x : Additive) (s : State) :
    (s.setAdditive i x).arbiter = s.arbiter := rfl
@[simp] theorem State.setAdditive_engine (i : Fin 16) (x : Additive) (s : State) :
    (s.setAdditive i x).engine = s.engine := rfl
@[simp] theorem State.setAdditive_depth (i : Fin 16) (x : Additive) (s : State) :
    (s.setAdditive i x).depth = s.depth := rfl
@[simp] theorem State.setAdditive_pumps (i : Fin 16) (x : Additive) (s : State) :
    (s.setAdditive i x).pumps = s.pumps := rfl
@[simp] theorem State.setAdditive_tanks (i : Fin 16) (x : Additive) (s : State) :
    (s.setAdditive i x).tanks =
      { s.tanks with additives := s.tanks.additives.set i { s.tanks.additives[i] with item := some x } } := rfl
@[simp] theorem State.setAdditive_transit (i : Fin 16) (x : Additive) (s : State) :
    (s.setAdditive i x).transit = s.transit := rfl
@[simp] theorem State.setAdditive_lith (i : Fin 16) (x : Additive) (s : State) :
    (s.setAdditive i x).lith = s.lith := rfl
@[simp] theorem State.setAdditive_drilling (i : Fin 16) (x : Additive) (s : State) :
    (s.setAdditive i x).drilling = s.drilling := rfl
@[simp] theorem State.setAdditive_attn (i : Fin 16) (x : Additive) (s : State) :
    (s.setAdditive i x).attn = s.attn := rfl
@[simp] theorem State.setAdditive_link (i : Fin 16) (x : Additive) (s : State) :
    (s.setAdditive i x).link = s.link := rfl
@[simp] theorem State.setAdditive_receiver (i : Fin 16) (x : Additive) (s : State) :
    (s.setAdditive i x).receiver = s.receiver := rfl
@[simp] theorem State.setAdditive_draws (i : Fin 16) (x : Additive) (s : State) :
    (s.setAdditive i x).draws = s.draws := rfl
@[simp] theorem State.setAdditive_pending (i : Fin 16) (x : Additive) (s : State) :
    (s.setAdditive i x).pending = s.pending := rfl

/-! ### `State.setPumps` -/

@[simp] theorem State.setPumps_mode (c : PumpCtl) (s : State) : (s.setPumps c).mode = s.mode := rfl
@[simp] theorem State.setPumps_jobs (c : PumpCtl) (s : State) : (s.setPumps c).jobs = s.jobs := rfl
@[simp] theorem State.setPumps_protection (c : PumpCtl) (s : State) :
    (s.setPumps c).protection = s.protection := rfl
@[simp] theorem State.setPumps_roster (c : PumpCtl) (s : State) : (s.setPumps c).roster = s.roster := rfl
@[simp] theorem State.setPumps_arbiter (c : PumpCtl) (s : State) : (s.setPumps c).arbiter = s.arbiter := rfl
@[simp] theorem State.setPumps_engine (c : PumpCtl) (s : State) : (s.setPumps c).engine = s.engine := rfl
@[simp] theorem State.setPumps_depth (c : PumpCtl) (s : State) : (s.setPumps c).depth = s.depth := rfl
@[simp] theorem State.setPumps_pumps (c : PumpCtl) (s : State) : (s.setPumps c).pumps = c := rfl
@[simp] theorem State.setPumps_tanks (c : PumpCtl) (s : State) : (s.setPumps c).tanks = s.tanks := rfl
@[simp] theorem State.setPumps_transit (c : PumpCtl) (s : State) : (s.setPumps c).transit = s.transit := rfl
@[simp] theorem State.setPumps_lith (c : PumpCtl) (s : State) : (s.setPumps c).lith = s.lith := rfl
@[simp] theorem State.setPumps_drilling (c : PumpCtl) (s : State) :
    (s.setPumps c).drilling = s.drilling := rfl
@[simp] theorem State.setPumps_attn (c : PumpCtl) (s : State) : (s.setPumps c).attn = s.attn := rfl
@[simp] theorem State.setPumps_link (c : PumpCtl) (s : State) : (s.setPumps c).link = s.link := rfl
@[simp] theorem State.setPumps_receiver (c : PumpCtl) (s : State) :
    (s.setPumps c).receiver = s.receiver := rfl
@[simp] theorem State.setPumps_draws (c : PumpCtl) (s : State) : (s.setPumps c).draws = s.draws := rfl
@[simp] theorem State.setPumps_pending (c : PumpCtl) (s : State) : (s.setPumps c).pending = s.pending := rfl

/-! ### `State.setTanks` -/

@[simp] theorem State.setTanks_mode (u : TankUnit) (s : State) : (s.setTanks u).mode = s.mode := rfl
@[simp] theorem State.setTanks_jobs (u : TankUnit) (s : State) : (s.setTanks u).jobs = s.jobs := rfl
@[simp] theorem State.setTanks_protection (u : TankUnit) (s : State) :
    (s.setTanks u).protection = s.protection := rfl
@[simp] theorem State.setTanks_roster (u : TankUnit) (s : State) : (s.setTanks u).roster = s.roster := rfl
@[simp] theorem State.setTanks_arbiter (u : TankUnit) (s : State) : (s.setTanks u).arbiter = s.arbiter := rfl
@[simp] theorem State.setTanks_engine (u : TankUnit) (s : State) : (s.setTanks u).engine = s.engine := rfl
@[simp] theorem State.setTanks_depth (u : TankUnit) (s : State) : (s.setTanks u).depth = s.depth := rfl
@[simp] theorem State.setTanks_pumps (u : TankUnit) (s : State) : (s.setTanks u).pumps = s.pumps := rfl
@[simp] theorem State.setTanks_tanks (u : TankUnit) (s : State) : (s.setTanks u).tanks = u := rfl
@[simp] theorem State.setTanks_transit (u : TankUnit) (s : State) : (s.setTanks u).transit = s.transit := rfl
@[simp] theorem State.setTanks_lith (u : TankUnit) (s : State) : (s.setTanks u).lith = s.lith := rfl
@[simp] theorem State.setTanks_drilling (u : TankUnit) (s : State) :
    (s.setTanks u).drilling = s.drilling := rfl
@[simp] theorem State.setTanks_attn (u : TankUnit) (s : State) : (s.setTanks u).attn = s.attn := rfl
@[simp] theorem State.setTanks_link (u : TankUnit) (s : State) : (s.setTanks u).link = s.link := rfl
@[simp] theorem State.setTanks_receiver (u : TankUnit) (s : State) :
    (s.setTanks u).receiver = s.receiver := rfl
@[simp] theorem State.setTanks_draws (u : TankUnit) (s : State) : (s.setTanks u).draws = s.draws := rfl
@[simp] theorem State.setTanks_pending (u : TankUnit) (s : State) : (s.setTanks u).pending = s.pending := rfl

/-! ### `State.setMode` -/

@[simp] theorem State.setMode_mode (m : ModeCtl) (s : State) : (s.setMode m).mode = m := rfl
@[simp] theorem State.setMode_jobs (m : ModeCtl) (s : State) : (s.setMode m).jobs = s.jobs := rfl
@[simp] theorem State.setMode_protection (m : ModeCtl) (s : State) :
    (s.setMode m).protection = s.protection := rfl
@[simp] theorem State.setMode_roster (m : ModeCtl) (s : State) : (s.setMode m).roster = s.roster := rfl
@[simp] theorem State.setMode_arbiter (m : ModeCtl) (s : State) : (s.setMode m).arbiter = s.arbiter := rfl
@[simp] theorem State.setMode_engine (m : ModeCtl) (s : State) : (s.setMode m).engine = s.engine := rfl
@[simp] theorem State.setMode_depth (m : ModeCtl) (s : State) : (s.setMode m).depth = s.depth := rfl
@[simp] theorem State.setMode_pumps (m : ModeCtl) (s : State) : (s.setMode m).pumps = s.pumps := rfl
@[simp] theorem State.setMode_tanks (m : ModeCtl) (s : State) : (s.setMode m).tanks = s.tanks := rfl
@[simp] theorem State.setMode_transit (m : ModeCtl) (s : State) : (s.setMode m).transit = s.transit := rfl
@[simp] theorem State.setMode_lith (m : ModeCtl) (s : State) : (s.setMode m).lith = s.lith := rfl
@[simp] theorem State.setMode_drilling (m : ModeCtl) (s : State) : (s.setMode m).drilling = s.drilling := rfl
@[simp] theorem State.setMode_attn (m : ModeCtl) (s : State) : (s.setMode m).attn = s.attn := rfl
@[simp] theorem State.setMode_link (m : ModeCtl) (s : State) : (s.setMode m).link = s.link := rfl
@[simp] theorem State.setMode_receiver (m : ModeCtl) (s : State) : (s.setMode m).receiver = s.receiver := rfl
@[simp] theorem State.setMode_draws (m : ModeCtl) (s : State) : (s.setMode m).draws = s.draws := rfl
@[simp] theorem State.setMode_pending (m : ModeCtl) (s : State) : (s.setMode m).pending = s.pending := rfl

/-! ### `State.setDepth` -/

@[simp] theorem State.setDepth_mode (d : DepthTracker) (s : State) : (s.setDepth d).mode = s.mode := rfl
@[simp] theorem State.setDepth_jobs (d : DepthTracker) (s : State) : (s.setDepth d).jobs = s.jobs := rfl
@[simp] theorem State.setDepth_protection (d : DepthTracker) (s : State) :
    (s.setDepth d).protection = s.protection := rfl
@[simp] theorem State.setDepth_roster (d : DepthTracker) (s : State) : (s.setDepth d).roster = s.roster := rfl
@[simp] theorem State.setDepth_arbiter (d : DepthTracker) (s : State) :
    (s.setDepth d).arbiter = s.arbiter := rfl
@[simp] theorem State.setDepth_engine (d : DepthTracker) (s : State) : (s.setDepth d).engine = s.engine := rfl
@[simp] theorem State.setDepth_depth (d : DepthTracker) (s : State) : (s.setDepth d).depth = d := rfl
@[simp] theorem State.setDepth_pumps (d : DepthTracker) (s : State) : (s.setDepth d).pumps = s.pumps := rfl
@[simp] theorem State.setDepth_tanks (d : DepthTracker) (s : State) : (s.setDepth d).tanks = s.tanks := rfl
@[simp] theorem State.setDepth_transit (d : DepthTracker) (s : State) :
    (s.setDepth d).transit = s.transit := rfl
@[simp] theorem State.setDepth_lith (d : DepthTracker) (s : State) : (s.setDepth d).lith = s.lith := rfl
@[simp] theorem State.setDepth_drilling (d : DepthTracker) (s : State) :
    (s.setDepth d).drilling = s.drilling := rfl
@[simp] theorem State.setDepth_attn (d : DepthTracker) (s : State) : (s.setDepth d).attn = s.attn := rfl
@[simp] theorem State.setDepth_link (d : DepthTracker) (s : State) : (s.setDepth d).link = s.link := rfl
@[simp] theorem State.setDepth_receiver (d : DepthTracker) (s : State) :
    (s.setDepth d).receiver = s.receiver := rfl
@[simp] theorem State.setDepth_draws (d : DepthTracker) (s : State) : (s.setDepth d).draws = s.draws := rfl
@[simp] theorem State.setDepth_pending (d : DepthTracker) (s : State) :
    (s.setDepth d).pending = s.pending := rfl

/-! ### `State.dropHeld` -/

@[simp] theorem State.dropHeld_mode (s : State) : (s.dropHeld).mode = s.mode := rfl
@[simp] theorem State.dropHeld_jobs (s : State) : (s.dropHeld).jobs = s.jobs := rfl
@[simp] theorem State.dropHeld_protection (s : State) : (s.dropHeld).protection = s.protection := rfl
@[simp] theorem State.dropHeld_roster (s : State) : (s.dropHeld).roster = s.roster := rfl
@[simp] theorem State.dropHeld_arbiter (s : State) : (s.dropHeld).arbiter = s.arbiter := rfl
@[simp] theorem State.dropHeld_engine (s : State) : (s.dropHeld).engine = s.engine := rfl
@[simp] theorem State.dropHeld_depth (s : State) : (s.dropHeld).depth = { s.depth with held := none } := rfl
@[simp] theorem State.dropHeld_pumps (s : State) : (s.dropHeld).pumps = s.pumps := rfl
@[simp] theorem State.dropHeld_tanks (s : State) : (s.dropHeld).tanks = s.tanks := rfl
@[simp] theorem State.dropHeld_transit (s : State) : (s.dropHeld).transit = s.transit := rfl
@[simp] theorem State.dropHeld_lith (s : State) : (s.dropHeld).lith = s.lith := rfl
@[simp] theorem State.dropHeld_drilling (s : State) : (s.dropHeld).drilling = s.drilling := rfl
@[simp] theorem State.dropHeld_attn (s : State) : (s.dropHeld).attn = s.attn := rfl
@[simp] theorem State.dropHeld_link (s : State) : (s.dropHeld).link = s.link := rfl
@[simp] theorem State.dropHeld_receiver (s : State) : (s.dropHeld).receiver = s.receiver := rfl
@[simp] theorem State.dropHeld_draws (s : State) : (s.dropHeld).draws = s.draws := rfl
@[simp] theorem State.dropHeld_pending (s : State) : (s.dropHeld).pending = s.pending := rfl

/-! ### `State.setParcels` -/

@[simp] theorem State.setParcels_mode (ps : List Parcel) (s : State) : (s.setParcels ps).mode = s.mode := rfl
@[simp] theorem State.setParcels_jobs (ps : List Parcel) (s : State) : (s.setParcels ps).jobs = s.jobs := rfl
@[simp] theorem State.setParcels_protection (ps : List Parcel) (s : State) :
    (s.setParcels ps).protection = s.protection := rfl
@[simp] theorem State.setParcels_roster (ps : List Parcel) (s : State) :
    (s.setParcels ps).roster = s.roster := rfl
@[simp] theorem State.setParcels_arbiter (ps : List Parcel) (s : State) :
    (s.setParcels ps).arbiter = s.arbiter := rfl
@[simp] theorem State.setParcels_engine (ps : List Parcel) (s : State) :
    (s.setParcels ps).engine = s.engine := rfl
@[simp] theorem State.setParcels_depth (ps : List Parcel) (s : State) :
    (s.setParcels ps).depth = s.depth := rfl
@[simp] theorem State.setParcels_pumps (ps : List Parcel) (s : State) :
    (s.setParcels ps).pumps = s.pumps := rfl
@[simp] theorem State.setParcels_tanks (ps : List Parcel) (s : State) :
    (s.setParcels ps).tanks = s.tanks := rfl
@[simp] theorem State.setParcels_transit (ps : List Parcel) (s : State) :
    (s.setParcels ps).transit = { s.transit with parcels := ps } := rfl
@[simp] theorem State.setParcels_lith (ps : List Parcel) (s : State) : (s.setParcels ps).lith = s.lith := rfl
@[simp] theorem State.setParcels_drilling (ps : List Parcel) (s : State) :
    (s.setParcels ps).drilling = s.drilling := rfl
@[simp] theorem State.setParcels_attn (ps : List Parcel) (s : State) : (s.setParcels ps).attn = s.attn := rfl
@[simp] theorem State.setParcels_link (ps : List Parcel) (s : State) : (s.setParcels ps).link = s.link := rfl
@[simp] theorem State.setParcels_receiver (ps : List Parcel) (s : State) :
    (s.setParcels ps).receiver = s.receiver := rfl
@[simp] theorem State.setParcels_draws (ps : List Parcel) (s : State) :
    (s.setParcels ps).draws = s.draws := rfl
@[simp] theorem State.setParcels_pending (ps : List Parcel) (s : State) :
    (s.setParcels ps).pending = s.pending := rfl

/-! ### `State.startParcels` -/

@[simp] theorem State.startParcels_mode (n : Nat) (s : State) : (s.startParcels n).mode = s.mode := rfl
@[simp] theorem State.startParcels_jobs (n : Nat) (s : State) : (s.startParcels n).jobs = s.jobs := rfl
@[simp] theorem State.startParcels_protection (n : Nat) (s : State) :
    (s.startParcels n).protection = s.protection := rfl
@[simp] theorem State.startParcels_roster (n : Nat) (s : State) : (s.startParcels n).roster = s.roster := rfl
@[simp] theorem State.startParcels_arbiter (n : Nat) (s : State) :
    (s.startParcels n).arbiter = s.arbiter := rfl
@[simp] theorem State.startParcels_engine (n : Nat) (s : State) : (s.startParcels n).engine = s.engine := rfl
@[simp] theorem State.startParcels_depth (n : Nat) (s : State) : (s.startParcels n).depth = s.depth := rfl
@[simp] theorem State.startParcels_pumps (n : Nat) (s : State) : (s.startParcels n).pumps = s.pumps := rfl
@[simp] theorem State.startParcels_tanks (n : Nat) (s : State) : (s.startParcels n).tanks = s.tanks := rfl
@[simp] theorem State.startParcels_transit (n : Nat) (s : State) :
    (s.startParcels n).transit = { s.transit with parcels := [], formingTop := some n } := rfl
@[simp] theorem State.startParcels_lith (n : Nat) (s : State) : (s.startParcels n).lith = s.lith := rfl
@[simp] theorem State.startParcels_drilling (n : Nat) (s : State) :
    (s.startParcels n).drilling = s.drilling := rfl
@[simp] theorem State.startParcels_attn (n : Nat) (s : State) : (s.startParcels n).attn = s.attn := rfl
@[simp] theorem State.startParcels_link (n : Nat) (s : State) : (s.startParcels n).link = s.link := rfl
@[simp] theorem State.startParcels_receiver (n : Nat) (s : State) :
    (s.startParcels n).receiver = s.receiver := rfl
@[simp] theorem State.startParcels_draws (n : Nat) (s : State) : (s.startParcels n).draws = s.draws := rfl
@[simp] theorem State.startParcels_pending (n : Nat) (s : State) :
    (s.startParcels n).pending = s.pending := rfl

/-! ### `State.setStringLen` -/

@[simp] theorem State.setStringLen_mode (n : Nat) (s : State) : (s.setStringLen n).mode = s.mode := rfl
@[simp] theorem State.setStringLen_jobs (n : Nat) (s : State) : (s.setStringLen n).jobs = s.jobs := rfl
@[simp] theorem State.setStringLen_protection (n : Nat) (s : State) :
    (s.setStringLen n).protection = s.protection := rfl
@[simp] theorem State.setStringLen_roster (n : Nat) (s : State) :
    (s.setStringLen n).roster = { s.roster with stringLen := n } := rfl
@[simp] theorem State.setStringLen_arbiter (n : Nat) (s : State) :
    (s.setStringLen n).arbiter = s.arbiter := rfl
@[simp] theorem State.setStringLen_engine (n : Nat) (s : State) : (s.setStringLen n).engine = s.engine := rfl
@[simp] theorem State.setStringLen_depth (n : Nat) (s : State) : (s.setStringLen n).depth = s.depth := rfl
@[simp] theorem State.setStringLen_pumps (n : Nat) (s : State) : (s.setStringLen n).pumps = s.pumps := rfl
@[simp] theorem State.setStringLen_tanks (n : Nat) (s : State) : (s.setStringLen n).tanks = s.tanks := rfl
@[simp] theorem State.setStringLen_transit (n : Nat) (s : State) :
    (s.setStringLen n).transit = s.transit := rfl
@[simp] theorem State.setStringLen_lith (n : Nat) (s : State) : (s.setStringLen n).lith = s.lith := rfl
@[simp] theorem State.setStringLen_drilling (n : Nat) (s : State) :
    (s.setStringLen n).drilling = s.drilling := rfl
@[simp] theorem State.setStringLen_attn (n : Nat) (s : State) : (s.setStringLen n).attn = s.attn := rfl
@[simp] theorem State.setStringLen_link (n : Nat) (s : State) : (s.setStringLen n).link = s.link := rfl
@[simp] theorem State.setStringLen_receiver (n : Nat) (s : State) :
    (s.setStringLen n).receiver = s.receiver := rfl
@[simp] theorem State.setStringLen_draws (n : Nat) (s : State) : (s.setStringLen n).draws = s.draws := rfl
@[simp] theorem State.setStringLen_pending (n : Nat) (s : State) :
    (s.setStringLen n).pending = s.pending := rfl

/-! ### `State.setStep` -/

@[simp] theorem State.setStep_mode (p : OpStep) (o : Operation) (s : State) :
    (s.setStep p o).mode = s.mode := rfl
@[simp] theorem State.setStep_jobs (p : OpStep) (o : Operation) (s : State) :
    (s.setStep p o).jobs = s.jobs := rfl
@[simp] theorem State.setStep_protection (p : OpStep) (o : Operation) (s : State) :
    (s.setStep p o).protection = s.protection := rfl
@[simp] theorem State.setStep_roster (p : OpStep) (o : Operation) (s : State) :
    (s.setStep p o).roster = s.roster := rfl
@[simp] theorem State.setStep_arbiter (p : OpStep) (o : Operation) (s : State) :
    (s.setStep p o).arbiter = s.arbiter := rfl
@[simp] theorem State.setStep_engine (p : OpStep) (o : Operation) (s : State) :
    (s.setStep p o).engine = { s.engine with op := some { o with step := p } } := rfl
@[simp] theorem State.setStep_depth (p : OpStep) (o : Operation) (s : State) :
    (s.setStep p o).depth = s.depth := rfl
@[simp] theorem State.setStep_pumps (p : OpStep) (o : Operation) (s : State) :
    (s.setStep p o).pumps = s.pumps := rfl
@[simp] theorem State.setStep_tanks (p : OpStep) (o : Operation) (s : State) :
    (s.setStep p o).tanks = s.tanks := rfl
@[simp] theorem State.setStep_transit (p : OpStep) (o : Operation) (s : State) :
    (s.setStep p o).transit = s.transit := rfl
@[simp] theorem State.setStep_lith (p : OpStep) (o : Operation) (s : State) :
    (s.setStep p o).lith = s.lith := rfl
@[simp] theorem State.setStep_drilling (p : OpStep) (o : Operation) (s : State) :
    (s.setStep p o).drilling = s.drilling := rfl
@[simp] theorem State.setStep_attn (p : OpStep) (o : Operation) (s : State) :
    (s.setStep p o).attn = s.attn := rfl
@[simp] theorem State.setStep_link (p : OpStep) (o : Operation) (s : State) :
    (s.setStep p o).link = s.link := rfl
@[simp] theorem State.setStep_receiver (p : OpStep) (o : Operation) (s : State) :
    (s.setStep p o).receiver = s.receiver := rfl
@[simp] theorem State.setStep_draws (p : OpStep) (o : Operation) (s : State) :
    (s.setStep p o).draws = s.draws := rfl
@[simp] theorem State.setStep_pending (p : OpStep) (o : Operation) (s : State) :
    (s.setStep p o).pending = s.pending := rfl

/-! ### `State.takeUp` -/

@[simp] theorem State.takeUp_mode (o : Operation) (s : State) : (s.takeUp o).mode = s.mode := rfl
@[simp] theorem State.takeUp_jobs (o : Operation) (s : State) : (s.takeUp o).jobs = s.jobs := rfl
@[simp] theorem State.takeUp_protection (o : Operation) (s : State) :
    (s.takeUp o).protection = s.protection := rfl
@[simp] theorem State.takeUp_roster (o : Operation) (s : State) : (s.takeUp o).roster = s.roster := rfl
@[simp] theorem State.takeUp_arbiter (o : Operation) (s : State) : (s.takeUp o).arbiter = s.arbiter := rfl
@[simp] theorem State.takeUp_engine (o : Operation) (s : State) :
    (s.takeUp o).engine = { op := some o, tripping := true } := rfl
@[simp] theorem State.takeUp_depth (o : Operation) (s : State) : (s.takeUp o).depth = s.depth := rfl
@[simp] theorem State.takeUp_pumps (o : Operation) (s : State) : (s.takeUp o).pumps = s.pumps := rfl
@[simp] theorem State.takeUp_tanks (o : Operation) (s : State) : (s.takeUp o).tanks = s.tanks := rfl
@[simp] theorem State.takeUp_transit (o : Operation) (s : State) : (s.takeUp o).transit = s.transit := rfl
@[simp] theorem State.takeUp_lith (o : Operation) (s : State) : (s.takeUp o).lith = s.lith := rfl
@[simp] theorem State.takeUp_drilling (o : Operation) (s : State) : (s.takeUp o).drilling = s.drilling := rfl
@[simp] theorem State.takeUp_attn (o : Operation) (s : State) : (s.takeUp o).attn = s.attn := rfl
@[simp] theorem State.takeUp_link (o : Operation) (s : State) : (s.takeUp o).link = s.link := rfl
@[simp] theorem State.takeUp_receiver (o : Operation) (s : State) : (s.takeUp o).receiver = s.receiver := rfl
@[simp] theorem State.takeUp_draws (o : Operation) (s : State) : (s.takeUp o).draws = s.draws := rfl
@[simp] theorem State.takeUp_pending (o : Operation) (s : State) : (s.takeUp o).pending = s.pending := rfl

/-! ### `State.enterMode` -/

@[simp] theorem State.enterMode_mode (m : RigMode) (s : State) :
    (s.enterMode m).mode = { s.mode with mode := m, window := none } := rfl
@[simp] theorem State.enterMode_jobs (m : RigMode) (s : State) : (s.enterMode m).jobs = s.jobs := rfl
@[simp] theorem State.enterMode_protection (m : RigMode) (s : State) :
    (s.enterMode m).protection = s.protection := rfl
@[simp] theorem State.enterMode_roster (m : RigMode) (s : State) : (s.enterMode m).roster = s.roster := rfl
@[simp] theorem State.enterMode_arbiter (m : RigMode) (s : State) : (s.enterMode m).arbiter = s.arbiter := rfl
@[simp] theorem State.enterMode_engine (m : RigMode) (s : State) : (s.enterMode m).engine = s.engine := rfl
@[simp] theorem State.enterMode_depth (m : RigMode) (s : State) : (s.enterMode m).depth = s.depth := rfl
@[simp] theorem State.enterMode_pumps (m : RigMode) (s : State) : (s.enterMode m).pumps = s.pumps := rfl
@[simp] theorem State.enterMode_tanks (m : RigMode) (s : State) : (s.enterMode m).tanks = s.tanks := rfl
@[simp] theorem State.enterMode_transit (m : RigMode) (s : State) : (s.enterMode m).transit = s.transit := rfl
@[simp] theorem State.enterMode_lith (m : RigMode) (s : State) : (s.enterMode m).lith = s.lith := rfl
@[simp] theorem State.enterMode_drilling (m : RigMode) (s : State) :
    (s.enterMode m).drilling = s.drilling := rfl
@[simp] theorem State.enterMode_attn (m : RigMode) (s : State) : (s.enterMode m).attn = s.attn := rfl
@[simp] theorem State.enterMode_link (m : RigMode) (s : State) : (s.enterMode m).link = s.link := rfl
@[simp] theorem State.enterMode_receiver (m : RigMode) (s : State) :
    (s.enterMode m).receiver = s.receiver := rfl
@[simp] theorem State.enterMode_draws (m : RigMode) (s : State) : (s.enterMode m).draws = s.draws := rfl
@[simp] theorem State.enterMode_pending (m : RigMode) (s : State) : (s.enterMode m).pending = s.pending := rfl

/-! ### `State.clockOut` -/

@[simp] theorem State.clockOut_mode (n : Nat) (s : State) : (s.clockOut n).mode = s.mode := rfl
@[simp] theorem State.clockOut_jobs (n : Nat) (s : State) : (s.clockOut n).jobs = s.jobs := rfl
@[simp] theorem State.clockOut_protection (n : Nat) (s : State) :
    (s.clockOut n).protection = s.protection := rfl
@[simp] theorem State.clockOut_roster (n : Nat) (s : State) : (s.clockOut n).roster = s.roster := rfl
@[simp] theorem State.clockOut_arbiter (n : Nat) (s : State) : (s.clockOut n).arbiter = s.arbiter := rfl
@[simp] theorem State.clockOut_engine (n : Nat) (s : State) : (s.clockOut n).engine = s.engine := rfl
@[simp] theorem State.clockOut_depth (n : Nat) (s : State) : (s.clockOut n).depth = s.depth := rfl
@[simp] theorem State.clockOut_pumps (n : Nat) (s : State) : (s.clockOut n).pumps = s.pumps := rfl
@[simp] theorem State.clockOut_tanks (n : Nat) (s : State) : (s.clockOut n).tanks = s.tanks := rfl
@[simp] theorem State.clockOut_transit (n : Nat) (s : State) : (s.clockOut n).transit = s.transit := rfl
@[simp] theorem State.clockOut_lith (n : Nat) (s : State) : (s.clockOut n).lith = s.lith := rfl
@[simp] theorem State.clockOut_drilling (n : Nat) (s : State) : (s.clockOut n).drilling = s.drilling := rfl
@[simp] theorem State.clockOut_attn (n : Nat) (s : State) : (s.clockOut n).attn = s.attn := rfl
@[simp] theorem State.clockOut_link (n : Nat) (s : State) :
    (s.clockOut n).link = { s.link with dataOut := clockedOut s.link.buffer n } := rfl
@[simp] theorem State.clockOut_receiver (n : Nat) (s : State) : (s.clockOut n).receiver = s.receiver := rfl
@[simp] theorem State.clockOut_draws (n : Nat) (s : State) : (s.clockOut n).draws = s.draws := rfl
@[simp] theorem State.clockOut_pending (n : Nat) (s : State) : (s.clockOut n).pending = s.pending := rfl

/-! ### `State.respond` -/

@[simp] theorem State.respond_mode (status : Status) (payload : List Word) (s : State) :
    (s.respond status payload).mode = s.mode := rfl
@[simp] theorem State.respond_jobs (status : Status) (payload : List Word) (s : State) :
    (s.respond status payload).jobs = s.jobs := rfl
@[simp] theorem State.respond_protection (status : Status) (payload : List Word) (s : State) :
    (s.respond status payload).protection = s.protection := rfl
@[simp] theorem State.respond_roster (status : Status) (payload : List Word) (s : State) :
    (s.respond status payload).roster = s.roster := rfl
@[simp] theorem State.respond_arbiter (status : Status) (payload : List Word) (s : State) :
    (s.respond status payload).arbiter = s.arbiter := rfl
@[simp] theorem State.respond_engine (status : Status) (payload : List Word) (s : State) :
    (s.respond status payload).engine = s.engine := rfl
@[simp] theorem State.respond_depth (status : Status) (payload : List Word) (s : State) :
    (s.respond status payload).depth = s.depth := rfl
@[simp] theorem State.respond_pumps (status : Status) (payload : List Word) (s : State) :
    (s.respond status payload).pumps = s.pumps := rfl
@[simp] theorem State.respond_tanks (status : Status) (payload : List Word) (s : State) :
    (s.respond status payload).tanks = s.tanks := rfl
@[simp] theorem State.respond_transit (status : Status) (payload : List Word) (s : State) :
    (s.respond status payload).transit = s.transit := rfl
@[simp] theorem State.respond_lith (status : Status) (payload : List Word) (s : State) :
    (s.respond status payload).lith = s.lith := rfl
@[simp] theorem State.respond_drilling (status : Status) (payload : List Word) (s : State) :
    (s.respond status payload).drilling = s.drilling := rfl
@[simp] theorem State.respond_attn (status : Status) (payload : List Word) (s : State) :
    (s.respond status payload).attn = s.attn := rfl
@[simp] theorem State.respond_link (status : Status) (payload : List Word) (s : State) :
    (s.respond status payload).link = { s.link with buffer := some ⟨status, payload⟩ } := rfl
@[simp] theorem State.respond_receiver (status : Status) (payload : List Word) (s : State) :
    (s.respond status payload).receiver = s.receiver := rfl
@[simp] theorem State.respond_draws (status : Status) (payload : List Word) (s : State) :
    (s.respond status payload).draws = s.draws := rfl
@[simp] theorem State.respond_pending (status : Status) (payload : List Word) (s : State) :
    (s.respond status payload).pending = s.pending := rfl

/-! ### `State.sample` -/

@[simp] theorem State.sample_mode (r : Request) (s : State) : (s.sample r).mode = s.mode := rfl
@[simp] theorem State.sample_jobs (r : Request) (s : State) : (s.sample r).jobs = s.jobs := rfl
@[simp] theorem State.sample_protection (r : Request) (s : State) :
    (s.sample r).protection = { level := r.level, keys := r.keys } := rfl
@[simp] theorem State.sample_roster (r : Request) (s : State) : (s.sample r).roster = s.roster := rfl
@[simp] theorem State.sample_arbiter (r : Request) (s : State) : (s.sample r).arbiter = s.arbiter := rfl
@[simp] theorem State.sample_engine (r : Request) (s : State) : (s.sample r).engine = s.engine := rfl
@[simp] theorem State.sample_depth (r : Request) (s : State) : (s.sample r).depth = s.depth := rfl
@[simp] theorem State.sample_pumps (r : Request) (s : State) : (s.sample r).pumps = s.pumps := rfl
@[simp] theorem State.sample_tanks (r : Request) (s : State) : (s.sample r).tanks = s.tanks := rfl
@[simp] theorem State.sample_transit (r : Request) (s : State) : (s.sample r).transit = s.transit := rfl
@[simp] theorem State.sample_lith (r : Request) (s : State) : (s.sample r).lith = s.lith := rfl
@[simp] theorem State.sample_drilling (r : Request) (s : State) : (s.sample r).drilling = s.drilling := rfl
@[simp] theorem State.sample_attn (r : Request) (s : State) : (s.sample r).attn = s.attn := rfl
@[simp] theorem State.sample_link (r : Request) (s : State) : (s.sample r).link = s.link := rfl
@[simp] theorem State.sample_receiver (r : Request) (s : State) : (s.sample r).receiver = s.receiver := rfl
@[simp] theorem State.sample_draws (r : Request) (s : State) : (s.sample r).draws = s.draws := rfl
@[simp] theorem State.sample_pending (r : Request) (s : State) : (s.sample r).pending = s.pending := rfl

/-! ### `State.heard` -/

@[simp] theorem State.heard_mode (code : Byte) (r : Request) (s : State) :
    (s.heard code r).mode = s.mode := rfl
@[simp] theorem State.heard_jobs (code : Byte) (r : Request) (s : State) :
    (s.heard code r).jobs = s.jobs := rfl
@[simp] theorem State.heard_protection (code : Byte) (r : Request) (s : State) :
    (s.heard code r).protection = { level := r.level, keys := r.keys } := rfl
@[simp] theorem State.heard_roster (code : Byte) (r : Request) (s : State) :
    (s.heard code r).roster = s.roster := rfl
@[simp] theorem State.heard_arbiter (code : Byte) (r : Request) (s : State) :
    (s.heard code r).arbiter = s.arbiter := rfl
@[simp] theorem State.heard_engine (code : Byte) (r : Request) (s : State) :
    (s.heard code r).engine = s.engine := rfl
@[simp] theorem State.heard_depth (code : Byte) (r : Request) (s : State) :
    (s.heard code r).depth = s.depth := rfl
@[simp] theorem State.heard_pumps (code : Byte) (r : Request) (s : State) :
    (s.heard code r).pumps = s.pumps := rfl
@[simp] theorem State.heard_tanks (code : Byte) (r : Request) (s : State) :
    (s.heard code r).tanks = s.tanks := rfl
@[simp] theorem State.heard_transit (code : Byte) (r : Request) (s : State) :
    (s.heard code r).transit = s.transit := rfl
@[simp] theorem State.heard_lith (code : Byte) (r : Request) (s : State) :
    (s.heard code r).lith = s.lith := rfl
@[simp] theorem State.heard_drilling (code : Byte) (r : Request) (s : State) :
    (s.heard code r).drilling = s.drilling := rfl
@[simp] theorem State.heard_attn (code : Byte) (r : Request) (s : State) :
    (s.heard code r).attn = s.attn := rfl
@[simp] theorem State.heard_link (code : Byte) (r : Request) (s : State) :
    (s.heard code r).link =
      { s.link with dataOut := clockedOut s.link.buffer (frameBits (requestFrame code r)) } := rfl
@[simp] theorem State.heard_receiver (code : Byte) (r : Request) (s : State) :
    (s.heard code r).receiver = s.receiver := rfl
@[simp] theorem State.heard_draws (code : Byte) (r : Request) (s : State) :
    (s.heard code r).draws = s.draws := rfl
@[simp] theorem State.heard_pending (code : Byte) (r : Request) (s : State) :
    (s.heard code r).pending = s.pending := rfl

end Sys2Proof.Machine
end

