-- ==== Sys2Proof/Laws/Link.lean ====
section
/-! SUPPORT. What taking a request and delivering a message can do: the cases of `takeRequest`, `deliver` and
the handle checks, each said once. -/

namespace Sys2Proof.Machine

/-- A request that passes frame, level, key and mode is answered by its block's body. -/
theorem takeRequest_taken {code : Byte} {required : Nat} {cls : ReqClass} {ws : List Word} {r : Request}
    {s : State} (body : Nat → List Word → State → Reply) (h : Taken code required cls ws r s) :
    takeRequest code required cls body r s
      = .next (reply cls (s.heard code r) (body r.level.toNat ws (s.heard code r))) := by
  have ha : admission required cls r ((s.clockOut (frameBits (requestFrame code r))).sample r) = none := h.2
  simp only [takeRequest, h.1, ha, State.heard]

/-- A request whose frame fails a check is a link error (R179). -/
theorem takeRequest_bad_frame {code : Byte} {required : Nat} {cls : ReqClass} {r : Request} {s : State}
    {status : Status} (body : Nat → List Word → State → Reply)
    (h : judgeFrame (requestFrame code r) = .error status) :
    takeRequest code required cls body r s
      = .next ((s.clockOut (frameBits (requestFrame code r))).linkError status) := by
  simp only [takeRequest, h]

/-- A request that fails the level, key or mode check is answered with that status alone (R31, R2). -/
theorem takeRequest_barred {code : Byte} {required : Nat} {cls : ReqClass} {ws : List Word} {r : Request}
    {s : State} {status : Status} (body : Nat → List Word → State → Reply)
    (h : judgeFrame (requestFrame code r) = .ok ws) (ha : admission required cls r s = some status) :
    takeRequest code required cls body r s = refusedWith status (s.heard code r) := by
  have ha' : admission required cls r ((s.clockOut (frameBits (requestFrame code r))).sample r) = some status := ha
  simp only [takeRequest, h, ha', refusedWith, State.heard]

/-- What a request's frame and checks can come to. -/
theorem takeRequest_cases (code : Byte) (required : Nat) (cls : ReqClass)
    (body : Nat → List Word → State → Reply) (r : Request) (s : State) :
    (∃ status, judgeFrame (requestFrame code r) = .error status ∧
      takeRequest code required cls body r s
        = .next ((s.clockOut (frameBits (requestFrame code r))).linkError status)) ∨
    (∃ ws status, judgeFrame (requestFrame code r) = .ok ws ∧ admission required cls r s = some status ∧
      takeRequest code required cls body r s = refusedWith status (s.heard code r)) ∨
    (∃ ws, Taken code required cls ws r s ∧
      takeRequest code required cls body r s
        = .next (reply cls (s.heard code r) (body r.level.toNat ws (s.heard code r)))) := by
  cases h : judgeFrame (requestFrame code r) with
  | error status => exact .inl ⟨status, rfl, takeRequest_bad_frame body h⟩
  | ok ws =>
    cases ha : admission required cls r s with
    | some status => exact .inr (.inl ⟨ws, status, rfl, rfl, takeRequest_barred body h ha⟩)
    | none => exact .inr (.inr ⟨ws, ⟨h, ha⟩, takeRequest_taken body ⟨h, ha⟩⟩)

/-- Taking a request always leaves a next state. -/
theorem takeRequest_next (code : Byte) (required : Nat) (cls : ReqClass)
    (body : Nat → List Word → State → Reply) (r : Request) (s : State) :
    ∃ t, takeRequest code required cls body r s = .next t := by
  simp only [takeRequest]
  split
  · exact ⟨_, rfl⟩
  · split <;> exact ⟨_, rfl⟩

/-- An acceptance placed in the buffer. -/
theorem reply_accept (cls : ReqClass) (s t : State) (status : Status) (payload : List Word) :
    Host.Outcome.next (reply cls s (.ok ⟨status, payload, t⟩)) = accepted cls status payload t := rfl

/-- A refusal placed in the buffer. -/
theorem reply_refuse (cls : ReqClass) (s : State) (status : Status) :
    Host.Outcome.next (reply cls s (.error status)) = refusedWith status s := rfl

/-- Every command but NOP that came in a request frame is taken by `takeRequest` with its own code. -/
theorem exec_request {i : Instr} {code : Byte} {r : Request} (h : requestCode i = some (code, r)) (s : State) :
    i = .nop r ∨ ∃ required cls body, exec i s = takeRequest code required cls body r s := by
  cases i <;> simp only [requestCode, Option.some.injEq, Prod.mk.injEq, reduceCtorEq] at h
  case nop => exact .inl (by rw [h.2])
  all_goals obtain ⟨rfl, rfl⟩ := h; exact .inr ⟨_, _, _, rfl⟩

/-- A good message is handed to its receiver. -/
theorem deliver_good {kind : Byte} {st : Station} {m : Message} (receiver : Station → State → State)
    (s : State) (h : Delivered kind st m) : deliver kind receiver m s = .next (receiver st s) := by
  simp only [deliver, h.1, h.2]

/-- A message that fails a check of R183 raises LINK_ERROR and reaches no block. -/
theorem deliver_bad {kind : Byte} {m : Message} {reason : StationReason} (receiver : Station → State → State)
    (s : State) (h : judgeMessage (messageBytes kind m) = some reason) :
    deliver kind receiver m s = .next (s.raise .linkError (.message reason m.address.toNat)) := by
  simp only [deliver, h]

/-- Delivering a message always leaves a next state. -/
theorem deliver_next (kind : Byte) (receiver : Station → State → State) (m : Message) (s : State) :
    ∃ t, deliver kind receiver m s = .next t := by
  unfold deliver
  split <;> exact ⟨_, rfl⟩

/-! ### Handle checks (R30) -/

/-- A JOB handle that names a record reaches the block's own checks. -/
theorem withJob_named {w : Word} {s : State} {i : Fin 4} {j : Job} (k : Fin 4 → Job → Reply)
    (h : NamesJob w s i j) : withJob w s k = k i j := by
  obtain ⟨h1, h2, h3⟩ := h
  simp only [withJob, h1, h2, h3, ne_eq, not_true_eq_false, if_false]

/-- A JOB handle that names a job not CLOSED reaches the block's own checks. -/
theorem withUnclosedJob_named {w : Word} {s : State} {i : Fin 4} {j : Job} (k : Fin 4 → Job → Reply)
    (h : NamesJob w s i j) (hc : j.phase ≠ .closed) : withUnclosedJob w s k = k i j := by
  simp only [withUnclosedJob, withJob_named _ h, hc, if_false]

/-- A ROD handle that names a record reaches the block's own checks. -/
theorem withRod_named {w : Word} {s : State} {i : Fin 128} {r : Rod} (k : Fin 128 → Rod → Reply)
    (h : NamesRod w s i r) : withRod w s k = k i r := by
  obtain ⟨h1, h2, h3⟩ := h
  simp only [withRod, h1, h2, h3, ne_eq, not_true_eq_false, if_false]

/-- An ADDITIVE handle that names a record reaches the block's own checks. -/
theorem withAdditive_named {w : Word} {s : State} {i : Fin 16} {x : Additive} (k : Fin 16 → Additive → Reply)
    (h : NamesAdditive w s i x) : withAdditive w s k = k i x := by
  obtain ⟨h1, h2, h3⟩ := h
  simp only [withAdditive, h1, h2, h3, ne_eq, not_true_eq_false, if_false]

/-- The operations' first checks pass while a job is ACTIVE and the engine is IDLE (R58). -/
theorem withIdleJob_active {s : State} {a : Fin 4} {j : Job} (k : Fin 4 → Job → Reply) (h : ActiveIs s a j)
    (ho : s.engine.op = none) : withIdleJob s k = k a j := by
  simp [withIdleJob, h.1, h.2, ho]

end Sys2Proof.Machine
end

