-- ==== Sys2Proof/Laws/Frames.lean ====
section
/-! SUPPORT. What each shared operation can change, said once: one `Frame` lemma per operation, named after
it. -/

namespace Sys2Proof.Machine

/-! ### Frames in general -/

theorem Frame.rfl' (ps : List Part) (s : State) : Frame ps s s := by
  refine ⟨fun p _ => ?_⟩
  cases p <;> rfl

theorem Frame.trans {ps : List Part} {s t u : State} (h : Frame ps s t) (g : Frame ps t u) : Frame ps s u := by
  refine ⟨fun p hp => ?_⟩
  have h1 := h.kept p hp
  have h2 := g.kept p hp
  cases p <;> simp only [Part.agree] at h1 h2 ⊢ <;> rw [h2, h1]

theorem Frame.mono {ps qs : List Part} {s t : State} (h : Frame ps s t) (hs : ps ⊆ qs) : Frame qs s t :=
  ⟨fun p hp => h.kept p fun hm => hp (hs hm)⟩

/-- A fold of steps that each keep a frame keeps it. -/
theorem Frame.foldl {α : Type} {ps : List Part} (f : State → α → State) (hf : ∀ s a, Frame ps s (f s a)) :
    ∀ (l : List α) (s : State), Frame ps s (l.foldl f s)
  | [], s => Frame.rfl' ps s
  | a :: l, s => (hf s a).trans (Frame.foldl f hf l (f s a))

/-! ### Single updates -/

theorem frame_jobs (s : State) (x : Vector JobSlot 4) : Frame [.jobs] s { s with jobs := x } := by
  refine ⟨fun p hp => ?_⟩; cases p <;> first | rfl | simp at hp

theorem frame_attn (s : State) (x : Vector AttnEntry 22) : Frame [.attn] s { s with attn := x } := by
  refine ⟨fun p hp => ?_⟩; cases p <;> first | rfl | simp at hp

theorem frame_mode (s : State) (x : ModeCtl) : Frame [.mode] s { s with mode := x } := by
  refine ⟨fun p hp => ?_⟩; cases p <;> first | rfl | simp at hp

theorem frame_roster (s : State) (x : Roster) : Frame [.roster] s { s with roster := x } := by
  refine ⟨fun p hp => ?_⟩; cases p <;> first | rfl | simp at hp

theorem frame_arbiter (s : State) (x : Arbiter) : Frame [.arbiter] s { s with arbiter := x } := by
  refine ⟨fun p hp => ?_⟩; cases p <;> first | rfl | simp at hp

theorem frame_engine (s : State) (x : Engine) : Frame [.engine] s { s with engine := x } := by
  refine ⟨fun p hp => ?_⟩; cases p <;> first | rfl | simp at hp

theorem frame_depth (s : State) (x : DepthTracker) : Frame [.depth] s { s with depth := x } := by
  refine ⟨fun p hp => ?_⟩; cases p <;> first | rfl | simp at hp

theorem frame_pumps (s : State) (x : PumpCtl) : Frame [.pumps] s { s with pumps := x } := by
  refine ⟨fun p hp => ?_⟩; cases p <;> first | rfl | simp at hp

theorem frame_tanks (s : State) (x : TankUnit) : Frame [.tanks] s { s with tanks := x } := by
  refine ⟨fun p hp => ?_⟩; cases p <;> first | rfl | simp at hp

theorem frame_transit (s : State) (x : Transit) : Frame [.transit] s { s with transit := x } := by
  refine ⟨fun p hp => ?_⟩; cases p <;> first | rfl | simp at hp

theorem frame_lith (s : State) (x : Vector LithEntry 64) : Frame [.lith] s { s with lith := x } := by
  refine ⟨fun p hp => ?_⟩; cases p <;> first | rfl | simp at hp

theorem frame_drilling (s : State) (x : Bool) : Frame [.drilling] s { s with drilling := x } := by
  refine ⟨fun p hp => ?_⟩; cases p <;> first | rfl | simp at hp

theorem frame_link (s : State) (x : CommandLink) : Frame [.link] s { s with link := x } := by
  refine ⟨fun p hp => ?_⟩; cases p <;> first | rfl | simp at hp

theorem frame_protection (s : State) (x : Protection) : Frame [.protection] s { s with protection := x } := by
  refine ⟨fun p hp => ?_⟩; cases p <;> first | rfl | simp at hp

theorem State.raise_frame (k : AttnKind) (d : Detail) (s : State) : Frame [.attn] s (s.raise k d) :=
  frame_attn s _

/-! ### Job Sheet -/

theorem State.setJob_frame (i : Fin 4) (j : Job) (s : State) : Frame [.jobs] s (s.setJob i j) := frame_jobs s _

theorem State.modifyJob_frame (i : Fin 4) (f : Job → Job) (s : State) : Frame [.jobs] s (s.modifyJob i f) := by
  unfold State.modifyJob
  split
  · exact Frame.rfl' _ s
  · exact State.setJob_frame ..

theorem State.addUnsettled_frame (i : Fin 4) (line : Fin 40) (q : Int) (s : State) :
    Frame [.jobs, .attn] s (s.addUnsettled i line q) := by
  unfold State.addUnsettled
  split
  · exact Frame.rfl' _ s
  · simp only
    split
    · exact (State.setJob_frame ..).mono (by simp)
    · exact ((State.setJob_frame ..).mono (by simp)).trans ((State.raise_frame ..).mono (by simp))

theorem State.accrueFootage_frame (i : Fin 4) (top bottom : Nat) (c : RockClass) (s : State) :
    Frame [.jobs, .attn] s (s.accrueFootage i top bottom c) := by
  unfold State.accrueFootage
  split
  · exact Frame.rfl' _ s
  · exact Frame.foldl _ (fun s _ => State.addUnsettled_frame ..) _ s

theorem State.moveFootage_frame (i : Fin 4) (top bottom : Nat) (old new : RockClass) (s : State) :
    Frame [.jobs, .attn] s (s.moveFootage i top bottom old new) := by
  unfold State.moveFootage
  split
  · exact Frame.rfl' _ s
  · exact Frame.foldl _ (fun s _ => (State.addUnsettled_frame ..).trans (State.addUnsettled_frame ..)) _ s

theorem State.rebandFootage_frame (i : Fin 4) (j : Job) (b1 b2 : Nat) (s : State) :
    Frame [.jobs, .attn] s (s.rebandFootage i j b1 b2) :=
  Frame.foldl _ (fun s _ => Frame.foldl _ (fun _ _ => State.addUnsettled_frame ..) _ s) _ s

theorem State.settleLine_frame (i : Fin 4) (line : Fin 40) (s : State) :
    Frame [.jobs, .attn] s (s.settleLine i line) := by
  unfold State.settleLine
  split
  · exact Frame.rfl' _ s
  · simp only
    split
    · exact Frame.rfl' _ s
    · split
      · exact ((State.setJob_frame ..).mono (by simp)).trans ((State.raise_frame ..).mono (by simp))
      · exact (State.setJob_frame ..).mono (by simp)

theorem State.settle_frame (i : Fin 4) (s : State) : Frame [.jobs, .attn] s (s.settle i) :=
  (Frame.foldl _ (fun s _ => State.settleLine_frame ..) _ s).trans
    ((State.modifyJob_frame ..).mono (by simp))

theorem State.sheetMinute_frame (s : State) : Frame [.jobs, .attn, .drilling, .engine] s s.sheetMinute := by
  have key : ∀ b : State, Frame [.jobs, .attn] s b →
      Frame [.jobs, .attn, .drilling, .engine] s
        { b with
          drilling := false
          engine := { b.engine with tripping := b.engine.tripping && b.engine.op.isSome } } := by
    intro b hb
    refine ⟨fun p hp => ?_⟩
    have h := (hb.mono (qs := [.jobs, .attn, .drilling, .engine]) (by simp)).kept p hp
    cases p <;> first | exact h | simp at hp
  apply key
  split
  · exact Frame.rfl' _ s
  · split
    · exact Frame.rfl' _ s
    · simp only
      split
      · exact (State.addUnsettled_frame ..).trans ((State.modifyJob_frame ..).mono (by simp))
      · exact State.addUnsettled_frame ..

/-! ### Strata Column -/

theorem State.setColumn_frame (i : Fin 4) (col : List Interval) (s : State) :
    Frame [.jobs, .attn] s (s.setColumn i col) := (State.modifyJob_frame ..).mono (by simp)

theorem State.moveChanges_frame (i : Fin 4) (cs : List ClassChange) (s : State) :
    Frame [.jobs, .attn] s (s.moveChanges i cs) :=
  Frame.foldl _ (fun _ _ => State.moveFootage_frame ..) cs s

theorem State.bindRange_frame (i : Fin 4) (c : RangeChange) (a b : Nat) (s t : State)
    (h : s.bindRange i c a b = some t) : Frame [.jobs, .attn] s t := by
  simp only [State.bindRange, Option.bind_eq_some_iff, Option.map_eq_some_iff] at h
  obtain ⟨_, _, _, _, rfl⟩ := h
  exact (State.setColumn_frame ..).trans (State.moveChanges_frame ..)

theorem State.extendColumn_frame (i : Fin 4) (h1 : Nat) (s : State) :
    Frame [.jobs, .attn] s (s.extendColumn i h1) := by
  unfold State.extendColumn
  split
  · exact Frame.rfl' _ s
  · split
    · exact Frame.rfl' _ s
    · simp only
      split
      · exact Frame.rfl' _ s
      · split
        · exact (State.setColumn_frame ..).trans (State.accrueFootage_frame ..)
        · split
          · exact (State.setColumn_frame ..).trans (State.accrueFootage_frame ..)
          · split
            · exact (State.setColumn_frame ..).trans (State.accrueFootage_frame ..)
            · exact ((State.setColumn_frame ..).trans ((State.raise_frame ..).mono (by simp))).trans
                (State.accrueFootage_frame ..)

theorem State.markRange_frame (i : Fin 4) (status : CutStatus) (a b : Nat) (s : State) :
    Frame [.jobs, .attn] s (s.markRange i status a b) := by
  unfold State.markRange
  refine Frame.trans (State.extendColumn_frame i b s) ?_
  simp only
  split
  · exact Frame.rfl' _ _
  · split
    · exact State.setColumn_frame ..
    · exact (State.setColumn_frame ..).trans ((State.raise_frame ..).mono (by simp))

/-! ### Transit List -/

/-- What the Transit List's operations may change. -/
abbrev transitParts : List Part := [.transit, .jobs, .attn]

theorem State.setParcels_frame (ps : List Parcel) (s : State) : Frame transitParts s (s.setParcels ps) :=
  (frame_transit s _).mono (by simp)

theorem State.markRange_frame' (i : Fin 4) (status : CutStatus) (a b : Nat) (s : State) :
    Frame transitParts s (s.markRange i status a b) := (State.markRange_frame ..).mono (by simp)

theorem State.raise_frame' (k : AttnKind) (d : Detail) (s : State) : Frame transitParts s (s.raise k d) :=
  (State.raise_frame ..).mono (by simp)

theorem State.mergeBirth_frame (j : Job) (b o : Nat) (s : State) : Frame transitParts s (s.mergeBirth j b o) := by
  unfold State.mergeBirth
  split
  · exact Frame.rfl' _ s
  · exact (State.setParcels_frame ..).trans (State.raise_frame' ..)

theorem State.birth_frame (i : Fin 4) (s : State) : Frame transitParts s (s.birth i) := by
  unfold State.birth
  split
  · simp only
    split
    · exact ((frame_transit ..).mono (by simp)).trans (State.markRange_frame' ..)
    · split
      · exact ((frame_transit ..).mono (by simp)).trans (State.mergeBirth_frame ..)
      · exact ((frame_transit ..).mono (by simp)).trans (State.setParcels_frame ..)
  · exact Frame.rfl' _ s

theorem State.closeForming_frame (i : Fin 4) (s : State) : Frame transitParts s (s.closeForming i) := by
  unfold State.closeForming
  split
  · exact State.birth_frame ..
  · exact Frame.rfl' _ s

theorem State.growForming_frame (i : Fin 4) (s : State) : Frame transitParts s (s.growForming i) := by
  unfold State.growForming
  split
  · exact State.birth_frame ..
  · exact Frame.rfl' _ s

theorem State.dropOldest_frame (i : Fin 4) (s : State) : Frame transitParts s (s.dropOldest i) := by
  unfold State.dropOldest
  split
  · exact Frame.rfl' _ s
  · split
    · exact Frame.rfl' _ s
    · exact ((State.setParcels_frame ..).trans (State.markRange_frame' ..)).trans (State.raise_frame' ..)

theorem State.arrive_frame (i : Fin 4) (p : Parcel) (s : State) : Frame transitParts s (s.arrive i p) :=
  ((State.dropOldest_frame i s).trans (State.setParcels_frame ..)).trans (State.raise_frame' ..)

theorem State.arrivalTest_frame (i : Fin 4) : ∀ (n : Nat) (s : State), Frame transitParts s (State.arrivalTest i n s)
  | 0, s => Frame.rfl' _ s
  | n + 1, s => by
    unfold State.arrivalTest
    split
    · exact Frame.rfl' _ s
    · split
      · exact (State.arrive_frame ..).trans (State.arrivalTest_frame i n _)
      · exact Frame.rfl' _ s

theorem State.advanceParcels_frame (v : Nat) (s : State) : Frame transitParts s (s.advanceParcels v) := by
  unfold State.advanceParcels
  split
  · exact Frame.rfl' _ s
  · exact (State.setParcels_frame ..).trans (State.arrivalTest_frame ..)

theorem State.recompute_frame (s : State) : Frame transitParts s s.recompute := by
  unfold State.recompute
  split
  · exact Frame.rfl' _ s
  · split
    · exact Frame.rfl' _ s
    · exact (State.setParcels_frame ..).trans (State.arrivalTest_frame ..)

theorem State.markParcels_frame (i : Fin 4) (status : CutStatus) (ps : List Parcel) (s : State) :
    Frame transitParts s (s.markParcels i status ps) :=
  Frame.foldl _ (fun _ _ => State.markRange_frame' ..) ps s

theorem State.wipe_frame (s : State) : Frame transitParts s s.wipe := by
  unfold State.wipe
  split
  · exact Frame.rfl' _ s
  · exact (State.setParcels_frame ..).trans (State.markParcels_frame ..)

theorem State.giveUpParcels_frame (i : Fin 4) (s : State) : Frame transitParts s (s.giveUpParcels i) := by
  unfold State.giveUpParcels
  refine Frame.trans ?_ ((frame_transit _ _).mono (by simp))
  refine Frame.trans ((State.setParcels_frame [] s).trans
    (State.markParcels_frame i .notSampled s.transit.parcels _)) ?_
  split
  · split
    · exact State.markRange_frame' ..
    · exact Frame.rfl' _ _
  · exact Frame.rfl' _ _

/-! ### Well centre -/

/-- What the arbiter's operations may change. -/
abbrev centreParts : List Part := [.arbiter, .engine]

theorem State.setStep_frame (p : OpStep) (o : Operation) (s : State) : Frame centreParts s (s.setStep p o) :=
  (frame_engine s _).mono (by simp)

theorem State.onGrant_frame (st : Station) (s : State) : Frame centreParts s (s.onGrant st) := by
  unfold State.onGrant
  split
  · exact Frame.rfl' _ s
  · split
    · exact Frame.rfl' _ s
    · split
      all_goals first
        | exact State.setStep_frame ..
        | (split <;> exact State.setStep_frame ..)

theorem State.grant_frame (st : Station) (s : State) : Frame centreParts s (s.grant st) :=
  ((frame_arbiter s _).mono (by simp)).trans (State.onGrant_frame ..)

theorem State.grantTest_frame (s : State) : Frame centreParts s s.grantTest := by
  unfold State.grantTest
  split
  · split
    · exact State.grant_frame ..
    · exact Frame.rfl' _ s
  · exact Frame.rfl' _ s

theorem State.endHolding_frame (s : State) : Frame centreParts s s.endHolding := by
  unfold State.endHolding
  simp only
  split
  · exact (frame_arbiter s _).mono (by simp)
  · split
    · exact State.grant_frame ..
    · exact (frame_arbiter s _).mono (by simp)

theorem State.joinSet_frame (st : Station) (s : State) : Frame centreParts s (s.joinSet st) := by
  unfold State.joinSet
  split
  · exact Frame.rfl' _ s
  · exact ((frame_arbiter s _).mono (by simp)).trans (State.grantTest_frame _)

theorem State.engineRequest_frame (st : Station) (s : State) : Frame centreParts s (s.engineRequest st) := by
  unfold State.engineRequest
  split
  · exact State.onGrant_frame ..
  · exact State.joinSet_frame ..

theorem State.engineRelease_frame (st : Station) (s : State) : Frame centreParts s (s.engineRelease st) := by
  unfold State.engineRelease
  split
  · exact State.endHolding_frame s
  · exact Frame.rfl' _ s

theorem State.stationRequest_frame (st : Station) (s : State) : Frame centreParts s (s.stationRequest st) := by
  unfold State.stationRequest
  split
  · exact Frame.rfl' _ s
  · exact State.joinSet_frame ..

theorem State.endOp_frame (o : Operation) (x : OpOutcome) (st : Option Station) (v : Nat) (s : State) :
    Frame [.engine, .attn] s (s.endOp o x st v) :=
  ((frame_engine s _).mono (by simp)).trans ((State.raise_frame ..).mono (by simp))

theorem State.withdraw_frame (o : Operation) (s : State) : Frame centreParts s (s.withdraw o) := by
  unfold State.withdraw
  refine Frame.trans (t := match o.step.awaits with
    | some st => { s with arbiter := s.arbiter.put st false }
    | none => s) ?_ ?_
  · split
    · exact (frame_arbiter s _).mono (by simp)
    · exact Frame.rfl' _ s
  · cases o.step.awaits <;> simp only <;> split <;>
      first | exact State.engineRelease_frame .. | exact Frame.rfl' _ _

/-- What ending an operation may change. -/
abbrev opParts : List Part := [.arbiter, .engine, .attn]

theorem State.abandon_frame (o : Operation) (x : OpOutcome) (st : Option Station) (v : Nat) (s : State) :
    Frame opParts s (s.abandon o x st v) :=
  ((State.endOp_frame ..).mono (by simp)).trans ((State.withdraw_frame ..).mono (by simp))

theorem State.stationRelease_frame (st : Station) (s : State) : Frame opParts s (s.stationRelease st) := by
  have e : ∀ t : State, Frame opParts t t.endHolding := fun t => (State.endHolding_frame t).mono (by simp)
  have f : ∀ (o : Operation) (t : State), Frame opParts t (t.endOp o .faulted (some st) 0) :=
    fun o t => (State.endOp_frame ..).mono (by simp)
  have g : ∀ t : State, Frame opParts t { t with arbiter := t.arbiter.put st false } :=
    fun t => (frame_arbiter t _).mono (by simp)
  unfold State.stationRelease
  split
  · exact Frame.rfl' _ s
  · split
    · split
      · split
        · exact (f _ s).trans (e _)
        · exact e s
      · exact e s
    · split
      · simp only
        split
        · split
          · exact (g s).trans (f _ _)
          · exact g s
        · exact g s
      · exact Frame.rfl' _ s

/-! ### Pumps -/

theorem State.leftStopped_frame (e : BreachEvent) (p : Pump) (s : State) :
    Frame [.attn] s (s.leftStopped e p) := by
  unfold State.leftStopped
  split
  · exact State.raise_frame ..
  · exact Frame.rfl' _ s

theorem State.setPumps_frame (c : PumpCtl) (s : State) : Frame [.pumps, .attn] s (s.setPumps c) :=
  (frame_pumps s _).mono (by simp)

theorem State.startCirculation_frame (e : BreachEvent) (p : Pump) (s : State) :
    Frame [.pumps, .attn] s (s.startCirculation e p) :=
  (State.setPumps_frame ..).trans ((State.leftStopped_frame ..).mono (by simp))

theorem State.strokeCirculation_frame (p : Pump) (s : State) :
    Frame [.pumps, .attn] s (s.strokeCirculation p) := by
  unfold State.strokeCirculation
  split
  · exact (State.startCirculation_frame ..).trans ((State.raise_frame ..).mono (by simp))
  · exact Frame.rfl' _ s
  · exact State.setPumps_frame ..

theorem State.targetCirculation_frame (p : Pump) (n : Nat) (s : State) :
    Frame [.pumps, .attn] s (s.targetCirculation p n) := by
  unfold State.targetCirculation
  split <;> split <;>
    first | exact State.startCirculation_frame .. | exact State.setPumps_frame ..

/-- What the Pump Controller's timers may change. -/
abbrev pumpParts : List Part := [.pumps, .attn, .arbiter, .engine]

theorem State.stillExpiry_frame (s : State) : Frame pumpParts s s.stillExpiry := by
  unfold State.stillExpiry
  split
  · exact (((State.setPumps_frame ..).mono (by simp)).trans ((State.raise_frame ..).mono (by simp))).trans
      ((State.grantTest_frame _).mono (by simp))
  · exact (State.setPumps_frame ..).mono (by simp)

theorem State.stillTick_frame (s : State) : Frame pumpParts s s.stillTick := by
  unfold State.stillTick
  split
  · exact Frame.rfl' _ s
  · split
    · exact State.stillExpiry_frame s
    · exact (State.setPumps_frame ..).mono (by simp)

theorem State.pumpSecond_frame (s : State) : Frame pumpParts s s.pumpSecond := by
  unfold State.pumpSecond
  refine Frame.trans ((State.setPumps_frame { s.pumps with p1 := s.pumps.p1.tick, p2 := s.pumps.p2.tick } s).mono
    (by simp)) ?_
  simp only
  split
  · exact (State.setPumps_frame ..).mono (by simp)
  · exact State.stillTick_frame _

/-! ### Tanks and balance -/

/-- What a change of loss class or a reading may change. -/
abbrev balanceParts : List Part := [.tanks, .attn, .transit, .jobs]

/-- What the suction test may change. -/
abbrev tankParts : List Part := [.tanks, .attn, .transit, .jobs, .pumps]

theorem State.setTanks_frame (u : TankUnit) (s : State) : Frame balanceParts s (s.setTanks u) :=
  (frame_tanks s _).mono (by simp)

theorem State.setTanks_frame' (u : TankUnit) (s : State) : Frame tankParts s (s.setTanks u) :=
  (frame_tanks s _).mono (by simp)

theorem State.markBit_frame (f : Interval → Interval) (s : State) : Frame balanceParts s (s.markBit f) := by
  unfold State.markBit
  split
  · exact Frame.rfl' _ s
  · exact (State.modifyJob_frame ..).mono (by simp)

theorem State.changeLoss_frame (c : LossClass) (y : Nat) (s : State) : Frame balanceParts s (s.changeLoss c y) := by
  unfold State.changeLoss
  split
  · exact Frame.rfl' _ s
  · have h1 : Frame balanceParts s ((s.setTanks { s.tanks with lossClass := c }).raise .lossClass
        (.loss c ((s.setTanks { s.tanks with lossClass := c }).activeJob?.map Job.bitDepth))) :=
      (State.setTanks_frame ..).trans ((State.raise_frame ..).mono (by simp))
    have h2 : ∀ t : State, Frame balanceParts t (if c = .total then t.wipe else t) := by
      intro t
      split
      · exact (State.wipe_frame t).mono (by simp)
      · exact Frame.rfl' _ t
    simp only
    split
    · exact h1.trans (h2 _)
    · exact (h1.trans (h2 _)).trans (State.markBit_frame ..)

theorem State.classifyReading_frame (l : Int) (s : State) : Frame balanceParts s (s.classifyReading l) := by
  unfold State.classifyReading
  split
  · exact Frame.rfl' _ s
  · exact State.changeLoss_frame ..

theorem State.billLoss_frame (l : Int) (s : State) : Frame balanceParts s (s.billLoss l) := by
  unfold State.billLoss
  split
  · exact Frame.rfl' _ s
  · simp only
    split
    · exact State.setTanks_frame ..
    · exact (State.setTanks_frame ..).trans ((State.addUnsettled_frame ..).mono (by simp))

theorem State.reading_frame (m : Nat) (s : State) : Frame balanceParts s (s.reading m) := by
  unfold State.reading
  split
  · exact Frame.rfl' _ s
  · exact (((State.setTanks_frame ..).trans (State.classifyReading_frame ..)).trans
      (State.billLoss_frame ..)).trans (State.setTanks_frame ..)

theorem State.balanceSecond_frame (s : State) : Frame balanceParts s s.balanceSecond := by
  unfold State.balanceSecond
  split
  · exact Frame.rfl' _ s
  · simp only
    split
    · exact (State.setTanks_frame ..).trans (State.reading_frame ..)
    · exact State.setTanks_frame ..

theorem State.decideSuction_frame (s : State) : Frame tankParts s s.decideSuction := by
  unfold State.decideSuction
  simp only
  split
  · exact Frame.rfl' _ s
  · refine Frame.trans ?_ ((State.setPumps_frame ..).mono (by simp))
    refine Frame.trans (State.setTanks_frame' { s.tanks with condition := s.tanks.activeTank.suction } s) ?_
    split <;> first | exact Frame.rfl' _ _ | exact (State.raise_frame ..).mono (by simp)

theorem State.swap_frame (c : SwapCause) (s : State) : Frame tankParts s (s.swap c) :=
  ((((State.reading_frame _ s).mono (by simp)).trans (State.setTanks_frame' ..)).trans
    (State.decideSuction_frame _)).trans ((State.raise_frame ..).mono (by simp))

theorem State.suctionTest_frame (s : State) : Frame tankParts s s.suctionTest := by
  unfold State.suctionTest
  simp only
  split
  · exact State.swap_frame ..
  · exact State.decideSuction_frame s

theorem State.reworkStandby_frame (s : State) : Frame tankParts s s.reworkStandby := by
  unfold State.reworkStandby
  simp only
  split
  · exact (State.setTanks_frame' ..).trans (State.suctionTest_frame _)
  · exact State.setTanks_frame' ..

theorem State.standbyAddition_frame (s : State) : Frame tankParts s s.standbyAddition :=
  (State.setTanks_frame' ..).trans (State.reworkStandby_frame _)

theorem State.mixExpiry_frame (s : State) : Frame tankParts s s.mixExpiry :=
  (State.setTanks_frame' ..).trans (State.reworkStandby_frame _)

theorem State.mixMinute_frame (s : State) : Frame tankParts s s.mixMinute := by
  unfold State.mixMinute
  split
  · exact Frame.rfl' _ s
  · split
    · exact State.mixExpiry_frame s
    · exact State.setTanks_frame' ..

theorem State.takeLevel_frame (t : TankId) (v : Int) (s : State) : Frame tankParts s (s.takeLevel t v) := by
  unfold State.takeLevel
  extract_lets depth level s0 old s1 new s2
  have h0 : Frame tankParts s s0 := by
    simp only [s0]
    split
    · exact Frame.rfl' _ s
    · exact (State.raise_frame ..).mono (by simp)
  have h1 : Frame tankParts s s1 := h0.trans (State.setTanks_frame' ..)
  refine Frame.trans ?_ (State.suctionTest_frame s2)
  simp only [s2]
  split
  · exact h1.trans (State.reworkStandby_frame _)
  · split
    · exact h1.trans (State.setTanks_frame' ..)
    · exact h1

theorem State.takeFlow_frame (v : Flow) (s : State) : Frame balanceParts s (s.takeFlow v) := by
  unfold State.takeFlow
  simp only
  split <;> split <;>
    first
    | exact (State.setTanks_frame ..).trans (State.changeLoss_frame ..)
    | exact State.setTanks_frame ..

/-! ### Roster -/

/-- What the roster's operations may change. -/
abbrev rosterParts : List Part := [.roster, .attn]

theorem State.setRod_frame (i : Fin 128) (r : Rod) (s : State) : Frame rosterParts s (s.setRod i r) :=
  (frame_roster s _).mono (by simp)

theorem State.modifyRod_frame (i : Fin 128) (f : Rod → Rod) (s : State) : Frame rosterParts s (s.modifyRod i f) := by
  unfold State.modifyRod
  split
  · exact Frame.rfl' _ s
  · exact State.setRod_frame ..

theorem State.setStringLen_frame (n : Nat) (s : State) : Frame rosterParts s (s.setStringLen n) :=
  (frame_roster s _).mono (by simp)

theorem State.regrade_frame (i : Fin 128) (s : State) : Frame rosterParts s (s.regrade i) := by
  unfold State.regrade
  split
  · exact Frame.rfl' _ s
  · simp only
    split
    · exact (State.setRod_frame ..).trans ((State.raise_frame ..).mono (by simp))
    · exact State.setRod_frame ..

theorem State.regradeType_frame (t : Fin 4) (s : State) : Frame rosterParts s (s.regradeType t) := by
  apply Frame.foldl
  intro s i
  split
  · exact State.regrade_frame ..
  · exact Frame.rfl' _ s

theorem State.joinRod_frame (i : Fin 128) (s : State) : Frame rosterParts s (s.joinRod i) := by
  unfold State.joinRod
  split
  · exact Frame.rfl' _ s
  · exact ((State.setRod_frame ..).trans (State.setStringLen_frame ..)).trans (State.regrade_frame ..)

theorem State.unjoinRod_frame (i : Fin 128) (s : State) : Frame rosterParts s (s.unjoinRod i) := by
  unfold State.unjoinRod
  split
  · exact Frame.rfl' _ s
  · exact (State.modifyRod_frame ..).trans (State.setStringLen_frame ..)

theorem State.creditString_frame (n : Nat) (s : State) : Frame rosterParts s (s.creditString n) := by
  apply Frame.foldl
  intro s i
  exact (State.modifyRod_frame ..).trans (State.regrade_frame ..)

/-! ### Depth Tracker -/

/-- What new hole may change. -/
abbrev holeParts : List Part := [.jobs, .roster, .attn, .transit, .tanks, .drilling]

theorem State.addFill_frame (ss : List Section) (a b : Nat) (s : State) : Frame [.tanks] s (s.addFill ss a b) := by
  unfold State.addFill
  split
  · exact Frame.rfl' _ s
  · exact frame_tanks s _

theorem State.newHole_frame (i : Fin 4) (j : Job) (h1 : Nat) (s : State) : Frame holeParts s (s.newHole i j h1) :=
  (((((((State.setJob_frame ..).mono (by simp)).trans ((State.creditString_frame ..).mono (by simp))).trans
    ((State.extendColumn_frame ..).mono (by simp))).trans ((State.growForming_frame ..).mono (by simp))).trans
    ((State.addFill_frame ..).mono (by simp)))).trans ((frame_drilling _ _).mono (by simp))

/-- What a HEIGHT report may change. -/
abbrev heightParts : List Part := [.jobs, .roster, .attn, .transit, .tanks, .drilling, .depth]

theorem State.setDepth_frame (d : DepthTracker) (s : State) : Frame heightParts s (s.setDepth d) :=
  (frame_depth s _).mono (by simp)

theorem State.testCandidate_frame (i : Fin 4) (j : Job) (c : Nat) (s : State) :
    Frame heightParts s (s.testCandidate i j c) := by
  unfold State.testCandidate
  split
  · exact ((State.setJob_frame ..).mono (by simp)).trans (State.setDepth_frame ..)
  · split
    · exact (State.setDepth_frame ..).trans ((State.newHole_frame ..).mono (by simp))
    · exact (State.setDepth_frame ..).trans ((State.raise_frame ..).mono (by simp))

theorem State.takeHeight_frame (v : Int) (s : State) : Frame heightParts s (s.takeHeight v) := by
  unfold State.takeHeight
  extract_lets h s0 old s1
  have h0 : Frame heightParts s s0 := by
    simp only [s0]
    split
    · exact Frame.rfl' _ s
    · exact (State.raise_frame ..).mono (by simp)
  have h1 : Frame heightParts s s1 := h0.trans (State.setDepth_frame ..)
  split
  · split
    · exact h1
    · split
      · exact h1
      · exact h1.trans (State.testCandidate_frame ..)
  · exact h1

/-- What the head-freed event may change. -/
abbrev freedParts : List Part := [.arbiter, .engine, .transit, .jobs, .attn, .depth]

theorem State.headFreed_frame (s : State) : Frame freedParts s s.headFreed := by
  unfold State.headFreed
  refine Frame.trans ((State.grantTest_frame s).mono (by simp)) ?_
  simp only
  split
  · exact Frame.rfl' _ _
  · exact (State.closeForming_frame ..).mono (by simp)

theorem State.takeFree_frame (s : State) : Frame freedParts s s.takeFree := by
  unfold State.takeFree
  split
  · exact ((frame_depth s _).mono (by simp)).trans (State.headFreed_frame _)
  · exact Frame.rfl' _ s

/-! ### Mode Controller -/

theorem State.wake_frame (w : WakeSource) (s : State) : Frame [.mode] s (s.wake w) := by
  unfold State.wake
  split
  · exact frame_mode s _
  · exact Frame.rfl' _ s

/-- What an entry into OPERATE may change. -/
abbrev operateParts : List Part := [.mode, .transit, .jobs, .attn]

theorem State.enterOperate_frame (s : State) : Frame operateParts s s.enterOperate := by
  unfold State.enterOperate
  refine Frame.trans (t := s.enterMode .operate) ((frame_mode s _).mono (by simp)) ?_
  simp only
  split
  · exact ((frame_mode _ _).mono (by simp)).trans ((State.recompute_frame _).mono (by simp))
  · exact Frame.rfl' _ _

theorem State.endWake_frame (cls : ReqClass) (s : State) : Frame operateParts s (s.endWake cls) := by
  unfold State.endWake
  split
  · exact State.enterOperate_frame s
  · exact Frame.rfl' _ s

theorem State.windowExpiry_frame (s : State) : Frame [.mode, .attn] s s.windowExpiry := by
  unfold State.windowExpiry
  split
  · exact Frame.rfl' _ s
  · exact ((frame_mode s _).mono (by simp)).trans ((State.raise_frame ..).mono (by simp))

theorem State.windowMinute_frame (s : State) : Frame [.mode, .attn] s s.windowMinute := by
  unfold State.windowMinute
  split
  · exact Frame.rfl' _ s
  · split
    · exact Frame.rfl' _ s
    · split
      · exact State.windowExpiry_frame s
      · exact (frame_mode s _).mono (by simp)

/-! ### The Command Link's registers -/

theorem State.heard_frame (code : Byte) (r : Request) (s : State) :
    Frame [.link, .protection] s (s.heard code r) := by
  refine ⟨fun p hp => ?_⟩; cases p <;> first | rfl | simp at hp

theorem State.respond_frame (status : Status) (payload : List Word) (s : State) :
    Frame [.link] s (s.respond status payload) := frame_link s _

end Sys2Proof.Machine
end

