-- ==== Sys2Proof/Tests/Slice0.lean ====
section
/-! SUPPORT. The model's own tests: ill-formed terms, frames and messages written out by hand, the guide's worked
cases step by step, and for every statement with hypotheses a state and operands that meet them. -/

namespace Sys2Proof.Tests

open Machine

set_option Elab.async false

/-! ### Making commands and reading outcomes -/

/-- A word. -/
abbrev w (n : Nat) : Word := BitVec.ofNat 16 n

/-- The request frame a host makes, both keys on. -/
def ask (code : Byte) (level : BitVec 2) (ws : List Word) : Request :=
  { keys := ⟨true, true⟩, level := level, count := BitVec.ofNat 6 ws.length
    words := ws ++ [crc (header code level (BitVec.ofNat 6 ws.length) :: ws)], tail := [] }

/-- A good station message of a kind. -/
def say (kind : Byte) (address : Byte) (value : BitVec 32) : Message :=
  { address := address, value := value
    sum := 0 - (messageBytes kind ⟨address, value, 0⟩).foldl (· + ·) 0#8 }

/-- The outcome is a next state that meets a test. -/
def after (o : Result) (p : State → Bool) : Bool :=
  match o with
  | .next t => p t
  | _ => false

/-- What a refused, faulted or next outcome left; the outcome is a next state in every use. -/
def left (o : Result) : State :=
  match o with
  | .next t => t
  | _ => State.reset

/-- A request's response. -/
def answered (o : Result) (status : Status) (payload : List Word) : Bool :=
  after o fun t => t.link.buffer == some ⟨status, payload⟩

/-- An outcome that meets a test is a next state. -/
theorem completes {o : Result} {p : State → Bool} (h : after o p = true) : ∃ t, o = .next t ∧ p t = true := by
  cases o with
  | next t => exact ⟨t, rfl, h⟩
  | fault r => cases r
  | refused r => simp [after] at h

/-- An outcome that is a next state. -/
theorem runs {o : Result} (h : after o (fun _ => true) = true) : ∃ t, o = .next t :=
  (completes h).imp fun _ ht => ht.1

/-- A request at its required level passes frame, level, key and mode. -/
abbrev taken (code : Byte) (required : Nat) (cls : ReqClass) (ws : List Word) (s : State) : Prop :=
  Taken code required cls ws (ask code (BitVec.ofNat 2 required) ws) s

/-! ### A rig to work on: job 418 of the guide's worked operation (spec/04, 4.5) -/

/-- An interval the driller's declaration left. -/
def bed (top bottom : Nat) (lith : Fin 64) (cls : RockClass) (minutes : Nat) : Interval :=
  { top := top, bottom := bottom, lith := lith, cls := cls, source := .driller, status := .pending
    lossZone := false, water := false, merged := false, yield := none, minutes := minutes }

/-- A rod of type 2. -/
def rod (tag length : Nat) (place : RodPlace) (makeUps drilled : Nat) : Rod :=
  { tag := tag, type := 1, length := length, place := place, makeUps := makeUps, drilled := drilled, wear := .a
    lastJob := none, unverified := false }

/-- Job 418, its hole at 1,500 cm. -/
def job418 : Job :=
  { number := 418, phase := .active, startDepth := 0, holeDepth := 1500, bitDepth := 1500, declared := 0
    rodType := 1, bha := ⟨450, 152, 1850000, .inString⟩, b1 := 10000, b2 := 30000
    sections := [⟨0, 254⟩, ⟨1200, 200⟩]
    rates := ⟨Vector.replicate 12 1600, Vector.replicate 5 21000, 85000⟩, down := false, settleMark := 0
    column := [bed 0 1500 0 .soft 9], sheet := (Vector.replicate 40 ⟨0, 0, 0⟩).set 0 ⟨0, 1500, 0⟩ }

/-- The additive BENTONIT. -/
def bentonit : Additive :=
  { name := #v[66, 69, 78, 84, 79, 78, 73, 84], price := 2750, onHand := 12, received := 40, drawn := 28
    shortfall := 0 }

/-- The rig in OPERATE with job 418 ACTIVE in slot 3, generation 7. -/
def rig : State :=
  { State.reset with
    mode := { State.reset.mode with mode := .operate }
    jobs := State.reset.jobs.set 2 ⟨7, some job418⟩
    roster := { State.reset.roster with
      slots := ((State.reset.roster.slots.set 4 ⟨1, some (rod 70020 610 (.string 1) 3 0)⟩).set 5
        ⟨1, some (rod 70021 608 (.string 2) 3 0)⟩).set 8 ⟨1, some (rod 70033 605 (.carousel 11) 57 0)⟩
      stringLen := 1668 }
    depth := { State.reset.depth with lastHeight := 168 }
    pumps := { State.reset.pumps with
      p1 := { PumpRec.initial with
        displacement := 9500, efficiency := 92, vps := 8740, inForce := 120, target := 60, setpoint := 60 }
      p2 := { PumpRec.initial with displacement := 9500, vps := 8550, inForce := 120 }
      circ := .running, still := none }
    tanks := { State.reset.tanks with
      a := { Tank.initial with level := 1500, fresh := true }
      b := { Tank.initial with level := 1400, fresh := true }
      standby := .ready, condition := .normal, reference := some 22500000
      additives := State.reset.tanks.additives.set 2 ⟨2, some bentonit⟩ }
    transit := { State.reset.transit with formingTop := some 1500 } }

/-- A state with another mode. -/
def inMode (m : RigMode) (s : State) : State := { s with mode := { s.mode with mode := m } }

/-- A state with the pumps at rest and circulation STOPPED. -/
def still (s : State) : State :=
  { s with pumps := { s.pumps with
      p1 := { s.pumps.p1 with target := 0, setpoint := 0 }, p2 := { s.pumps.p2 with target := 0, setpoint := 0 }
      circ := .stopped } }

/-- A state with job 418 changed. -/
def withJob418 (f : Job → Job) (s : State) : State := s.modifyJob 2 f

/-- A state with no job ACTIVE, job 418 in another state. -/
def inPhase (p : JobPhase) (s : State) : State :=
  { withJob418 (fun j => { j with phase := p, bitDepth := 0, bha := { j.bha with place := .stowed } }) s with
    transit := { s.transit with formingTop := none, parcels := [] } }

/-- A state without its two rods of the string. -/
def noString (s : State) : State :=
  (withJob418 (fun j => { j with bha := { j.bha with place := .stowed } }) ((s.removeRod 4).removeRod 5)).setStringLen 0

/-- An operation in flight. -/
def doing (o : Operation) (s : State) : State := { s with engine := ⟨some o, true⟩ }

/-- A holder of the centre. -/
def heldBy (st : Station) (s : State) : State := { s with arbiter := { s.arbiter with holder := st } }

/-- A rod operation at a step. -/
def op (kind : OpKind) (step : OpStep) (dest : Option RackPlace) : Operation :=
  { kind := kind, step := step, rod := some 8, expected := some 70033
    source := if kind = .makeUp then some (.carousel 11) else none, dest := dest, tagReg := none }

/-- The handle of job 418. -/
abbrev h418 : Word := w (147 * 256 + 7)

/-- The handle of the rod in slot 9. -/
abbrev hRod9 : Word := w (9 * 256 + 1)

/-- The handle of BENTONIT. -/
abbrev hBent : Word := w (131 * 256 + 2)

/-! ### Terms that are no commands, one for each check -/

/-- A tail of 16 bits is a word (R177). -/
theorem test_tail_of_a_word_refused :
    (Instr.readMode { ask 1 3 [] with tail := List.replicate 16 false }).wellFormed = false := by decide +kernel

/-- SET_RATE does not name BANDS, SET_RATE_BANDS does (R24, R25). -/
theorem test_set_rate_of_bands_refused : (Instr.setRate (ask 23 0 [h418, 0, 0, 1])).wellFormed = false := by
  decide +kernel

theorem test_set_rate_bands_of_an_item_refused :
    (Instr.setRateBands (ask 23 0 [h418, 13, 0, 1])).wellFormed = false := by decide +kernel

/-- A report whose sum is wrong is no report (R183). -/
theorem test_report_with_bad_sum_refused : (Instr.tag ⟨3, 70033, 0⟩).wellFormed = false := by decide +kernel

/-- A good frame of a known code is a request and no DISCARDED_FRAME: under that row nothing happens (R179, log 11). -/
theorem test_request_is_no_discarded_frame :
    (Instr.discardedFrame ⟨[0x01C0, crc [0x01C0]], []⟩).wellFormed = false
      ∧ after (exec (.discardedFrame ⟨[0x01C0, crc [0x01C0]], []⟩) State.reset) (· == State.reset) = true := by
  decide +kernel

/-- A good message of kinds 1 to 15 is a report and no DISCARDED_STATION_MESSAGE (R184, log 11). -/
theorem test_report_is_no_discarded_message :
    (Instr.discardedStationMessage (messageBytes 1 (say 1 2 0))).wellFormed = false
      ∧ after (exec (.discardedStationMessage (messageBytes 1 (say 1 2 0))) State.reset) (· == State.reset) = true := by
  decide +kernel

/-! ### Frames and messages written out by hand (spec/11, 11.1 and 11.3) -/

/-- The header of a NOP at level 3 is 0x00C0 (11.3), and of a SET_PUMP_RATE at level 2 with two words 0x4382. -/
theorem test_headers : header 0 3 0 = 0x00C0#16 ∧ header 67 2 2 = 0x4382#16 := by decide

/-- A message of seven bytes: HEAD's HEIGHT of 140 cm. -/
theorem test_height_message_decodes :
    commandOfMessage [1, 13, 0, 0, 0, 140, 102] = .height ⟨1, 140, 102⟩ := by decide +kernel

/-- The frame words of a READ_MODE at level 3, with the CRC of its header. -/
theorem test_read_mode_frame_decodes :
    commandOfFrame ⟨false, false⟩ ⟨[0x01C0, crc [0x01C0]], []⟩
      = .readMode ⟨⟨false, false⟩, 3, 0, [crc [0x01C0]], []⟩ := by decide +kernel

/-- The CRC of the characters 12345678 as four words, computed outside Lean bit by bit from R178's generator. -/
theorem test_crc_of_four_words : crc [0x3132, 0x3334, 0x3536, 0x3738] = 0xA12B := by decide +kernel

/-- A LEVEL value of −5 mm for tank B. -/
theorem test_level_value : levelTank 0x02FFFFFB = some .b ∧ levelValue 0x02FFFFFB = -5 := by decide

/-! ### The guide's worked cases, one step each -/

/-- READ_MODE's response has 11 words (11.3), and a NOP leaves it and clocks out its first words. -/
theorem test_nop_leaves_the_response :
    after (exec (.readMode (ask 1 3 [])) rig) (fun t =>
        ((t.link.buffer.map Response.words).getD []).length == 11
          && after (exec (.nop (ask 0 3 [0])) t) fun u =>
            u.link.buffer == t.link.buffer
              && u.link.dataOut == ([w 9, w 2, w 10].flatMap wordBits)) = true := by decide +kernel

/-- A damaged CRC answers LINK_CRC and takes nothing (11.3, frame 3). -/
theorem test_damaged_stop_is_not_taken :
    after (exec (.stopCirculation { ask 68 3 [] with words := [0] }) rig) (fun t =>
      t.pumps == rig.pumps && t.link.buffer == some ⟨.linkCrc, []⟩
        && t.attn[AttnKind.linkError.ix].detail == some (.command .linkCrc)) = true := by decide +kernel

/-- HEIGHT 140 takes new hole of 28 cm to 1,528, and both rods of the string gain it (4.5). -/
theorem test_height_drills :
    after (exec (.height (say 13 1 140)) rig) (fun t =>
      (t.activeJob?.map fun j => (j.holeDepth, j.bitDepth, j.sheet[0].unsettled)) == some (1528, 1528, 1528)
        && ((t.rod? 4).map Rod.drilled) == some 28 && ((t.rod? 5).map Rod.drilled) == some 28
        && ((t.rod? 8).map Rod.drilled) == some 0 && t.drilling) = true := by decide +kernel

/-- HEIGHT 20 with the hole at 1,608 is a jump of 40: held, with DEPTH_JUMP (4.5). -/
theorem test_height_jump_is_held :
    after (exec (.height (say 13 1 20)) (withJob418 (fun j => { j with holeDepth := 1608, bitDepth := 1608 }) rig))
      (fun t => t.depth.held == some 1648 && (t.activeJob?.map Job.holeDepth) == some 1608
        && t.attn[AttnKind.depthJump.ix].detail == some (.jump 1648 1608)) = true := by decide +kernel

/-- MAKE_UP from carousel slot 12 is PENDING with LOADER requested; FREE then grants LOADER (4.5). -/
theorem test_make_up_then_free :
    after (exec (.makeUp (ask 50 2 [1, 0, 12])) rig) (fun t =>
      t.link.buffer == some ⟨.pending, [1, hRod9]⟩ && t.arbiter == ⟨.head, false, true, false⟩
        && after (exec (.free (say 12 1 0)) t) fun u => u.arbiter == ⟨.loader, false, false, false⟩
          && (u.engine.op.map Operation.step) == some .awaitPresent) = true := by decide +kernel

/-- The second TAG of the expected rod brings it to CENTRE and gives the centre back to HEAD (4.5). -/
theorem test_confirmed_tag :
    after (exec (.tag (say 4 3 70033)) (doing { op .makeUp .awaitTag none with tagReg := some 70033 }
        (heldBy .loader rig))) (fun t =>
      ((t.rod? 8).map Rod.place) == some .centre && t.arbiter.holder == .head
        && (t.engine.op.map Operation.step) == some .awaitTorque) = true := by decide +kernel

/-- A confirmed tag that differs ends the operation with MISMATCH and leaves the rod unverified (3.8). -/
theorem test_tag_mismatch :
    after (exec (.tag (say 4 3 70311)) (doing { op .makeUp .awaitTag none with tagReg := some 70311 }
        (heldBy .loader rig))) (fun t =>
      t.engine.op.isNone && ((t.rod? 8).map fun r => (r.place, r.unverified)) == some (.carousel 11, true)
        && t.attn[AttnKind.tagMismatch.ix].detail == some (.tags 70033 70311)
        && t.attn[AttnKind.rodOpDone.ix].count == 1) = true := by decide +kernel

/-- TORQUE_MADE joins rod 9 at position 3: make-ups 58, string length 2,273, ROD_OP_DONE (4.5). -/
theorem test_torque_made :
    after (exec (.torqueMade (say 6 1 0)) (doing (op .makeUp .awaitTorque none)
        (rig.placeRod 8 .centre))) (fun t =>
      ((t.rod? 8).map fun r => (r.place, r.makeUps)) == some (.string 3, 58) && t.roster.stringLen == 2273
        && t.engine.op.isNone && (t.activeJob?.map Job.bitDepth) == some 1500
        && t.attn[AttnKind.rodOpDone.ix].detail == some (.opDone .makeUp .done (some (.rod 8 1)) none 0)) = true := by
  decide +kernel

/-- A stroke while WRENCH holds the centre: UNCOMMANDED_PUMP and INTERLOCK_BREACH, and WRENCH keeps it (4.5). -/
theorem test_bumped_pump :
    after (exec (.strokePulse .p2) (heldBy .wrench (still rig))) (fun t =>
      t.pumps.circ == .running && t.arbiter.holder == .wrench && t.pumps.total == 8550
        && t.attn[AttnKind.uncommandedPump.ix].detail == some (.pump .p2)
        && t.attn[AttnKind.interlockBreach.ix].detail == some (.breach .stroke .p2)) = true := by decide +kernel

/-- JOINT_BROKEN takes the top rod to CENTRE and passes the centre from WRENCH to LOADER before TONGS (4.5). -/
theorem test_joint_broken :
    after (exec (.jointBroken (say 7 2 0)) { doing { op .breakOut .awaitBreak (some (.carousel 11)) with rod := some 5 }
        (still rig) with
      arbiter := ⟨.wrench, false, false, true⟩, depth := { rig.depth with coupled := false } }) (fun t =>
      ((t.rod? 5).map Rod.place) == some .centre && t.roster.stringLen == 1060
        && t.arbiter == ⟨.loader, false, false, true⟩
        && (t.engine.op.map Operation.step) == some .awaitTag) = true := by decide +kernel

/-- STOWED puts the rod in the reserved slot, ends the operation and passes the centre to TONGS (4.5). -/
theorem test_stowed :
    after (exec (.stowed (say 5 3 0)) { doing { op .breakOut .awaitStow (some (.carousel 5)) with rod := some 8 }
        (rig.placeRod 8 .centre) with
      arbiter := ⟨.loader, false, false, true⟩, depth := { rig.depth with coupled := false } }) (fun t =>
      ((t.rod? 8).map Rod.place) == some (.carousel 5) && t.engine.op.isNone
        && t.arbiter == ⟨.tongs, false, false, false⟩) = true := by decide +kernel

/-- ROD_WORN at the 400th make-up (3.7). -/
theorem test_rod_worn :
    after (exec (.torqueMade (say 6 1 0)) (doing (op .makeUp .awaitTorque none)
        (rig.setRod 8 (rod 70033 612 .centre 399 149980)))) (fun t =>
      ((t.rod? 8).map Rod.wear) == some .b
        && t.attn[AttnKind.rodWorn.ix].detail == some (.worn (.rod 8 1) .b)) = true := by decide +kernel

/-- DECLARE_STRING_LOST: two rods and the BHA, the tally, the lines and the lengths (3.7). -/
theorem test_string_lost :
    after (exec (.declareStringLost (ask 42 1 [])) (still rig)) (fun t =>
      t.link.buffer == some ⟨.ok, [2, 1]⟩ && t.roster.lost == 2 && t.roster.stringLen == 0
        && (t.rod? 4).isNone && t.roster.slots[4].gen == 2
        && (t.activeJob?.map fun j => (j.sheet[36].unsettled, j.sheet[39].unsettled, j.bitDepth, j.holeDepth))
          == some (2, 1, 0, 1500)) = true := by decide +kernel

/-- DECLARE_STRING_LOST in SETUP changes the ACTIVE job's BHA record and sets the geometry mark (R5). -/
theorem test_string_lost_in_setup :
    after (exec (.declareStringLost (ask 42 1 [])) (inMode .setup (still rig))) (fun t =>
      t.mode.mode == .setup && t.mode.geometryMark
        && (t.activeJob?.map fun j => j.bha.place) == some .lost) = true := by decide +kernel

/-- The worked lag case: 1,370,494 mL at 4,500 cm, 157 strokes of P1, three pieces (7.7). -/
theorem test_worked_lag :
    rig.lag job418 4500 = 1370494 ∧ strokesToSurface 8740 1370494 = 157
      ∧ (rig.pieces job418 4500).map Piece.term = [533124, 717687, 59683] := by decide +kernel

/-- READ_LAG answers with the lag, the BHA top and the number of pieces (7.7). -/
theorem test_read_lag :
    after (exec (.readLag (ask 96 3 [h418, 0, 4500, 1])) rig) (fun t =>
      (t.link.buffer.map fun b => b.payload.take 9)
        == some [w 20, w 59774, 0, 4050, 0, w 60000, 0, w 31400, 3]) = true := by decide +kernel

/-- Hole-fill across a section top: 1,230,675 (7.8). -/
theorem test_hole_fill : holeFill job418.sections 1185 1215 = 1230675 := by decide +kernel

/-- A casing bore entered: the casing piece falls to 398,040 mL (7.9). -/
theorem test_casing_bore :
    rig.lag { job418 with sections := [⟨0, 224⟩, ⟨1200, 200⟩] } 4500 = 1235410
      ∧ rig.lag { job418 with sections := [⟨0, 224⟩, ⟨1200, 200⟩] } 4550 = 1248001 := by decide +kernel

/-- A start to a target of 60, and the redirect that keeps the ramp count (5.7). -/
theorem test_pump_start_and_redirect :
    after (exec (.setPumpRate (ask 67 2 [1, 60])) (still rig)) (fun t =>
      t.link.buffer == some ⟨.ok, [60, 120]⟩ && t.pumps.circ == .running && t.pumps.p1.rampTimer == some 5
        && t.pumps.p1.setpoint == 0) = true
      ∧ after (exec (.setPumpRate (ask 67 2 [1, 12])) { rig with
          pumps := { rig.pumps with p1 := { rig.pumps.p1 with setpoint := 20, rampTimer := some 3 } } }) (fun t =>
        t.pumps.p1.target == 12 && t.pumps.p1.setpoint == 20 && t.pumps.p1.rampTimer == some 3) = true := by
  decide +kernel

/-- The last ramp expiry, 3 spm to go (5.7). -/
theorem test_last_ramp :
    after (exec (.rampExpiry .p1) { rig with
        pumps := { rig.pumps with p1 := { rig.pumps.p1 with target := 12, setpoint := 15, rampTimer := some 1 } } })
      (fun t => t.pumps.p1.setpoint == 12 && t.pumps.p1.rampTimer == none) = true := by decide +kernel

/-- STOP_CIRCULATION is PENDING, the ramp and the still timer start (5.7). -/
theorem test_stop_circulation :
    after (exec (.stopCirculation (ask 68 3 [])) rig) (fun t =>
      t.link.buffer == some ⟨.pending, []⟩ && t.pumps.circ == .stopping && t.pumps.still == some 10
        && t.pumps.p1.target == 0 && t.pumps.p1.rampTimer == some 5) = true := by decide +kernel

/-- A still expiry with P1 at 2 spm restarts the still timer (5.7). -/
theorem test_still_expiry_with_a_setpoint :
    after (exec .stillExpiry { rig with
        pumps := { rig.pumps with circ := .stopping, still := some 1, p1 := { rig.pumps.p1 with setpoint := 2 } } })
      (fun t => t.pumps.circ == .stopping && t.pumps.still == some 10) = true := by decide +kernel

/-- LOW_SUCTION brings P1 from 80 and P2 from 45 to 20 at once and stops both ramps (5.8). -/
theorem test_low_suction :
    (({ rig.pumps with
        p1 := { rig.pumps.p1 with target := 80, setpoint := 80 }
        p2 := { rig.pumps.p2 with target := 60, setpoint := 45, rampTimer := some 2 } } : PumpCtl).rework .low)
      = { rig.pumps with
          p1 := { rig.pumps.p1 with target := 20, setpoint := 20, inForce := 20 }
          p2 := { rig.pumps.p2 with target := 20, setpoint := 20, inForce := 20 } } := by decide +kernel

/-- The first balance reading: SEEPAGE, 156 L of lost mud, 52 mL kept, 80 left in the accumulator (6.6). -/
theorem test_balance_seepage :
    after (exec .balanceExpiry { rig with
        tanks := { rig.tanks with
          a := { rig.tanks.a with mlPerMm := 12000, level := 1525 }, reference := some 18000000
          additions := 500000, fill := 4394880 } }) (fun t =>
      t.tanks.lossClass == .seepage && t.tanks.remainder == 52 && t.tanks.fill == 80
        && t.tanks.reference == some 18300000 && t.tanks.additions == 0 && t.tanks.elapsed == 0
        && (t.activeJob?.map fun j => j.sheet[34].unsettled) == some 156
        && t.attn[AttnKind.lossClass.ix].detail == some (.loss .seepage (some 1500))) = true := by decide +kernel

/-- The second: GAIN, a yield of 88 L/min in the interval at the bit (6.6). -/
theorem test_balance_gain :
    after (exec .balanceExpiry { rig with
        tanks := { rig.tanks with
          a := { rig.tanks.a with mlPerMm := 12000, level := 1560 }, reference := some 18300000
          lossClass := .seepage, fill := 2014400, remainder := 52 } }) (fun t =>
      t.tanks.lossClass == .gain && t.tanks.remainder == 52 && t.tanks.fill == 0
        && (t.activeJob?.bind fun j => j.column.getLast?.map fun iv => (iv.water, iv.yield)) == some (true, some 88))
      = true := by decide +kernel

/-- The second NO_FLOW brings TOTAL: the list wiped, the interval at the bit marked (6.6, 8.7). -/
theorem test_no_flow_brings_total :
    after (exec (.flow (say 15 5 2)) { rig with
        tanks := { rig.tanks with lossClass := .gain, flowAccepted := some .flow, flowLast := some .noFlow }
        transit := { rig.transit with parcels := [⟨93, 1400, 1450, 9000, 10, false, false⟩], formingTop := some 1450 } })
      (fun t => t.tanks.lossClass == .total && t.transit.parcels == []
        && (t.activeJob?.map fun j => j.column.map fun iv => (iv.top, iv.status, iv.lossZone))
          == some [(0, .pending, false), (1400, .noReturns, false), (1450, .pending, true)]) = true := by
  decide +kernel

/-- A draw into tank B restarts its mix hold (6.7); a draw beyond the stock leaves a shortfall (6.8). -/
theorem test_draw_beyond_stock :
    after (exec (.drawAdditive (ask 92 3 [hBent, 15, 1])) rig) (fun t =>
      ((t.additive? 2).map fun x => (x.onHand, x.received, x.drawn, x.shortfall)) == some (0, 40, 43, 3)
        && (t.activeJob?.map fun j => j.sheet[20].unsettled) == some 15
        && t.attn[AttnKind.inventoryShort.ix].detail == some (.short (.additive 2 2) 3)) = true
      ∧ after (exec (.drawAdditive (ask 92 3 [hBent, 6, 2])) rig) (fun t =>
        t.tanks.standby == .mixing && t.tanks.mixCount == some 10) = true := by decide +kernel

/-- The mix hold ends with tank A at its low mark: B comes READY and the tanks swap (6.7). -/
theorem test_mix_hold_ends_in_a_swap :
    after (exec .mixHoldExpiry { rig with
        tanks := { rig.tanks with
          a := { rig.tanks.a with capacity := 36000, mlPerMm := 12000, level := 658, low := 8000, empty := 3000 }
          b := { rig.tanks.b with capacity := 36000, mlPerMm := 12000, level := 1850, low := 8000, empty := 3000 }
          standby := .mixing, mixCount := some 1, condition := .low, reference := some 7896000 } }) (fun t =>
      t.tanks.active == .b && t.tanks.standby == .filling && t.tanks.mixCount == some 10
        && t.tanks.condition == .normal && t.tanks.reference == some 22200000
        && t.attn[AttnKind.tankSwapped.ix].detail == some (.swapped .b .automatic)) = true := by decide +kernel

/-- A parcel at the shaker, of the fifty centimetres that its ordinal counts from 88. -/
def shaken (ordinal : Nat) : Parcel :=
  { ordinal := ordinal, top := (ordinal - 88) * 50, bottom := (ordinal - 87) * 50, lag := 1, advanced := 1
    arrived := true, merged := false }

/-- The stroke that brings a fifth parcel to the shaker drops the oldest (8.6). -/
theorem test_fifth_arrival_drops_the_oldest :
    after (exec (.strokePulse .p1) { rig with
        transit := { rig.transit with
          parcels := [shaken 88, shaken 89, shaken 90, shaken 91,
            ⟨92, 200, 250, 1357903, 1354700, false, false⟩, ⟨93, 250, 300, 1370494, 26220, false, false⟩] } })
      (fun t => t.transit.parcels.map (fun p => (p.ordinal, p.arrived, p.advanced))
          == [(89, true, 1), (90, true, 1), (91, true, 1), (92, true, 1363440), (93, false, 34960)]
        && t.attn[AttnKind.sampleDropped.ix].detail == some (.dropped 88 0 50)
        && t.attn[AttnKind.parcelArrived.ix].detail == some (.arrived 92 200 250 false)) = true := by decide +kernel

/-- FREE from HEAD gives birth to the forming parcel of 15 cm (8.6: lag 1,374,271 at 4,515 cm). -/
theorem test_free_gives_birth :
    after (exec (.free (say 12 1 0)) { withJob418 (fun j => { j with holeDepth := 4515, bitDepth := 4515 }) rig with
        transit := { rig.transit with formingTop := some 4500, births := 93 } }) (fun t =>
      t.transit.parcels == [⟨94, 4500, 4515, 1374271, 0, false, false⟩] && t.transit.formingTop == some 4515)
      = true := by decide +kernel

/-- Sample 1 of the worked column: CLAY over [3,000, 3,050), the minutes shared 5 and 35 (9.7). -/
theorem test_sample_splits_minutes :
    ((({ withJob418 (fun j => { j with holeDepth := 3600, column := [bed 3000 3400 7 .loose 40, bed 3400 3600 21 .hard 30] })
        rig with lith := rig.lith.set 3 ⟨blankName, .soft⟩ } : State).bindRange 2 (.sample 3 none) 3000 3050).bind
        fun t => (t.job? 2).map fun j => j.column.map fun iv => (iv.top, iv.bottom, iv.lith, iv.minutes, iv.status))
      = some [(3000, 3050, 3, 5, .sampled), (3050, 3400, 7, 35, .pending), (3400, 3600, 21, 30, .pending)] := by
  decide +kernel

/-- A revision that touches the upper of two identical intervals, the deeper without thickness, sets and joins both
(R145, R146). -/
theorem test_revision_joins_the_bed_below :
    (((withJob418 (fun j => { j with column := [bed 0 1200 7 .loose 40, bed 1200 1500 3 .soft 5, bed 1500 1500 3 .soft 2] })
        rig).bindRange 2 (.revise 9) 1200 1500).bind
        fun t => (t.job? 2).map fun j => j.column.map fun iv => (iv.top, iv.bottom, iv.lith, iv.minutes, iv.source))
      = some [(0, 1200, 7, 40, .driller), (1200, 1500, 9, 7, .revised)] := by decide +kernel

/-- A formation change on a deepest interval with thickness opens one without (9.7). -/
theorem test_formation_change :
    after (exec (.formationChange (ask 130 2 [21])) rig) (fun t =>
      (t.activeJob?.map fun j => (j.declared, j.column.map fun iv => (iv.top, iv.bottom, iv.lith)))
        == some (21, [(0, 1500, 0), (1500, 1500, 21)])) = true := by decide +kernel

/-- The worked amounts (10.7). -/
theorem test_worked_amounts :
    lineAmount 10 4850 1237 = 59995 ∧ lineAmount 12 21000 143 = 50050 ∧ lineAmount 13 9000 37 = 5550
      ∧ lineAmount 34 85000 156 = 13260 ∧ lineAmount 20 2750 43 = 118250 ∧ lineAmount 36 185000 3 = 555000
      ∧ lineAmount 3 3200 (-150) = -4800 ∧ lineAmount 20 60000 40000 = 2147483647 := by decide +kernel

/-- The second settlement of class 2: 300 settled, −250 unsettled at 1,600 leave 50 settled and 800 cents (10.9). -/
theorem test_second_settlement :
    after (exec (.settle (ask 146 0 [h418])) (withJob418
        (fun j => { j with sheet := (Vector.replicate 40 ⟨0, 0, 0⟩).set 3 ⟨300, -250, 4800⟩ }) rig)) (fun t =>
      (t.activeJob?.map fun j => (j.sheet[3], j.settleMark)) == some (⟨50, 0, 800⟩, 1500)) = true := by decide +kernel

/-- A minute with the drilling mark set is DRILLING, and credits the deepest interval (10.8). -/
theorem test_drilling_minute :
    (fun t : State => (t.activeJob?.map fun j => (j.sheet[12].unsettled, j.column.map Interval.minutes)) == some (1, [10])
      && t.drilling == false) ({ rig with drilling := true } : State).sheetMinute = true := by decide +kernel

/-- A stroke wakes the rig from STANDBY with the window at its length, and a level 3 SET_PUMP_RATE is refused
LEVEL and leaves it WAKING (1.6). -/
theorem test_wake_and_refusal :
    after (exec (.strokePulse .p1) (inMode .standby (still rig))) (fun t =>
      t.mode.mode == .waking && t.mode.window == some ⟨10, .stroke .p1⟩
        && after (exec (.setPumpRate (ask 67 3 [1, 60])) t) fun u =>
          u.link.buffer == some ⟨.level, []⟩ && u.mode == t.mode) = true := by decide +kernel

/-- The minute expiry that takes the window count to 0 returns to STANDBY with UNEXPLAINED_WAKE (1.6). -/
theorem test_unexplained_wake :
    (fun t : State => t.mode.mode == .standby && t.mode.window == none
        && t.attn[AttnKind.unexplainedWake.ix].detail == some (.wake (.stroke .p1)))
      ({ rig with mode := { rig.mode with mode := .waking, window := some ⟨1, .stroke .p1⟩ } } : State).windowMinute
      = true := by decide +kernel

/-! ### States and operands that meet the statements' hypotheses

Each theorem `test_meets_<statement>` shows, clause by clause, a state and operands that meet the clause's
hypotheses together, at a boundary of its ranges where it has one. -/

/-- A fact of an absent or present record, read off its test. -/
theorem of_all {α : Type} {o : Option α} {p : α → Bool} (h : o.all p = true) {x : α} (hx : o = some x) : p x = true := by
  subst hx; exact h

theorem test_meets_StepTakesTheFrontCommand :
    State.reset.pending = []
      ∧ after (step { rig with pending := [.strokePulse .p2, .powerUp] }) (fun t => t.pending == [.powerUp]) = true := by
  decide +kernel

theorem test_meets_CommandsTouchOnlyTheirOwnParts :
    (∃ t, exec (.height (say 13 1 140)) rig = .next t)
      ∧ ∃ t, (inMode .waking rig).mode.mode = .waking ∧ exec (.setClock (ask 4 0 [0, 0])) (inMode .waking rig) = .next t := by
  refine ⟨runs (by decide +kernel), ?_⟩
  · obtain ⟨t, h⟩ := runs (o := exec (.setClock (ask 4 0 [0, 0])) (inMode .waking rig)) (by decide +kernel)
    exact ⟨t, rfl, h⟩

theorem test_meets_EveryCommandCompletes :
    (judgeFrame ⟨[0x01C0, crc [0x01C0]], []⟩ = .ok [] ∧ spellsNoRequest ⟨[0x01C0, crc [0x01C0]], []⟩ = false)
      ∧ judgeMessage (messageBytes 15 (say 15 5 1)) = none ∧ kindNamed (messageBytes 15 (say 15 5 1)) = true
      ∧ judgeMessage (messageBytes 1 (say 1 1 0)) = none ∧ kindNamed (messageBytes 1 (say 1 1 0)) = true := by
  decide +kernel

theorem test_meets_FramesSpellCommands :
    (Instr.setRateBands (ask 23 0 [h418, 0, 0, 1, 0, 2])).wellFormed = true
      ∧ requestCode (.setRateBands (ask 23 0 [h418, 0, 0, 1, 0, 2])) = some (23, ask 23 0 [h418, 0, 0, 1, 0, 2])
      ∧ (Instr.discardedFrame ⟨[0xFFC0], List.replicate 15 true⟩).wellFormed = true
      ∧ (List.replicate 15 true).length < 16 := by decide +kernel

theorem test_meets_MessagesSpellCommands :
    (Instr.flow (say 15 5 1)).wellFormed = true ∧ messageKind (.flow (say 15 5 1)) = some (15, say 15 5 1) := by
  decide +kernel

theorem test_meets_CrcGuardsFrames : 15 < 16 ∧ (List.replicate 63 (0 : Word)).length < 64 := by decide

theorem test_meets_BadFramesAreLinkErrors :
    requestCode (.readMode (ask 1 3 [])) = some (1, ask 1 3 [])
      ∧ ({ ask 1 3 [] with words := [] } : Request).words.length < (ask 1 3 []).count.toNat + 1
      ∧ (ask 1 3 []).tail = [] ∧ (ask 1 3 []).count.toNat + 1 < (ask 1 3 [0]).words.length
      ∧ (0 : Word) ≠ crc [header 1 3 0]
      ∧ frameBits ⟨[], []⟩ = 0 ∧ frameBits ⟨[], [true]⟩ ≠ 0 ∧ judgeFrame ⟨[], [true]⟩ = .error .linkShort
      ∧ spellsNoRequest ⟨[0xFFC0, crc [0xFFC0]], []⟩ = true
      ∧ judgeFrame ⟨[0xFFC0, crc [0xFFC0]], []⟩ = .ok [] := by decide +kernel

theorem test_meets_BadMessagesAreDiscarded :
    messageKind (.tag ⟨3, 0, 0⟩) = some (4, ⟨3, 0, 0⟩)
      ∧ (messageBytes 4 ⟨3, 0, 0⟩).foldl (fun a b => a + b.toNat) 0 % 256 ≠ 0
      ∧ (messageBytes 4 (say 4 6 0)).foldl (fun a b => a + b.toNat) 0 % 256 = 0 ∧ 5 < (say 4 6 0).address.toNat
      ∧ [(1 : Byte)].length ≠ 7
      ∧ ([1, 4, 0, 0, 0, 0, 0] : List Byte).foldl (fun a b => a + b.toNat) 0 % 256 ≠ 0
      ∧ ([0, 4, 0, 0, 0, 0, 252] : List Byte).foldl (fun a b => a + b.toNat) 0 % 256 = 0
      ∧ (messageBytes 16 (say 16 5 0)).foldl (fun a b => a + b.toNat) 0 % 256 = 0
      ∧ (messageBytes 0 (say 0 1 0)).foldl (fun a b => a + b.toNat) 0 % 256 = 0 := by decide +kernel

theorem test_meets_RefusedRequestsChangeNothing :
    ∃ t, requestCode (.setMode (ask 2 2 [4])) = some (2, ask 2 2 [4])
      ∧ judgeFrame (requestFrame 2 (ask 2 2 [4])) = .ok [4] ∧ exec (.setMode (ask 2 2 [4])) rig = .next t
      ∧ t.link.buffer = some ⟨.badField, []⟩ := by
  obtain ⟨t, h, hp⟩ := completes (o := exec (.setMode (ask 2 2 [4])) rig)
    (p := fun t => decide (t.link.buffer = some ⟨.badField, []⟩)) (by decide +kernel)
  exact ⟨t, by decide +kernel, by decide +kernel, h, of_decide_eq_true hp⟩

theorem test_meets_AdmissionFollowsTheCatalogue :
    (67, 2, ReqClass.operation) ∈ catalogue ∧ judgeFrame (requestFrame 67 (ask 67 3 [1, 60])) = .ok [1, 60]
      ∧ 2 < (ask 67 3 [1, 60]).level.toNat
      ∧ ({ ask 67 1 [1, 60] with keys := ⟨false, false⟩ } : Request).keys.supervisor = false
      ∧ ({ ask 67 1 [1, 60] with keys := ⟨false, true⟩ } : Request).keys.supervisor = true
      ∧ (inMode .standby rig).mode.mode ≠ .operate
      ∧ judgeFrame (requestFrame 67 (ask 67 2 [1, 60])) = .ok [1, 60] ∧ (inMode .waking rig).mode.mode = .waking
      ∧ answered (exec (.setPumpRate (ask 67 2 [1, 60])) (inMode .waking rig)) .ok [60, 120] = true
      ∧ answered (exec (.readCentre (ask 48 3 [])) (inMode .waking rig)) .ok [1, 0, 1] = true
      ∧ answered (exec (.setPumpRate (ask 67 2 [3, 60])) (inMode .waking rig)) .badField [] = true
      ∧ { (inMode .waking rig).mode with geometryMark := true }.geometryMark = true
      ∧ (inMode .waking rig).mode.geometryMark = false ∧ rig.mode.mode ≠ .waking := by
  and_intros <;> decide +kernel

theorem test_meets_NopLeavesTheBuffer :
    judgeFrame (requestFrame 0 (ask 0 3 [0])) = .ok [0]
      ∧ judgeFrame (requestFrame 0 { ask 0 3 [0] with words := [] }) = .error .linkShort := by decide +kernel

theorem test_meets_AttentionSetRule :
    (1 : Fin 22) ≠ AttnKind.powerUp.ix ∧ (∃ t, exec .powerUp rig = .next t)
      ∧ taken 5 0 .setup [] (inMode .setup (still rig)) ∧ (inMode .setup (still rig)).pumps.circ = .stopped
      ∧ (∃ t, exec (.initialise (ask 5 0 [])) (inMode .setup (still rig)) = .next t)
      ∧ ∃ t, exec (.linkReset [true]) rig = .next t := by
  exact ⟨by decide, runs (by decide +kernel), by decide +kernel, rfl, runs (by decide +kernel), ⟨_, rfl⟩⟩

theorem test_meets_InitialiseLeaves :
    (taken 5 0 .setup [] (inMode .setup rig) ∧ (inMode .setup rig).pumps.circ ≠ .stopped)
      ∧ (taken 5 0 .setup [] (inMode .setup (still rig)) ∧ (inMode .setup (still rig)).pumps.circ = .stopped) := by
  decide +kernel

theorem test_meets_ModeAndAttentionRequestsComplete :
    taken 1 3 .read [] rig
      ∧ (taken 3 1 .setup [1] (inMode .setup rig) ∧ taken 3 1 .setup [60] (inMode .setup rig) ∧ one 60 ≤ 60)
      ∧ (taken 3 1 .setup [0] (inMode .setup rig) ∧ taken 3 1 .setup [61] (inMode .setup rig) ∧ 60 < one 61)
      ∧ taken 4 0 .general [0xFFFF, 0xFFFF] rig
      ∧ (taken 160 3 .read [22] rig ∧ 1 ≤ one 22 ∧ one 22 ≤ 22)
      ∧ (taken 161 3 .general [63, 0xFFFF] rig ∧ two 63 0xFFFF < 4194304)
      ∧ (taken 162 2 .general [0, 0] rig ∧ two 0 0 < 4194304) := by
  and_intros <;> decide +kernel

theorem test_meets_SetModeRule :
    (taken 2 2 .mode [4] rig ∧ one 4 ≠ 1 ∧ one 4 ≠ 2 ∧ one 4 ≠ 3)
      ∧ (taken 2 2 .mode [2] rig ∧ one 2 = RigMode.operate.code ∧ rig.mode.mode = .operate)
      ∧ (taken 2 2 .mode [2] (inMode .setup rig) ∧ taken 2 2 .mode [3] (inMode .setup rig)
          ∧ one 3 = RigMode.standby.code)
      ∧ (taken 2 2 .mode [1] rig ∧ one 1 = RigMode.setup.code)
      ∧ (taken 2 2 .mode [2] (inMode .waking rig) ∧ taken 2 2 .mode [1] (inMode .standby rig)) := by decide +kernel

theorem test_meets_OnlyWakeEventsWake :
    (∃ t, exec (.strokePulse .p1) (inMode .standby rig) = .next t ∧ t.mode.mode = .waking)
      ∧ (∃ t, exec (.request (say 1 2 0)) (inMode .standby rig) = .next t) ∧ Delivered 1 .wrench (say 1 2 0)
      ∧ (∃ t, exec (.height (say 13 1 169)) (inMode .standby rig) = .next t) ∧ Delivered 13 .head (say 13 1 169)
      ∧ rig.clampHeight (say 13 1 169).value.toInt ≠ rig.depth.lastHeight ∧ rig.mode.mode ≠ .standby := by
  refine ⟨?_, runs (by decide +kernel), ?_, runs (by decide +kernel), ?_, ?_, ?_⟩ <;> try decide +kernel
  · obtain ⟨t, h, hp⟩ := completes (o := exec (.strokePulse .p1) (inMode .standby rig))
      (p := fun t => decide (t.mode.mode = .waking)) (by decide +kernel)
    exact ⟨t, h, of_decide_eq_true hp⟩

theorem test_meets_JobLifecycleCompletes :
    (taken 17 1 .general [w 65535, 1, w 34464, 100, 4, 0, 1, 0, 2, 50, 400, w 32767, w 65535] rig
        ∧ two 1 (w 34464) = 100000 ∧ one 4 = (3 : Fin 4).val + 1 ∧ two 0 1 < two 0 2
        ∧ two (w 32767) (w 65535) = 2147483647 ∧ rig.jobNumberHeld 65535 = false ∧ rig.freeJobSlot = some 0)
      ∧ (taken 18 2 .general [h418] (inPhase .opened rig)
        ∧ NamesJob h418 (inPhase .opened rig) 2
            { job418 with phase := .opened, bitDepth := 0, bha := { job418.bha with place := .stowed } }
        ∧ (inPhase .opened rig).active? = none)
      ∧ (taken 19 2 .general [h418] (noString (still rig))
        ∧ (∃ j, NamesJob h418 (noString (still rig)) 2 j ∧ j.phase = .active ∧ (noString (still rig)).stringEmpty j = true)
        ∧ (noString (still rig)).engine.op = none ∧ (noString (still rig)).pumps.circ = .stopped)
      ∧ (taken 20 0 .general [h418] (inPhase .suspended rig) ∧ ∃ j, NamesJob h418 (inPhase .suspended rig) 2 j
          ∧ j.phase = .suspended)
      ∧ (taken 20 0 .general [h418] (noString (still rig)))
      ∧ (taken 21 0 .general [h418] (inPhase .closed rig) ∧ ∃ j, NamesJob h418 (inPhase .closed rig) 2 j
          ∧ j.phase = .closed) := by
  and_intros
  all_goals first
    | decide +kernel
    | exact ⟨_, ⟨by decide +kernel, rfl, rfl⟩, rfl⟩
    | exact ⟨_, ⟨by decide +kernel, rfl, rfl⟩, rfl, by decide +kernel⟩

theorem test_meets_JobEditsComplete :
    NamesJob h418 rig 2 job418 ∧ taken 16 3 .read [h418] rig
      ∧ (taken 22 1 .general [h418, w 2000, 60, 0, 0] (inMode .setup (noString rig))
        ∧ ∃ j, NamesJob h418 (inMode .setup (noString rig)) 2 j ∧ j.phase = .active ∧ j.bha.place ≠ .inString)
      ∧ (taken 23 0 .general [h418, 12, 0, 1] (inPhase .opened rig) ∧ one 12 = (11 : Fin 12).val + 1
        ∧ taken 23 0 .general [h418, 17, 0, 1] (inPhase .opened rig) ∧ one 17 = (4 : Fin 5).val + 13
        ∧ taken 23 0 .general [h418, 35, 0, 1] (inPhase .opened rig)
        ∧ taken 23 0 .general [h418, 0, 0, 1, 1, w 34464] (inPhase .opened rig)
        ∧ ∃ j, NamesJob h418 (inPhase .opened rig) 2 j ∧ j.phase = .opened)
      ∧ (taken 24 1 .general [h418, 1, w 34464, 900] (inMode .setup rig) ∧ job418.sections.length < 8
        ∧ taken 25 1 .general [h418, 0, 1200] (inMode .setup rig) ∧ (∃ e ∈ job418.sections, e.top = two 0 1200)
        ∧ NamesJob h418 (inMode .setup rig) 2 job418)
      ∧ taken 26 2 .general [h418] rig ∧ taken 27 2 .general [h418] rig ∧ job418.phase ≠ .closed := by
  and_intros
  all_goals first
    | decide +kernel
    | exact ⟨_, ⟨by decide +kernel, rfl, rfl⟩, rfl⟩
    | exact ⟨_, ⟨by decide +kernel, rfl, rfl⟩, rfl, by decide +kernel⟩

theorem test_meets_HandleRule :
    ((131, 2, ReqClass.general) ∈ catalogue ∧ taken 131 2 .general [w (144 * 256), 0, 0, 0, 1, 0] rig
        ∧ taken 131 2 .general [w (149 * 256)] rig ∧ slotCode (w (144 * 256)) < 145 ∧ 148 < slotCode (w (149 * 256))
        ∧ taken 131 2 .general [w (148 * 256 + 1)] rig ∧ slotCode (w (148 * 256 + 1)) = (3 : Fin 4).val + 145
        ∧ rig.jobs[3].job = none
        ∧ taken 131 2 .general [w (147 * 256 + 8)] rig ∧ rig.jobs[2].job ≠ none
        ∧ rig.jobs[2].gen ≠ genOf (w (147 * 256 + 8)) ∧ genOf (w (147 * 256)) = 0)
      ∧ ((39, 3, ReqClass.read) ∈ catalogue ∧ taken 39 3 .read [0] rig ∧ taken 39 3 .read [w (129 * 256)] rig
        ∧ taken 39 3 .read [w (128 * 256)] rig ∧ slotCode (w (128 * 256)) = (127 : Fin 128).val + 1
        ∧ rig.roster.slots[127].rod = none ∧ taken 39 3 .read [w (9 * 256)] rig ∧ rig.roster.slots[8].rod ≠ none)
      ∧ ((93, 1, ReqClass.general) ∈ catalogue ∧ taken 93 1 .general [w (128 * 256)] rig
        ∧ taken 93 1 .general [w (144 * 256)] rig ∧ rig.tanks.additives[15].item = none
        ∧ taken 93 1 .general [w (131 * 256 + 1)] rig ∧ rig.tanks.additives[2].item ≠ none) := by
  and_intros <;> decide +kernel

theorem test_meets_RosterEditsComplete :
    (taken 33 1 .setup [4, 100, 200, 1, 2, 3, 0, 1, 0, 2, 0, 3, w 32767, w 65535] (inMode .setup rig)
        ∧ one 4 = (3 : Fin 4).val + 1)
      ∧ (taken 34 2 .general [0, 1, 1, 0, 1, 0, 40] rig ∧ rackPlaceOf 1 0 40 = some (.carousel 39)
        ∧ rig.tagHeld (two 0 1) = false ∧ rig.emptyRodSlot = some 0 ∧ rig.rackFree (.carousel 39) = true)
      ∧ (taken 35 1 .general [hRod9, 0, 0, 1000] rig ∧ NamesRod hRod9 rig 8 (rod 70033 605 (.carousel 11) 57 0)
        ∧ (rod 70033 605 (.carousel 11) 57 0).awayFromRacks = false ∧ rig.opRod ≠ some 8)
      ∧ (taken 36 3 .general [hRod9, 1, 0, 12] rig ∧ rackPlaceOf 1 0 12 = some (.carousel 11)
        ∧ taken 36 3 .general [hRod9, 2, 0, 0] rig ∧ rackPlaceOf 2 0 0 = some .truck ∧ rig.rackFree .truck = true
        ∧ taken 36 3 .general [hRod9, 1, 0, 1] (rig.setRod 9 (rod 5 600 (.carousel 0) 0 0))
        ∧ (rig.setRod 9 (rod 5 600 (.carousel 0) 0 0)).rackFree (.carousel 0) = false)
      ∧ (taken 37 2 .general [hRod9, 1] rig ∧ taken 37 2 .general [hRod9, 2] rig
        ∧ taken 37 2 .general [hRod9, 3] rig) := by
  and_intros <;> decide +kernel

theorem test_meets_RosterReadsComplete :
    (taken 32 3 .read [4] rig ∧ one 4 = (3 : Fin 4).val + 1)
      ∧ (taken 38 3 .read [1, 4497] rig ∧ two 1 4497 = 70033
        ∧ (rig.findRod fun y => y.tag == two 1 4497) = some 8 ∧ rig.rod? 8 = some (rod 70033 605 (.carousel 11) 57 0))
      ∧ (taken 39 3 .read [hRod9] rig ∧ NamesRod hRod9 rig 8 (rod 70033 605 (.carousel 11) 57 0))
      ∧ (taken 40 3 .read [0, 1] rig ∧ taken 40 3 .read [1, w 34464] rig) ∧ taken 41 3 .read [] rig
      ∧ (taken 42 1 .general [] (still rig) ∧ ActiveIs (still rig) 2 job418 ∧ (still rig).engine.op = none
        ∧ (still rig).pumps.circ = .stopped ∧ (still rig).stringEmpty job418 = false
        ∧ (still rig).roster.lost ≤ 65535 ∧ (39 : Fin 40).val - 1 = (3 : Fin 4).val + 35
        ∧ -2147483647 ≤ job418.sheet[38].unsettled ∧ job418.sheet[38].unsettled ≤ 2147483647
        ∧ 4 ∈ (still rig).stringRods ∧ 8 ∉ (still rig).stringRods) := by
  and_intros <;> decide +kernel

/-- The rods of the rig. -/
theorem rig_rods {i : Fin 128} {x : Rod} (h : rig.rod? i = some x) :
    (i, x) ∈ [(4, rod 70020 610 (.string 1) 3 0), (5, rod 70021 608 (.string 2) 3 0),
      (8, rod 70033 605 (.carousel 11) 57 0)] := by
  have all : ∀ i : Fin 128, (rig.rod? i).all (fun x => decide ((i, x) ∈ [(4, rod 70020 610 (.string 1) 3 0),
      (5, rod 70021 608 (.string 2) 3 0), (8, rod 70033 605 (.carousel 11) 57 0)])) = true := by decide +kernel
  exact of_decide_eq_true (of_all (all i) h)

theorem test_meets_RecordsInvariant : rig.TagsOk ∧ rig.RacksOk ∧ ∃ t, step rig = .next t := by
  have tags : ∀ p ∈ [((4 : Fin 128), rod 70020 610 (.string 1) 3 0), (5, rod 70021 608 (.string 2) 3 0),
      (8, rod 70033 605 (.carousel 11) 57 0)], ∀ q ∈ [((4 : Fin 128), rod 70020 610 (.string 1) 3 0),
      (5, rod 70021 608 (.string 2) 3 0), (8, rod 70033 605 (.carousel 11) 57 0)],
      (p.2.tag = q.2.tag → p.1 = q.1) ∧ (p.2.place = q.2.place → p.1 = q.1) := by decide +kernel
  refine ⟨fun i k x y hx hy => (tags _ (rig_rods hx) _ (rig_rods hy)).1,
    ⟨fun i k x y slot hx hy hp hq => (tags _ (rig_rods hx) _ (rig_rods hy)).2 (hp.trans hq.symm), ?_⟩, rig, rfl⟩
  intro i x slot _ hr
  exact absurd hr (by simp [State.reserved, rig, State.reset])

theorem test_meets_CentreRequestsComplete :
    (ActiveIs rig 2 job418 ∧ rig.engine.op = none ∧ job418.bha.place = .inString)
      ∧ (taken 50 2 .operation [1, 0, 12] rig ∧ opSourceOf 1 0 12 = some (.carousel 11) ∧ rig.rodAtCentre = none
        ∧ rig.rodAtSource (.carousel 11) = some 8 ∧ rig.roster.stringLen + 605 ≤ 100000)
      ∧ (taken 50 2 .operation [3, 0, 0] (rig.placeRod 8 .centre) ∧ opSourceOf 3 0 0 = some .centre
        ∧ (rig.placeRod 8 .centre).rodAtSource .centre = some 8)
      ∧ (taken 51 2 .operation [2, 0, 0] (still rig) ∧ rackPlaceOf 2 0 0 = some .truck
        ∧ (still rig).rodAtPosition (still rig).stringCount = some 5 ∧ (still rig).rodAtCentre = none
        ∧ (still rig).rackFree .truck = true)
      ∧ (taken 52 2 .operation [1, 0, 1] (rig.placeRod 8 .centre)
        ∧ (rig.placeRod 8 .centre).rodAtCentre = some 8 ∧ (rig.placeRod 8 .centre).rackFree (.carousel 0) = true)
      ∧ (taken 53 2 .operation [] (noString rig)
        ∧ ActiveIs (noString rig) 2 { job418 with bha := { job418.bha with place := .stowed } }
        ∧ (noString rig).rodAtCentre = none)
      ∧ (taken 54 2 .operation [] (still ((rig.removeRod 4).removeRod 5))
        ∧ ActiveIs (still ((rig.removeRod 4).removeRod 5)) 2 job418
        ∧ (still ((rig.removeRod 4).removeRod 5)).stringCount = 0)
      ∧ taken 48 3 .read [] rig ∧ taken 49 3 .read [] rig ∧ rig.engine.op = none
      ∧ (doing (op .stow .awaitTag (some .truck)) rig).engine.op = some (op .stow .awaitTag (some .truck))
      ∧ (taken 55 2 .general [] (doing (op .stow .awaitTag (some .truck)) (heldBy .loader rig))
        ∧ (op .stow .awaitTag (some .truck)).step.holds = some .loader)
      ∧ (taken 55 2 .general [] (doing (op .makeUp .awaitLoader none) rig)
        ∧ (op .makeUp .awaitLoader none).step.awaits = some .loader)
      ∧ (op .makeUp .awaitTorque none).step.awaits = none ∧ (op .makeUp .awaitTorque none).step.holds = none
      ∧ taken 56 3 .read [] rig ∧ taken 57 1 .setup [100, 5] (inMode .setup rig)
      ∧ taken 57 1 .setup [3000, 100] (inMode .setup rig) := by
  and_intros <;> decide +kernel

theorem test_meets_EngineReportsComplete :
    (Delivered 3 .loader (say 3 3 0) ∧ (op .makeUp .awaitPresent none).step = .awaitPresent)
      ∧ (Delivered 4 .loader (say 4 3 70033) ∧ (say 4 3 70033).value.toNat = 70033
        ∧ (op .makeUp .awaitTag none).rod = some 8 ∧ (op .makeUp .awaitTag none).expected = some 70033
        ∧ (op .makeUp .awaitTag none).source = some (.carousel 11) ∧ Delivered 4 .loader (say 4 3 0xFFFFFFFF)
        ∧ (70033 : Nat) ≠ (say 4 3 0xFFFFFFFF).value.toNat)
      ∧ (Delivered 5 .loader (say 5 3 0) ∧ (op .stow .awaitStow (some .truck)).dest = some .truck)
      ∧ (Delivered 6 .head (say 6 1 0) ∧ rig.arbiter.holder = .head)
      ∧ (Delivered 7 .wrench (say 7 2 0) ∧ (op .breakOut .awaitBreak (some .truck)).step = .awaitBreak)
      ∧ (Delivered 8 .tongs (say 8 4 0) ∧ (op .runBha .awaitSet none).step = .awaitSet)
      ∧ (Delivered 9 .tongs (say 9 4 0) ∧ ActiveIs rig 2 job418)
      ∧ (Delivered 10 .head (say 10 1 7) ∧ Station.head ∈ (op .breakOut .awaitBreak none).kind.stations)
      ∧ rig.rod? 8 = some (rod 70033 605 (.carousel 11) 57 0)
      ∧ rig.engine.op = none ∧ Delivered 3 .tongs (say 3 4 0) ∧ Delivered 4 .wrench (say 4 2 0)
      ∧ Delivered 5 .loader (say 5 3 0) ∧ Delivered 6 .head (say 6 1 0) ∧ (heldBy .tongs rig).arbiter.holder ≠ .head
      ∧ Delivered 7 .wrench (say 7 2 0) ∧ Delivered 8 .tongs (say 8 4 0) ∧ Delivered 9 .tongs (say 9 4 0)
      ∧ Delivered 10 .gauge (say 10 5 0) ∧ Station.gauge ∉ OpKind.makeUp.stations := by
  and_intros <;> decide +kernel

theorem test_meets_TagRegisterRule :
    (Delivered 4 .loader (say 4 3 0) ∧ (say 4 3 0).value.toNat = 0)
      ∧ (Delivered 4 .loader (say 4 3 1) ∧ (say 4 3 1).value.toNat ≠ 0
        ∧ (op .makeUp .awaitTag none).tagReg ≠ some (say 4 3 1).value.toNat)
      ∧ (Delivered 4 .head (say 4 1 1) ∧ (op .makeUp .awaitTorque none).step ≠ .awaitTag)
      ∧ after (exec (.presented (say 3 3 0)) (doing { op .makeUp .awaitPresent none with tagReg := some 5 } rig))
        (fun t => decide ((t.engine.op.map Operation.step) = some .awaitTag)) = true := by decide +kernel

theorem test_meets_RequestAndReleaseComplete :
    (Delivered 1 .gauge (say 1 5 0) ∧ Delivered 1 .head (say 1 1 0) ∧ Delivered 1 .wrench (say 1 2 0)
        ∧ rig.arbiter.holder ≠ .wrench ∧ rig.arbiter.has .wrench = false)
      ∧ (Delivered 2 .gauge (say 2 5 0) ∧ Delivered 2 .head (say 2 1 0) ∧ Delivered 2 .loader (say 2 3 0)
        ∧ (heldBy .loader rig).arbiter.holder = .loader ∧ (op .stow .awaitTag none).step.holds = some .loader
        ∧ { rig.arbiter with loader := true }.has .loader = true
        ∧ (op .makeUp .awaitLoader none).step.awaits = some .loader) := by decide +kernel

/-- The rig at rest with the head FREE and every station asking. -/
def asked : State :=
  { still rig with arbiter := ⟨.head, true, true, true⟩, depth := { rig.depth with coupled := false } }

theorem test_meets_GrantRule :
    (asked.arbiter.holder = .head ∧ asked.depth.coupled = false ∧ asked.arbiter.wrench = true
        ∧ asked.pumps.circ = .stopped)
      ∧ (rig.pumps.circ ≠ .stopped ∧ { asked.arbiter with wrench := false }.wrench = false
        ∧ asked.arbiter.loader = true ∧ { asked.arbiter with loader := false }.loader = false
        ∧ asked.arbiter.tongs = true)
      ∧ ((heldBy .loader rig).arbiter.holder ≠ .head ∧ rig.depth.coupled = true ∧ rig.arbiter.wrench = false
        ∧ rig.arbiter.loader = false ∧ rig.arbiter.tongs = false)
      ∧ ((heldBy .loader rig).arbiter.holder = .loader ∧ asked.arbiter.holder ≠ .tongs
        ∧ asked.arbiter.has .tongs = true ∧ rig.arbiter.has .tongs = false)
      ∧ ((op .stow .awaitLoader none).step.awaits = some .loader ∧ (op .stow .awaitTag none).step.holds = some .loader
        ∧ (op .makeUp .awaitTorque none).step.awaits = none ∧ (op .makeUp .awaitTorque none).step.holds = none) := by
  and_intros <;> decide +kernel

theorem test_meets_WellCentreInvariant :
    rig.arbiter.holder ≠ .wrench
      ∧ after (exec (.free (say 12 1 0)) { still rig with arbiter := ⟨.head, true, false, false⟩ })
        (fun t => decide (t.arbiter.holder = .wrench)) = true := by decide +kernel

theorem test_meets_DepthReportsComplete :
    Delivered 11 .head (say 11 1 0) ∧ Delivered 12 .gauge (say 12 5 0) ∧ Delivered 12 .head (say 12 1 0)
      ∧ { rig.depth with coupled := false }.coupled = false ∧ rig.depth.coupled = true
      ∧ Delivered 13 .loader (say 13 3 0) ∧ Delivered 13 .head (say 13 1 0xFFFFFFFF)
      ∧ (say 13 1 0xFFFFFFFF).value.toInt < 0 ∧ Delivered 13 .head (say 13 1 700)
      ∧ (rig.depth.headStroke : Int) ≤ (say 13 1 700).value.toInt ∧ State.reset.active? = none
      ∧ ActiveIs rig 2 job418 := by decide +kernel

theorem test_meets_PumpRequestsComplete :
    taken 64 3 .read [] rig
      ∧ (taken 65 1 .setup [2, w 40000, 50, 10, 20, 60] (inMode .setup rig) ∧ one 2 = pumpCode .p2
        ∧ one (w 40000) ≤ 40000)
      ∧ (taken 66 1 .setup [0, 2] (inMode .setup rig) ∧ taken 66 1 .setup [50, 60] (inMode .setup rig))
      ∧ taken 67 2 .operation [1, 0xFFFF] rig
      ∧ (taken 68 3 .general [] (still rig) ∧ taken 68 3 .general [] rig ∧ rig.pumps.circ = .running)
      ∧ taken 69 2 .general [] rig
      ∧ ((still rig).pumps.circ = .stopped ∧ (0 : Nat) < 1 ∧ State.reset.pumps.circ = .stopping
        ∧ State.reset.pumps.circ ≠ .running ∧ { rig.pumps.p1 with target := 0 }.target = 0 ∧ rig.pumps.p1.target ≠ 0)
      ∧ (rig.pumps.holdRate < rig.pumps.p1.inForce ∧ (rig.pumps.rework .low).p1.setpoint = 20
        ∧ (rig.pumps.rework .empty).circ = .stopping ∧ (rig.pumps.reworkPump .empty .p1).circ = .stopping
        ∧ ¬120 < rig.pumps.p1.inForce) := by
  and_intros <;> decide +kernel

theorem test_meets_StrokeCompletes :
    rig.pumps.circ = .running ∧ State.reset.pumps.circ = .stopping ∧ (still rig).pumps.circ = .stopped := by
  decide +kernel

theorem test_meets_PumpInvariant :
    after (exec (.rampExpiry .p1) { rig with
        pumps := { rig.pumps with p1 := { rig.pumps.p1 with setpoint := 58, rampTimer := some 1 } } })
      (fun t => decide (58 < t.pumps.p1.setpoint)) = true := by decide +kernel

theorem test_meets_ExpiriesComplete :
    rig.pumps.p1.rampTimer = none ∧ ({ rig.pumps.p1 with setpoint := 0 } : PumpRec).retime.rampTimer ≠ none
      ∧ rig.pumps.still = none ∧ State.reset.pumps.still ≠ none ∧ State.reset.pumps.p1.setpoint = 0
      ∧ State.reset.pumps.p2.setpoint = 0 ∧ rig.pumps.p1.setpoint ≠ 0 ∧ State.reset.tanks.reference = none
      ∧ rig.tanks.reference ≠ none ∧ rig.tanks.mixCount = none
      ∧ { rig.tanks with mixCount := some 1 }.mixCount ≠ none ∧ rig.mode.window = none
      ∧ { rig.mode with window := some ⟨1, .height⟩ }.window = some ⟨1, .height⟩ ∧ rig.mode.second < 59
      ∧ 59 ≤ { rig.mode with second := 59 }.second := by decide +kernel

theorem test_meets_TimerRule :
    (rig.pumps.circ = .running ∧ { rig.pumps.p1 with target := 0 }.target = 0 ∧ rig.pumps.p2.target = 0)
      ∧ (rig.pumps.p1.target ≠ 0 ∧ rig.pumps.still = none)
      ∧ (State.reset.pumps.circ ≠ .running ∧ { State.reset.pumps with still := some 1 }.still = some 1
        ∧ { State.reset.pumps with still := some 2 }.still = some 2 ∧ State.reset.pumps.p1.tick.setpoint = 0
        ∧ State.reset.pumps.p2.tick.setpoint = 0 ∧ rig.pumps.p1.tick.setpoint ≠ 0)
      ∧ (State.reset.tanks.reference = none ∧ rig.tanks.reference ≠ none
        ∧ 298 + 1 < rig.tanks.coarse * 480 + (rig.tanks.fine + 1) * 30
        ∧ rig.tanks.coarse * 480 + (rig.tanks.fine + 1) * 30 ≤ 299 + 1)
      ∧ (rig.tanks.mixCount = none ∧ { rig.tanks with mixCount := some 2 }.mixCount = some 2
        ∧ { rig.tanks with mixCount := some 1 }.mixCount = some 1)
      ∧ (rig.mode.mode ≠ .waking ∧ (inMode .waking rig).mode.window = none
        ∧ { (inMode .waking rig).mode with window := some ⟨2, .height⟩ }.window = some ⟨2, .height⟩) := by
  and_intros <;> decide +kernel

theorem test_meets_TankRequestsComplete :
    (taken 80 3 .read [] rig ∧ taken 85 3 .read [] rig)
      ∧ (taken 81 1 .setup [1, 0, 1000, 3, 3392, 0, 1000, 0, 1000, 0, 1000, 60] (inMode .setup rig)
        ∧ one 1 = TankId.code .a ∧ two 3 3392 = 200000 ∧ rig.tanks.active = .a ∧ rig.tanks.reference ≠ none
        ∧ taken 81 1 .setup [1, 0, 1000, 0, 100, 0, 0, 0, 0, 0, 0, 1] (inMode .setup State.reset)
        ∧ State.reset.tanks.reference = none
        ∧ taken 81 1 .setup [2, 1, w 34464, 0, 100, 0, 0, 0, 0, 0, 0, 1] (inMode .setup rig)
        ∧ two 1 (w 34464) = 100000 ∧ TankId.b ≠ rig.tanks.active)
      ∧ (taken 82 2 .general [] rig ∧ rig.tanks.standby = .ready
        ∧ taken 82 2 .general [] (inMode .setup State.reset) ∧ State.reset.tanks.standby ≠ .ready)
      ∧ (taken 83 3 .general [1, 1, w 34464] rig ∧ taken 83 3 .general [1, 0, 1] (inMode .setup State.reset)
        ∧ taken 83 3 .general [2, 0, 1] rig)
      ∧ (taken 84 1 .setup [6, 31] (inMode .setup rig)
        ∧ taken 86 1 .setup [5000, 5000, 5001] (inMode .setup rig)) := by
  and_intros <;> decide +kernel

theorem test_meets_AdditiveRequestsComplete :
    (taken 87 1 .general [0x2020, 0x2020, 0x2020, 0x2021, w 32767, w 65535] rig
        ∧ (∀ c ∈ (nameOf 0x2020 0x2020 0x2020 0x2021).toList, 32 ≤ c.toNat ∧ c.toNat ≤ 126)
        ∧ (∃ c ∈ (nameOf 0x2020 0x2020 0x2020 0x2021).toList, c.toNat ≠ 32)
        ∧ rig.emptyAdditiveSlot = some 0)
      ∧ (∀ k x, rig.additive? k = some x → x.name ≠ nameOf 0x2020 0x2020 0x2020 0x2021)
      ∧ (NamesAdditive hBent rig 2 bentonit ∧ taken 88 0 .general [hBent, 0, 0] rig ∧ taken 89 3 .read [hBent] rig
        ∧ taken 90 2 .general [hBent, 0xFFFF] rig ∧ bentonit.onHand + one 0xFFFF ≤ 4294967295
        ∧ taken 91 1 .general [hBent, 0xFFFF, 0xFFFF] rig)
      ∧ (taken 92 3 .general [hBent, 12, 1] rig ∧ taken 92 3 .general [hBent, 13, 2] rig
        ∧ rig.active? = some 2 ∧ bentonit.drawn + one 13 ≤ 4294967295
        ∧ bentonit.shortfall + (one 13 - bentonit.onHand) ≤ 4294967295)
      ∧ (taken 93 1 .general [hBent] rig
        ∧ (withJob418 (fun j => { j with sheet := j.sheet.set 20 ⟨0, 28, 0⟩ }) rig).job? 2
          = some { job418 with sheet := job418.sheet.set 20 ⟨0, 28, 0⟩ }
        ∧ ({ job418 with sheet := job418.sheet.set 20 ⟨0, 28, 0⟩ } : Job).sheet[consumableLine 2].unsettled ≠ 0)
      ∧ ∀ a j, rig.job? a = some j →
          j.sheet[consumableLine 2].settled = 0 ∧ j.sheet[consumableLine 2].unsettled = 0 := by
  have names : ∀ k : Fin 16, (rig.additive? k).all
      (fun x => decide (x.name ≠ nameOf 0x2020 0x2020 0x2020 0x2021)) = true := by decide +kernel
  have unused : ∀ a : Fin 4, (rig.job? a).all (fun j => decide (j.sheet[consumableLine 2].settled = 0
      ∧ j.sheet[consumableLine 2].unsettled = 0)) = true := by decide +kernel
  refine ⟨?_, fun k x h => of_decide_eq_true (of_all (names k) h), ?_, ?_, ?_,
    fun a j h => of_decide_eq_true (of_all (unused a) h)⟩ <;> decide +kernel

theorem test_meets_GaugeReportsComplete :
    (Delivered 14 .head (say 14 1 0x01000000) ∧ Delivered 14 .gauge (say 14 5 0x03000000)
        ∧ levelTank (say 14 5 0x03000000).value = none)
      ∧ (Delivered 14 .gauge (say 14 5 0x02FFFFFF) ∧ levelTank (say 14 5 0x02FFFFFF).value = some .b
        ∧ TankId.b ≠ rig.tanks.active)
      ∧ (levelTank (say 14 5 0x010007D1).value = some .a ∧ rig.tanks.active = .a ∧ rig.tanks.reference ≠ none
        ∧ State.reset.tanks.active = .a ∧ State.reset.tanks.reference = none)
      ∧ (Delivered 15 .head (say 15 1 1) ∧ Delivered 15 .gauge (say 15 5 3) ∧ flowOf (say 15 5 3).value = none
        ∧ flowOf (say 15 5 1).value = some .flow ∧ flowOf (say 15 5 2).value = some .noFlow)
      ∧ ({ rig.tanks with lossClass := .total }.lossClass = .total ∧ rig.tanks.lossClass ≠ .total
        ∧ State.reset.active? = none ∧ { rig.tanks with lossClass := .severe }.lossClass = .severe
        ∧ rig.tanks.lossClass ≠ .severe ∧ ActiveIs rig 2 job418) := by
  and_intros <;> decide +kernel

/-- Tank A of the rig holds 22,500 L, tank B 21,000 L against a ready mark of 20,000 L. -/
theorem test_meets_SuctionRule :
    ({ rig.tanks with standby := .mixing }.reworked.standby = .ready ∧ StandbyState.mixing ≠ .ready)
      ∧ (State.reset.tanks.workStandby ≠ .ready ∧ rig.tanks.standby = .ready)
      ∧ (1500 * 15000 ≤ 22500 * 1000 ∧ ¬1500 * 15000 ≤ 22499 * 1000 ∧ rig.tanks.activeTank.level = 1500
        ∧ rig.tanks.activeTank.mlPerMm = 15000)
      ∧ (rig.tanks.activeTank.suction = rig.tanks.condition ∧ Suction.normal ≠ .empty
        ∧ { rig.tanks.activeTank with low := 22500 }.suction = .low
        ∧ { rig.tanks.activeTank with low := 22500, empty := 22500 }.suction = .empty) := by
  and_intros <;> decide +kernel

theorem test_meets_CapacitiesAndPieces :
    ((88 : Nat) < 89 ∧ (89 : Nat) ≤ 89 ∧ (900 : Nat) ≤ 900) ∧
    (lagPieces job418.sections job418.bha 89 4500).map (fun p => (p.top, p.bottom))
        = [(0, 1200), (1200, 4050), (4050, 4500)]
      ∧ lagPieces job418.sections job418.bha 89 0 = [] := by decide +kernel

/-- A parcel at the shaker. -/
def waiting : Parcel := ⟨89, 400, 450, 9000, 9100, true, false⟩

/-- The rig with that parcel. -/
def sampled : State := { rig with transit := { rig.transit with parcels := [waiting] } }

/-- A column without room, its neighbours all of different classes. -/
def fullColumn : List Interval :=
  (List.range 96).map fun k => bed (100 * k) (100 * k + 100) 0 (if k % 2 = 0 then .soft else .hard) 1

/-- The rig with that column, 9,600 cm deep. -/
def full : State := withJob418 (fun j => { j with holeDepth := 9600, column := fullColumn }) sampled

/-- Job 418 with that column. -/
def jobFull : Job := { job418 with holeDepth := 9600, column := fullColumn }

theorem test_meets_CandidateRule :
    (rig.job? 2 = some job418 ∧ 1500 ≤ job418.holeDepth
        ∧ (job418.holeDepth < 1530 ∧ 1530 - job418.holeDepth ≤ rig.depth.jumpLimit)
        ∧ (rig.depth.jumpLimit < 1531 - job418.holeDepth ∧ rig.depth.held ≠ some 1531)
        ∧ { rig.depth with held := some 1531 }.held = some 1531)
      ∧ rig.PositionsOk
      ∧ (job418.column = [] ++ [bed 0 1500 0 .soft 9] ∧ (bed 0 1500 0 .soft 9).bottom = job418.holeDepth
        ∧ (bed 0 1500 0 .soft 9).status = .pending ∧ (bed 0 1500 0 .soft 9).lith = job418.declared)
      ∧ ({ job418 with declared := 5 }.declared ≠ (bed 0 1500 0 .soft 9).lith
        ∧ (bed 1500 1500 21 .hard 0).top = (bed 1500 1500 21 .hard 0).bottom)
      ∧ (full.job? 2 = some jobFull ∧ jobFull.column.length = 96 ∧ (capacityMerge fullColumn).isNone = true
        ∧ jobFull.column = jobFull.column.take 95 ++ [bed 9500 9600 0 .hard 1]
        ∧ (capacityMerge (fullColumn.map fun iv => { iv with cls := .soft })).isSome = true) := by
  and_intros <;> decide +kernel

/-- The class a reading of the rig, whose reference is 22,500,000 mL, gives at and beside each threshold. -/
theorem test_meets_BalanceReadingRule :
    rig.tanks.reference = some 22500000 ∧ State.reset.tanks.reference = none ∧ ActiveIs rig 2 job418
      ∧ State.reset.active? = none
      ∧ (rig.reading 22700000).tanks.lossClass = .gain ∧ (rig.reading 22699999).tanks.lossClass = .normal
      ∧ (rig.reading 22400001).tanks.lossClass = .normal ∧ (rig.reading 22400000).tanks.lossClass = .seepage
      ∧ (rig.reading 21500001).tanks.lossClass = .seepage ∧ (rig.reading 21500000).tanks.lossClass = .severe := by
  decide +kernel

theorem test_meets_MinuteRule :
    (State.reset.active? = none ∧ ActiveIs rig 2 job418)
      ∧ ((inMode .standby rig).mode.mode = .standby ∧ (inMode .waking rig).mode.mode = .waking)
      ∧ ((withJob418 (fun j => { j with down := true }) rig).job? 2 = some { job418 with down := true })
      ∧ { rig with drilling := true }.drilling = true
      ∧ (doing (op .stow .awaitTag none) rig).engine.op ≠ none
      ∧ (rig.engine.op = none ∧ rig.engine.tripping = false ∧ rig.pumps.circ ≠ .stopped)
      ∧ (still rig).pumps.circ = .stopped ∧ job418.column = [] ++ [bed 0 1500 0 .soft 9] := by
  and_intros <;> decide +kernel

/-- The rig with a forming parcel of the parcel step, 50 cm. -/
def formed : State := { rig with transit := { rig.transit with formingTop := some 1450 } }

theorem test_meets_TransitBirthRule :
    (formed.job? 2 = some job418 ∧ formed.transit.formingTop = some 1450 ∧ 1450 < job418.holeDepth
        ∧ formed.transit.step ≤ job418.holeDepth - 1450 ∧ formed.transit.parcels.length < 48
        ∧ formed.tanks.lossClass ≠ .total)
      ∧ (rig.transit.formingTop = some 1500 ∧ job418.holeDepth ≤ 1500 ∧ job418.holeDepth - 1500 < rig.transit.step)
      ∧ 48 ≤ (List.replicate 47 waiting ++ [waiting]).length
      ∧ { rig.tanks with lossClass := .total }.lossClass = .total ∧ formed.active? = some 2
      ∧ State.reset.active? = none := by
  and_intros <;> decide +kernel

theorem test_meets_TransitArrivalRule :
    ActiveIs sampled 2 job418 ∧ sampled.TransitOk ∧ State.reset.active? = none
      ∧ ([{ waiting with arrived := false, lag := 9100 }] : List Parcel).takeWhile (fun p => p.lag ≤ p.advanced)
        = [] ++ [{ waiting with arrived := false, lag := 9100 }] := by decide +kernel

theorem test_meets_RangeChangeRule :
    (rig.job? 2 = some job418 ∧ job418.ColumnOk ∧ (400 : Nat) < 450 ∧ 450 ≤ job418.holeDepth
        ∧ job418.column = [] ++ bed 0 1500 0 .soft 9 :: [] ∧ (bed 0 1500 0 .soft 9).top < 400
        ∧ 1500 ≤ job418.holeDepth)
      ∧ (full.job? 2 = some jobFull ∧ jobFull.ColumnOk ∧ jobFull.column.length = 96
        ∧ (jobFull.column.filter fun iv => iv.top < 1 && 1 < iv.bottom).length = 1
        ∧ (capacityMerge jobFull.column).isNone = true)
      ∧ ((capacityMerge (fullColumn.map fun iv => { iv with cls := .soft })).isSome = true
        ∧ ((withJob418 (fun j => { j with column := j.column.map fun iv => { iv with cls := .soft } }) full).bindRange
          2 (.mark .notSampled) 410 450).isSome = true
        ∧ (full.bindRange 2 (.mark .notSampled) 410 450).isNone = true)
      ∧ (jobFull.ColumnOk ∧ containing 100 jobFull.column = 1 ∧ containing 99 jobFull.column ≠ 1
        ∧ containing 9600 jobFull.column + 1 = jobFull.column.length) := by
  and_intros <;> decide +kernel

/-- Two eligible pairs of equal thickness, the first the shallowest; and a column without one. -/
theorem test_meets_CapacityMergeRule :
    let col := [bed 0 10 0 .soft 1, bed 10 20 1 .soft 2, bed 20 30 2 .soft 3, bed 30 30 0 .hard 0]
    (0 + 2 < col.length ∧ col[0]? = some (bed 0 10 0 .soft 1) ∧ col[0 + 1]? = some (bed 10 20 1 .soft 2))
      ∧ (∀ n v w, n + 2 < col.length ∧ col[n]? = some v ∧ col[n + 1]? = some w ∧ v.cls = w.cls →
        20 - 0 ≤ w.bottom - v.top ∧ (n < 0 → 20 - 0 < w.bottom - v.top))
      ∧ ∀ k u l, ¬(k + 2 < fullColumn.length ∧ fullColumn[k]? = some u ∧ fullColumn[k + 1]? = some l ∧ u.cls = l.cls) := by
  intro col
  refine ⟨by decide +kernel, fun n v w ⟨hn, hv, hw, _⟩ => ?_, fun k u l ⟨hk, hu, hl, h⟩ => ?_⟩
  · have : n = 0 ∨ n = 1 := by simp [col] at hn; omega
    rcases this with rfl | rfl <;> simp [col, bed] at hv hw <;> subst hv hw <;> decide
  · have differ : ∀ k : Fin 95, (fullColumn[k.val]?.map Interval.cls) ≠ (fullColumn[k.val + 1]?.map Interval.cls) := by
      decide +kernel
    have hk' : k < 95 := by
      have : fullColumn.length = 96 := by decide +kernel
      omega
    exact differ ⟨k, hk'⟩ (by simp [hu, hl, h])

theorem test_meets_LagAndTransitRequestsComplete :
    (taken 96 3 .read [h418, 1, w 34464, 9] rig ∧ NamesJob h418 rig 2 job418 ∧ two 1 (w 34464) = 100000)
      ∧ (taken 97 1 .setup [7, w 41248] (inMode .setup rig) ∧ two 7 (w 41248) = 500000)
      ∧ taken 112 3 .read [] rig
      ∧ (taken 113 3 .read [1] sampled ∧ sampled.transit.parcels[one 1 - 1]? = some waiting
        ∧ taken 113 3 .read [48] sampled ∧ sampled.transit.parcels.length < one 48)
      ∧ (taken 114 1 .setup [10] (inMode .setup rig) ∧ taken 114 1 .setup [200] (inMode .setup rig))
      ∧ (taken 115 3 .general [63, 5] sampled ∧ one 63 = (63 : Fin 64).val ∧ sampled.active? = some 2
        ∧ sampled.oldestArrived = some waiting
        ∧ ((sampled.heard 115 (ask 115 3 [63, 5])).bindRange 2 (.sample 63 (some 5)) 400 450).isSome = true)
      ∧ (taken 115 3 .general [63] full ∧ full.active? = some 2 ∧ full.oldestArrived = some waiting
        ∧ ((full.heard 115 (ask 115 3 [63])).bindRange 2 (.sample 63 none) 400 450).isNone = true)
      ∧ taken 116 3 .general [] sampled := by
  and_intros <;> decide +kernel

theorem test_meets_StrataRequestsComplete :
    taken 128 3 .read [63] rig
      ∧ (taken 129 1 .setup [63, 0x207E, 0x2020, 0x2020, 0x2020, 4] (inMode .setup rig)
        ∧ one 63 = (63 : Fin 64).val ∧ one 4 = RockClass.hard.code
        ∧ ∀ x ∈ (nameOf 0x207E 0x2020 0x2020 0x2020).toList, 32 ≤ x.toNat ∧ x.toNat ≤ 126)
      ∧ (taken 130 2 .general [0] rig ∧ job418.column = [] ++ [bed 0 1500 0 .soft 9]
        ∧ job418.column.length < 96 ∧ (bed 1500 1500 0 .soft 0).top = (bed 1500 1500 0 .soft 0).bottom)
      ∧ (taken 130 2 .general [0] full ∧ fullColumn.length = 96 ∧ (capacityMerge fullColumn).isNone = true
        ∧ (capacityMerge (fullColumn.map fun iv => { iv with cls := .soft })).isSome = true)
      ∧ (taken 131 2 .general [h418, 0, 0, 0, 1500, 63] rig ∧ job418.settleMark ≤ two 0 0
        ∧ two 0 1500 ≤ job418.holeDepth
        ∧ ((rig.heard 131 (ask 131 2 [h418, 0, 0, 0, 1500, 63])).bindRange 2 (.revise 63) 0 1500).isSome = true)
      ∧ (taken 131 2 .general [h418, 0, 1, 0, 2, 63] full
        ∧ ((full.heard 131 (ask 131 2 [h418, 0, 1, 0, 2, 63])).bindRange 2 (.revise 63) 1 2).isNone = true)
      ∧ (two 0 1499 < ({ job418 with settleMark := 1500 } : Job).settleMark
        ∧ 1 < (ask 131 2 [h418, 0, 1499, 0, 1500, 63]).level.toNat)
      ∧ (taken 132 2 .general [h418, 0, 1500, 0] rig ∧ two 0 1500 ≤ job418.holeDepth)
      ∧ (taken 133 3 .read [h418, 0, 1500] rig
        ∧ job418.column[containing (two 0 1500) job418.column]? = some (bed 0 1500 0 .soft 9))
      ∧ (taken 133 3 .read [h418, 1] rig ∧ job418.column[one 1 - 1]? = some (bed 0 1500 0 .soft 9)) := by
  and_intros <;> decide +kernel

theorem test_meets_SheetRequestsComplete :
    NamesJob h418 rig 2 job418 ∧ (taken 144 3 .read [h418, 1] rig ∧ taken 144 3 .read [h418, 40] rig)
      ∧ taken 145 3 .read [h418] rig
      ∧ (taken 146 0 .general [h418] rig ∧ job418.phase = .active)
      ∧ after (exec (.settle (ask 146 0 [h418])) (withJob418
        (fun j => { j with sheet := j.sheet.set 12 ⟨0, 2147483647, 0⟩ }) rig)) (fun t =>
          t.attn[AttnKind.amountSaturated.ix].detail == some (.saturated (.job 2 7) 12 .settled)) = true := by
  and_intros <;> decide +kernel

theorem test_meets_AmountRule :
    (11 : Fin 40).val + 1 ≤ 12 ∧ 13 ≤ (12 : Fin 40).val + 1 ∧ (17 : Fin 40).val + 1 ≤ 18
      ∧ (34 : Fin 40).val + 1 = 35 ∧ 19 ≤ (18 : Fin 40).val + 1 ∧ (18 : Fin 40).val + 1 ≠ 35
      ∧ (2147483647 : Nat) ≤ 2147483647 := by decide

/-- The rig with a HEIGHT report waiting: the state the invariants' witnesses step. -/
def waitingRig : State := { sampled with pending := [.height (say 13 1 140)] }

/-- The rig meets every invariant, and its next step is the HEIGHT report: ModeControllerInvariant,
JobTableInvariant, RecordsInvariant, StringInvariant, WellCentreInvariant, PumpInvariant, TanksAndStoreInvariant,
TransitInvariant, ColumnInvariant and FootageInvariant. -/
theorem test_meets_Invariants :
    (waitingRig.ClockOk ∧ waitingRig.WindowOk ∧ waitingRig.OneActive ∧ waitingRig.FormingOk ∧ waitingRig.DepthsOk)
      ∧ (waitingRig.GenerationsOk ∧ waitingRig.AttentionsOk ∧ waitingRig.LithologyOk)
      ∧ (waitingRig.CentreOk ∧ waitingRig.EngineOk ∧ waitingRig.PumpsOk ∧ waitingRig.CirculationOk)
      ∧ waitingRig.StringOk
      ∧ (waitingRig.TanksOk ∧ waitingRig.StoreOk ∧ waitingRig.DepthOk)
      ∧ (waitingRig.TransitOk ∧ waitingRig.ParcelsOk ∧ waitingRig.ColumnsOk)
      ∧ (waitingRig.FootageBounded ∧ waitingRig.FootageOk ∧ waitingRig.roster.stringLen ≤ 100000)
      ∧ ∃ t, step waitingRig = .next t := by
  refine ⟨?_, ?_, ?_, ?_, ?_, ?_, ?_, runs ?_⟩ <;> decide +kernel

theorem test_meets_HoleDepthNeverFalls :
    rig.job? 2 = some job418 ∧ ∃ t, exec (.height (say 13 1 140)) rig = .next t :=
  ⟨by decide +kernel, runs (by decide +kernel)⟩

end Sys2Proof.Tests
end

section
/-! PROOFS. SET_MODE (R3, R4): which target a word names, what a change of mode answers from each mode, and the
statement that puts the two together. -/

namespace Sys2Proof.Machine

/-! ### The target -/

@[simp] theorem RigMode.ofCode_code (m : RigMode) : RigMode.ofCode m.code = some m := by
  cases m <;> rfl

/-- Besides the codes of SETUP, OPERATE and STANDBY a target word names nothing or WAKING, neither of which
SET_MODE takes (R3). -/
theorem RigMode.ofCode_of_no_target {n : Nat} (h1 : n ≠ 1) (h2 : n ≠ 2) (h3 : n ≠ 3) :
    RigMode.ofCode n = none ∨ RigMode.ofCode n = some .waking := by
  unfold RigMode.ofCode
  split
  case h_4 => exact .inr rfl
  case h_5 => exact .inl rfl
  all_goals contradiction

theorem serveSetMode_no_target (level : Nat) {w : Word} (s : State) (h1 : one w ≠ 1) (h2 : one w ≠ 2)
    (h3 : one w ≠ 3) : serveSetMode level [w] s = .error .badField := by
  obtain h | h := RigMode.ofCode_of_no_target h1 h2 h3 <;> simp only [serveSetMode, h]

theorem serveSetMode_target (level : Nat) {w : Word} {m : RigMode} (s : State) (hm : m ≠ .waking)
    (hw : one w = m.code) : serveSetMode level [w] s = changeMode m s := by
  have hc : RigMode.ofCode (one w) = some m := by rw [hw, RigMode.ofCode_code]
  cases m with
  | waking => contradiction
  | setup | operate | standby => simp only [serveSetMode, hc]

/-! ### The change of mode, by the mode it leaves -/

/-- The entry into OPERATE, with the two writes of the mode as one (R5). -/
theorem State.enterOperate_eq (s : State) :
    s.enterOperate =
      if s.mode.geometryMark then
        (s.setMode { s.mode with mode := .operate, window := none, geometryMark := false }).recompute
      else s.enterMode .operate := rfl

theorem changeMode_present {m : RigMode} {s : State} (h : s.mode.mode = m) : changeMode m s = accept s := by
  simp only [changeMode, h, if_true]

/-- SETUP is left for OPERATE without a condition (R3). -/
theorem changeMode_setup_operate {s : State} (h : s.mode.mode = .setup) :
    changeMode .operate s = accept s.enterOperate := by
  simp [changeMode, leaveRefusal, h]

/-- SETUP is left for STANDBY with the pumps stopped (R3). -/
theorem changeMode_setup_standby {s : State} (h : s.mode.mode = .setup) :
    changeMode .standby s =
      if s.pumps.circ = .stopped then accept (s.enterMode .standby) else .error .notStopped := by
  by_cases hc : s.pumps.circ = .stopped <;> simp [changeMode, leaveRefusal, h, hc]

/-- OPERATE is left with the engine idle and the pumps stopped, the engine asked first (R3). -/
theorem changeMode_from_operate {m : RigMode} {s : State} (h : s.mode.mode = .operate) (hm : m ≠ .operate) :
    changeMode m s =
      if s.engine.op.isSome then .error .busy
      else if s.pumps.circ = .stopped then accept (s.enterMode m) else .error .notStopped := by
  by_cases ho : s.engine.op.isSome = true
  · simp [changeMode, leaveRefusal, h, hm, ho]
  · by_cases hc : s.pumps.circ = .stopped <;> simp [changeMode, leaveRefusal, h, hm, ho, hc]

/-- STANDBY and WAKING are left without a condition (R3). -/
theorem changeMode_unconditional {m : RigMode} {s : State} (h : s.mode.mode = .standby ∨ s.mode.mode = .waking)
    (hm : s.mode.mode ≠ m) :
    changeMode m s = accept (if m = .operate then s.enterOperate else s.enterMode m) := by
  rw [changeMode, if_neg hm.symm]
  obtain h | h := h <;> simp only [h]

/-! ### The request as a whole -/

theorem exec_setMode_taken {r : Request} {w : Word} {s : State} (h : Taken 2 2 .mode [w] r s) :
    exec (.setMode r) s
      = .next (reply .mode (s.heard 2 r) (serveSetMode r.level.toNat [w] (s.heard 2 r))) :=
  takeRequest_taken serveSetMode h

theorem exec_setMode_target {r : Request} {w : Word} {s : State} {m : RigMode} (h : Taken 2 2 .mode [w] r s)
    (hm : m ≠ .waking) (hw : one w = m.code) :
    exec (.setMode r) s = .next (reply .mode (s.heard 2 r) (changeMode m (s.heard 2 r))) := by
  rw [exec_setMode_taken h, serveSetMode_target _ _ hm hw]

/-- An accepted entry into OPERATE, by the geometry mark (R5). -/
theorem reply_enterOperate (cls : ReqClass) (s t : State) :
    Host.Outcome.next (reply cls s (accept t.enterOperate)) =
      if t.mode.geometryMark then
        accepted cls .ok []
          { t with mode := { t.mode with mode := .operate, window := none, geometryMark := false } }.recompute
      else accepted cls .ok [] { t with mode := { t.mode with mode := .operate, window := none } } := by
  rw [State.enterOperate_eq]
  split <;> rfl

/-- Settles O17, by the mode that is left and the lemma on what `changeMode` answers from it. -/
theorem setModeRule : Obligations.SetModeRule := by
  intro r w s taken h entered operate
  have entersOperate : Host.Outcome.next (reply .mode h (accept h.enterOperate)) = operate :=
    reply_enterOperate .mode h h
  refine ⟨fun h1 h2 h3 => ?noTarget, fun m hm hw => ?_⟩
  case noTarget => rw [exec_setMode_taken taken, serveSetMode_no_target _ _ h1 h2 h3, reply_refuse]
  rw [exec_setMode_target taken hm hw]
  refine ⟨fun hs => ?present, fun hs ho => ?setupOperate, fun hs ht => ?setupStandby, fun hs ho => ?operate,
    fun hs hne => ?unconditional⟩
  case present => rw [changeMode_present (s := h) hs]; rfl
  case setupOperate => rw [ho, changeMode_setup_operate (s := h) hs, entersOperate]
  case setupStandby =>
    rw [ht, changeMode_setup_standby (s := h) hs]
    exact apply_ite (fun a => Host.Outcome.next (reply .mode h a)) _ _ _
  case operate =>
    rw [changeMode_from_operate (s := h) hs ho]
    change _ = if h.engine.op.isSome then _ else if h.pumps.circ = .stopped then _ else _
    split_ifs <;> rfl
  case unconditional =>
    rw [changeMode_unconditional (s := h) hs hne]
    split
    · exact entersOperate
    · rfl

end Sys2Proof.Machine
end

section
/-! PROOFS. The tag register (R65): which commands leave the Rod Operation Engine as it was, that every way into
AWAIT_TAG comes with the register empty, and the statement that puts the two together. -/

namespace Sys2Proof.Machine

/-! ### What leaves the engine as it was -/

theorem Frame.engine_eq {ps : List Part} {s t : State} (h : Frame ps s t) (hp : Part.engine ∉ ps) :
    t.engine = s.engine := h.kept .engine hp

@[simp] theorem State.linkError_engine (status : Status) (s : State) :
    (s.linkError status).engine = s.engine := rfl

@[simp] theorem State.unexpected_engine (m : Message) (kind : Nat) (step : Option OpStep) (s : State) :
    (s.unexpected m kind step).engine = s.engine := rfl

@[simp] theorem State.modifyJob_engine (i : Fin 4) (f : Job → Job) (s : State) :
    (s.modifyJob i f).engine = s.engine := (State.modifyJob_frame i f s).engine_eq (by decide)

@[simp] theorem State.addUnsettled_engine (i : Fin 4) (line : Fin 40) (q : Int) (s : State) :
    (s.addUnsettled i line q).engine = s.engine := (State.addUnsettled_frame i line q s).engine_eq (by decide)

@[simp] theorem State.settle_engine (i : Fin 4) (s : State) : (s.settle i).engine = s.engine :=
  (State.settle_frame i s).engine_eq (by decide)

@[simp] theorem State.rebandFootage_engine (i : Fin 4) (j : Job) (b1 b2 : Nat) (s : State) :
    (s.rebandFootage i j b1 b2).engine = s.engine := (State.rebandFootage_frame i j b1 b2 s).engine_eq (by decide)

@[simp] theorem State.setColumn_engine (i : Fin 4) (col : List Interval) (s : State) :
    (s.setColumn i col).engine = s.engine := (State.setColumn_frame i col s).engine_eq (by decide)

theorem State.bindRange_engine {i : Fin 4} {c : RangeChange} {a b : Nat} {s t : State}
    (h : s.bindRange i c a b = some t) : t.engine = s.engine :=
  (State.bindRange_frame i c a b s t h).engine_eq (by decide)

@[simp] theorem State.markRange_engine (i : Fin 4) (status : CutStatus) (a b : Nat) (s : State) :
    (s.markRange i status a b).engine = s.engine := (State.markRange_frame i status a b s).engine_eq (by decide)

@[simp] theorem State.closeForming_engine (i : Fin 4) (s : State) : (s.closeForming i).engine = s.engine :=
  (State.closeForming_frame i s).engine_eq (by decide)

@[simp] theorem State.giveUpParcels_engine (i : Fin 4) (s : State) : (s.giveUpParcels i).engine = s.engine :=
  (State.giveUpParcels_frame i s).engine_eq (by decide)

@[simp] theorem State.advanceParcels_engine (v : Nat) (s : State) : (s.advanceParcels v).engine = s.engine :=
  (State.advanceParcels_frame v s).engine_eq (by decide)

@[simp] theorem State.strokeCirculation_engine (p : Pump) (s : State) :
    (s.strokeCirculation p).engine = s.engine := (State.strokeCirculation_frame p s).engine_eq (by decide)

@[simp] theorem State.targetCirculation_engine (p : Pump) (n : Nat) (s : State) :
    (s.targetCirculation p n).engine = s.engine := (State.targetCirculation_frame p n s).engine_eq (by decide)

@[simp] theorem State.reading_engine (m : Nat) (s : State) : (s.reading m).engine = s.engine :=
  (State.reading_frame m s).engine_eq (by decide)

@[simp] theorem State.balanceSecond_engine (s : State) : s.balanceSecond.engine = s.engine :=
  (State.balanceSecond_frame s).engine_eq (by decide)

@[simp] theorem State.swap_engine (c : SwapCause) (s : State) : (s.swap c).engine = s.engine :=
  (State.swap_frame c s).engine_eq (by decide)

@[simp] theorem State.suctionTest_engine (s : State) : s.suctionTest.engine = s.engine :=
  (State.suctionTest_frame s).engine_eq (by decide)

@[simp] theorem State.reworkStandby_engine (s : State) : s.reworkStandby.engine = s.engine :=
  (State.reworkStandby_frame s).engine_eq (by decide)

@[simp] theorem State.standbyAddition_engine (s : State) : s.standbyAddition.engine = s.engine :=
  (State.standbyAddition_frame s).engine_eq (by decide)

@[simp] theorem State.mixExpiry_engine (s : State) : s.mixExpiry.engine = s.engine :=
  (State.mixExpiry_frame s).engine_eq (by decide)

@[simp] theorem State.mixMinute_engine (s : State) : s.mixMinute.engine = s.engine :=
  (State.mixMinute_frame s).engine_eq (by decide)

@[simp] theorem State.takeLevel_engine (t : TankId) (v : Int) (s : State) : (s.takeLevel t v).engine = s.engine :=
  (State.takeLevel_frame t v s).engine_eq (by decide)

@[simp] theorem State.takeFlow_engine (v : Flow) (s : State) : (s.takeFlow v).engine = s.engine :=
  (State.takeFlow_frame v s).engine_eq (by decide)

@[simp] theorem State.modifyRod_engine (i : Fin 128) (f : Rod → Rod) (s : State) :
    (s.modifyRod i f).engine = s.engine := (State.modifyRod_frame i f s).engine_eq (by decide)

@[simp] theorem State.placeRod_engine (i : Fin 128) (place : RodPlace) (s : State) :
    (s.placeRod i place).engine = s.engine := State.modifyRod_engine i _ s

@[simp] theorem State.regradeType_engine (t : Fin 4) (s : State) : (s.regradeType t).engine = s.engine :=
  (State.regradeType_frame t s).engine_eq (by decide)

@[simp] theorem State.takeHeight_engine (v : Int) (s : State) : (s.takeHeight v).engine = s.engine :=
  (State.takeHeight_frame v s).engine_eq (by decide)

@[simp] theorem State.takeCoupled_engine (s : State) : s.takeCoupled.engine = s.engine := rfl

@[simp] theorem State.wake_engine (w : WakeSource) (s : State) : (s.wake w).engine = s.engine :=
  (State.wake_frame w s).engine_eq (by decide)

@[simp] theorem State.heightWakes_engine (v : Int) (s : State) : (s.heightWakes v).engine = s.engine := by
  unfold State.heightWakes
  split <;> simp

@[simp] theorem State.enterOperate_engine (s : State) : s.enterOperate.engine = s.engine :=
  (State.enterOperate_frame s).engine_eq (by decide)

@[simp] theorem State.endWake_engine (cls : ReqClass) (s : State) : (s.endWake cls).engine = s.engine :=
  (State.endWake_frame cls s).engine_eq (by decide)

@[simp] theorem State.windowExpiry_engine (s : State) : s.windowExpiry.engine = s.engine :=
  (State.windowExpiry_frame s).engine_eq (by decide)

@[simp] theorem State.windowMinute_engine (s : State) : s.windowMinute.engine = s.engine :=
  (State.windowMinute_frame s).engine_eq (by decide)

@[simp] theorem State.markGeometry_engine (edited : Bool) (s : State) :
    (s.markGeometry edited).engine = s.engine := by
  unfold State.markGeometry
  split <;> rfl

/-- Of the engine the Job Sheet's minute moves the tripping mark alone (R163). -/
@[simp] theorem State.sheetMinute_op (s : State) : s.sheetMinute.engine.op = s.engine.op := by
  simp only [State.sheetMinute]
  split
  · rfl
  · split
    · rfl
    · split <;> simp

/-! ### The effects of requests that leave the engine as it was -/

@[simp] theorem State.suspendJob_engine (i : Fin 4) (s : State) : (s.suspendJob i).engine = s.engine := by
  simp [State.suspendJob]

@[simp] theorem State.closeJob_engine (i : Fin 4) (s : State) : (s.closeJob i).engine = s.engine := by
  simp [State.closeJob]

@[simp] theorem State.freeJob_engine (i : Fin 4) (s : State) : (s.freeJob i).engine = s.engine := rfl

@[simp] theorem State.replaceType_engine (n : Fin 4) (t : RodType) (s : State) :
    (s.replaceType n t).engine = s.engine := by simp [State.replaceType]

@[simp] theorem State.loseBha_engine (a : Fin 4) (j : Job) (s : State) : (s.loseBha a j).engine = s.engine := by
  unfold State.loseBha
  split <;> simp

/-- A fold of steps that each leave the engine as it was. -/
theorem foldl_engine {α : Type} (f : State → α → State) (hf : ∀ s a, (f s a).engine = s.engine) (l : List α)
    (s : State) : (l.foldl f s).engine = s.engine :=
  List.foldlRecOn l f (motive := fun t => t.engine = s.engine) rfl fun t ht a _ => (hf t a).trans ht

@[simp] theorem State.loseString_engine (a : Fin 4) (j : Job) (s : State) :
    (s.loseString a j).engine = s.engine := by
  simp only [State.loseString, State.dropHeld_engine, State.modifyJob_engine, State.setStringLen_engine,
    State.loseBha_engine]
  exact (foldl_engine _ (fun _ _ => State.addUnsettled_engine ..) _ _).trans
    (foldl_engine State.loseRod (fun _ _ => rfl) _ _)

@[simp] theorem State.retarget_engine (p : Pump) (n : Nat) (s : State) : (s.retarget p n).engine = s.engine := by
  simp [State.retarget]

@[simp] theorem State.configured_engine (t : TankId) (s : State) : (s.configured t).engine = s.engine := by
  simp only [State.configured, State.suctionTest_engine]
  split
  · simp
  · split <;> simp

@[simp] theorem State.addWater_engine (t : TankId) (n : Nat) (s : State) : (s.addWater t n).engine = s.engine := by
  unfold State.addWater
  split
  · simp
  · split <;> simp

@[simp] theorem State.drawAdditive_engine (a : Fin 4) (i : Fin 16) (x : Additive) (n : Nat) (t : TankId)
    (s : State) : (s.drawAdditive a i x n t).engine = s.engine := by
  simp only [State.drawAdditive]
  split <;> split <;> simp

@[simp] theorem State.removeAdditive_engine (i : Fin 16) (s : State) : (s.removeAdditive i).engine = s.engine := rfl

@[simp] theorem State.dropSample_engine (s : State) : s.dropSample.engine = s.engine := rfl

/-! ### The engine an answer leaves -/

/-- The engine that an acceptance leaves meets `P`; a refusal leaves none of its own. -/
def Leaves (P : Engine → Prop) : Reply → Prop
  | .error _ => True
  | .ok a => P a.state.engine

section Answers

variable {P : Engine → Prop} {s t : State}

@[simp] theorem leaves_error (status : Status) : Leaves P (.error status) := trivial

@[simp] theorem leaves_ok (a : Accepted) : Leaves P (.ok a) ↔ P a.state.engine := Iff.rfl

@[simp] theorem leaves_accept : Leaves P (accept t) ↔ P t.engine := Iff.rfl

@[simp] theorem leaves_answer (payload : List Word) : Leaves P (answer payload t) ↔ P t.engine := Iff.rfl

@[simp] theorem leaves_ite {c : Prop} [Decidable c] {x y : Reply} :
    Leaves P (if c then x else y) ↔ (c → Leaves P x) ∧ (¬c → Leaves P y) := by
  split <;> simp [*]

theorem leaves_withJob {w : Word} {k : Fin 4 → Job → Reply} (hk : ∀ i j, Leaves P (k i j)) :
    Leaves P (withJob w s k) := by
  unfold withJob
  split
  · simp
  · split <;> simp [hk]

theorem leaves_withUnclosedJob {w : Word} {k : Fin 4 → Job → Reply} (hk : ∀ i j, Leaves P (k i j)) :
    Leaves P (withUnclosedJob w s k) :=
  leaves_withJob fun i j => by simp [hk]

theorem leaves_withRod {w : Word} {k : Fin 128 → Rod → Reply} (hk : ∀ i r, Leaves P (k i r)) :
    Leaves P (withRod w s k) := by
  unfold withRod
  split
  · simp
  · split <;> simp [hk]

theorem leaves_withAdditive {w : Word} {k : Fin 16 → Additive → Reply} (hk : ∀ i x, Leaves P (k i x)) :
    Leaves P (withAdditive w s k) := by
  unfold withAdditive
  split
  · simp
  · split <;> simp [hk]

theorem leaves_withSample {k : Fin 4 → Parcel → Reply} (hk : ∀ a p, Leaves P (k a p)) :
    Leaves P (withSample s k) := by
  unfold withSample
  split
  · simp
  · split <;> simp [hk]

theorem leaves_withIdleJob {k : Fin 4 → Job → Reply} (hk : ∀ a j, Leaves P (k a j)) :
    Leaves P (withIdleJob s k) := by
  unfold withIdleJob
  split
  · simp
  · split <;> simp [hk]

/-- A request leaves the engine as it found it, or as its block's answer has it. -/
theorem takeRequest_leaves {code : Byte} {required : Nat} {cls : ReqClass}
    {body : Nat → List Word → State → Reply} {r : Request} (hs : P s.engine)
    (hb : ∀ ws, Leaves P (body r.level.toNat ws (s.heard code r)))
    (hx : takeRequest code required cls body r s = .next t) : P t.engine := by
  obtain ⟨status, -, h⟩ | ⟨ws, status, -, -, h⟩ | ⟨ws, -, h⟩ := takeRequest_cases code required cls body r s
  all_goals
    rw [hx] at h
    obtain rfl := Host.Outcome.next.inj h
  · exact hs
  · exact hs
  · have hw := hb ws
    cases ha : body r.level.toNat ws (s.heard code r) with
    | error status => exact hs
    | ok a =>
      rw [ha] at hw
      simpa [reply] using hw

/-- A request whose block's answer keeps every property of the engine leaves the engine as it was. -/
theorem takeRequest_engine_eq {code : Byte} {required : Nat} {cls : ReqClass}
    {body : Nat → List Word → State → Reply} {r : Request}
    (hb : ∀ (Q : Engine → Prop) ws s', Q s'.engine → Leaves Q (body r.level.toNat ws s'))
    (hx : takeRequest code required cls body r s = .next t) : t.engine = s.engine :=
  takeRequest_leaves (P := (· = s.engine)) rfl (fun ws => hb _ ws _ rfl) hx

/-- A station message leaves the engine as it found it, or as its receiver has it. -/
theorem deliver_leaves {kind : Byte} {receiver : Station → State → State} {m : Message} (hs : P s.engine)
    (hr : ∀ st, P (receiver st s).engine) (hx : deliver kind receiver m s = .next t) : P t.engine := by
  unfold deliver at hx
  split at hx <;> obtain rfl := Host.Outcome.next.inj hx
  · exact hr _
  · exact hs
  · exact hs

end Answers

/-! ### Requests that leave the engine as it was, block by block -/

section Requests

variable {P : Engine → Prop} {l : Nat} {ws : List Word} {s : State} (h : P s.engine)
include h

/-! #### Mode Controller and Attention Unit -/

@[simp] theorem leaves_serveReadMode : Leaves P (serveReadMode l ws s) := by
  unfold serveReadMode
  split <;> simp [h]

@[simp] theorem leaves_changeMode (target : RigMode) : Leaves P (changeMode target s) := by
  unfold changeMode
  split
  · simp [h]
  · split
    · split
      · simp
      · split <;> simp [h]
    · split
      · simp
      · split <;> simp [h]
    · split <;> simp [h]
    · split <;> simp [h]

@[simp] theorem leaves_serveSetMode : Leaves P (serveSetMode l ws s) := by
  unfold serveSetMode
  split
  · split <;> simp [h]
  · simp

@[simp] theorem leaves_serveSetWakeWindow : Leaves P (serveSetWakeWindow l ws s) := by
  unfold serveSetWakeWindow
  split <;> simp [h]

@[simp] theorem leaves_serveSetClock : Leaves P (serveSetClock l ws s) := by
  unfold serveSetClock
  split <;> simp [h]

@[simp] theorem leaves_serveReadAttention : Leaves P (serveReadAttention l ws s) := by
  unfold serveReadAttention
  split <;> simp [h]

@[simp] theorem leaves_serveClearAttention : Leaves P (serveClearAttention l ws s) := by
  unfold serveClearAttention
  split <;> simp [h]

@[simp] theorem leaves_serveSetAttentionMask : Leaves P (serveSetAttentionMask l ws s) := by
  unfold serveSetAttentionMask
  split <;> simp [h]

/-! #### Job Table -/

@[simp] theorem leaves_serveReadJob : Leaves P (serveReadJob l ws s) := by
  unfold serveReadJob
  split
  · exact leaves_withJob fun _ j => by simp [h]
  · simp

@[simp] theorem leaves_openJob (j : Job) : Leaves P (s.openJob j) := by
  unfold State.openJob
  split
  · simp
  · split <;> simp [h]

@[simp] theorem leaves_serveOpenJob : Leaves P (serveOpenJob l ws s) := by
  unfold serveOpenJob
  split
  · split
    · split <;> simp [h]
    · simp
  · simp

@[simp] theorem leaves_serveActivateJob : Leaves P (serveActivateJob l ws s) := by
  unfold serveActivateJob
  split
  · exact leaves_withUnclosedJob fun i j => by simp [h]
  · simp

@[simp] theorem leaves_serveSuspendJob : Leaves P (serveSuspendJob l ws s) := by
  unfold serveSuspendJob
  split
  · refine leaves_withUnclosedJob fun i j => ?_
    split
    · simp
    · split
      · simp
      · split <;> simp [h]
  · simp

@[simp] theorem leaves_serveCloseJob : Leaves P (serveCloseJob l ws s) := by
  unfold serveCloseJob
  split
  · refine leaves_withUnclosedJob fun i j => ?_
    split
    · simp
    · split
      · simp
      · split
        · split <;> simp [h]
        · simp [h]
  · simp

@[simp] theorem leaves_serveReleaseJob : Leaves P (serveReleaseJob l ws s) := by
  unfold serveReleaseJob
  split
  · exact leaves_withJob fun i j => by simp [h]
  · simp

@[simp] theorem leaves_serveSetBha : Leaves P (serveSetBha l ws s) := by
  unfold serveSetBha
  split
  · refine leaves_withUnclosedJob fun i j => ?_
    split <;> simp [h]
  · simp

@[simp] theorem leaves_setRateItem (i : Fin 4) (j : Job) (item rate : Nat) :
    Leaves P (s.setRateItem i j item rate) := by
  unfold State.setRateItem
  split
  · simp
  · split <;> simp [h]

@[simp] theorem leaves_setBands (i : Fin 4) (j : Job) (b1 b2 : Nat) : Leaves P (s.setBands i j b1 b2) := by
  simp [State.setBands, h]

@[simp] theorem leaves_serveSetRate : Leaves P (serveSetRate l ws s) := by
  unfold serveSetRate
  split
  · refine leaves_withUnclosedJob fun i j => ?_
    split <;> simp [h]
  · simp

@[simp] theorem leaves_serveSetHoleSection : Leaves P (serveSetHoleSection l ws s) := by
  unfold serveSetHoleSection
  split
  · refine leaves_withUnclosedJob fun i j => ?_
    split <;> simp [h]
  · simp

@[simp] theorem leaves_serveClearHoleSection : Leaves P (serveClearHoleSection l ws s) := by
  unfold serveClearHoleSection
  split
  · refine leaves_withUnclosedJob fun i j => ?_
    split <;> simp [h]
  · simp

@[simp] theorem leaves_serveDown (value : Bool) : Leaves P (serveDown value l ws s) := by
  unfold serveDown
  split
  · exact leaves_withUnclosedJob fun i j => by simp [h]
  · simp

/-! #### Rod Roster -/

@[simp] theorem leaves_serveReadRodType : Leaves P (serveReadRodType l ws s) := by
  unfold serveReadRodType
  split
  · split <;> simp [h]
  · simp

@[simp] theorem leaves_serveSetRodType : Leaves P (serveSetRodType l ws s) := by
  unfold serveSetRodType
  split
  · simp only
    split <;> simp [h]
  · simp

@[simp] theorem leaves_enrol (tag : Nat) (type : Fin 4) (length : Nat) (place : RackPlace) :
    Leaves P (s.enrol tag type length place) := by
  unfold State.enrol
  split
  · simp
  · split <;> simp [h]

@[simp] theorem leaves_serveEnrolRod : Leaves P (serveEnrolRod l ws s) := by
  unfold serveEnrolRod
  split
  · split <;> simp [h]
  · simp

@[simp] theorem leaves_serveAmendRod : Leaves P (serveAmendRod l ws s) := by
  unfold serveAmendRod
  split
  · refine leaves_withRod fun i r => ?_
    split
    · split
      · simp
      · split <;> simp [h]
    · simp
  · simp

@[simp] theorem leaves_serveMoveRod : Leaves P (serveMoveRod l ws s) := by
  unfold serveMoveRod
  split
  · refine leaves_withRod fun i r => ?_
    split
    · split
      · simp
      · split <;> simp [h]
    · simp
  · simp

@[simp] theorem leaves_serveRetireRod : Leaves P (serveRetireRod l ws s) := by
  unfold serveRetireRod
  split
  · refine leaves_withRod fun i r => ?_
    split
    · split
      · simp
      · split <;> simp [h]
    · simp
  · simp

@[simp] theorem leaves_serveFindRod : Leaves P (serveFindRod l ws s) := by
  unfold serveFindRod
  split
  · split
    · simp
    · split
      · simp
      · split <;> simp [h]
  · simp

@[simp] theorem leaves_serveReadRod : Leaves P (serveReadRod l ws s) := by
  unfold serveReadRod
  split
  · exact leaves_withRod fun i r => by simp [h]
  · simp

@[simp] theorem leaves_serveListString : Leaves P (serveListString l ws s) := by
  unfold serveListString
  split <;> simp [h]

@[simp] theorem leaves_serveReadRoster : Leaves P (serveReadRoster l ws s) := by
  unfold serveReadRoster
  split <;> simp [h]

@[simp] theorem leaves_serveDeclareStringLost : Leaves P (serveDeclareStringLost l ws s) := by
  unfold serveDeclareStringLost
  split
  · split
    · simp
    · split <;> simp [h]
  · simp

/-! #### Well centre: reading, and the Depth Tracker's configuration -/

@[simp] theorem leaves_serveReadCentre : Leaves P (serveReadCentre l ws s) := by
  unfold serveReadCentre
  split <;> simp [h]

@[simp] theorem leaves_serveReadOperation : Leaves P (serveReadOperation l ws s) := by
  unfold serveReadOperation
  split <;> simp [h]

@[simp] theorem leaves_serveReadDepth : Leaves P (serveReadDepth l ws s) := by
  unfold serveReadDepth
  split <;> simp [h]

@[simp] theorem leaves_serveSetHeadConfig : Leaves P (serveSetHeadConfig l ws s) := by
  unfold serveSetHeadConfig
  split <;> simp [h]

/-! #### Pump Controller -/

@[simp] theorem leaves_serveReadPumps : Leaves P (serveReadPumps l ws s) := by
  unfold serveReadPumps
  split <;> simp [h]

@[simp] theorem leaves_serveSetPumpConfig : Leaves P (serveSetPumpConfig l ws s) := by
  unfold serveSetPumpConfig
  split
  · split <;> simp [h]
  · simp

@[simp] theorem leaves_serveSetCircConfig : Leaves P (serveSetCircConfig l ws s) := by
  unfold serveSetCircConfig
  split <;> simp [h]

@[simp] theorem leaves_serveSetPumpRate : Leaves P (serveSetPumpRate l ws s) := by
  unfold serveSetPumpRate
  split
  · split
    · simp
    · simp only [leaves_answer]
      split <;> simp [h]
  · simp

@[simp] theorem leaves_serveStopCirculation : Leaves P (serveStopCirculation l ws s) := by
  unfold serveStopCirculation
  split
  · split <;> simp [h]
  · simp

@[simp] theorem leaves_serveClearCircTotal : Leaves P (serveClearCircTotal l ws s) := by
  unfold serveClearCircTotal
  split <;> simp [h]

/-! #### Tank and Balance Unit -/

@[simp] theorem leaves_serveReadTanks : Leaves P (serveReadTanks l ws s) := by
  unfold serveReadTanks
  split <;> simp [h]

@[simp] theorem leaves_serveSetTankConfig : Leaves P (serveSetTankConfig l ws s) := by
  unfold serveSetTankConfig
  split
  · split <;> simp [h]
  · simp

@[simp] theorem leaves_serveSwapTanks : Leaves P (serveSwapTanks l ws s) := by
  unfold serveSwapTanks
  split <;> simp [h]

@[simp] theorem leaves_serveAddWater : Leaves P (serveAddWater l ws s) := by
  unfold serveAddWater
  split
  · split <;> simp [h]
  · simp

@[simp] theorem leaves_serveReadBalance : Leaves P (serveReadBalance l ws s) := by
  unfold serveReadBalance
  split <;> simp [h]

@[simp] theorem leaves_serveSetBalancePeriod : Leaves P (serveSetBalancePeriod l ws s) := by
  unfold serveSetBalancePeriod
  split <;> simp [h]

@[simp] theorem leaves_serveSetLossThresholds : Leaves P (serveSetLossThresholds l ws s) := by
  unfold serveSetLossThresholds
  split <;> simp [h]

/-! #### Additive store -/

@[simp] theorem leaves_serveAddAdditive : Leaves P (serveAddAdditive l ws s) := by
  unfold serveAddAdditive
  split
  · simp only
    split
    · simp
    · split
      · simp
      · split <;> simp [h]
  · simp

@[simp] theorem leaves_serveSetAdditivePrice : Leaves P (serveSetAdditivePrice l ws s) := by
  unfold serveSetAdditivePrice
  split
  · refine leaves_withAdditive fun i x => ?_
    split <;> simp [h]
  · simp

@[simp] theorem leaves_serveReadAdditive : Leaves P (serveReadAdditive l ws s) := by
  unfold serveReadAdditive
  split
  · exact leaves_withAdditive fun i x => by simp [h]
  · simp

@[simp] theorem leaves_serveReceiveAdditive : Leaves P (serveReceiveAdditive l ws s) := by
  unfold serveReceiveAdditive
  split
  · refine leaves_withAdditive fun i x => ?_
    split <;> simp [h]
  · simp

@[simp] theorem leaves_serveStockCount : Leaves P (serveStockCount l ws s) := by
  unfold serveStockCount
  split
  · refine leaves_withAdditive fun i x => ?_
    split <;> simp [h]
  · simp

@[simp] theorem leaves_serveDrawAdditive : Leaves P (serveDrawAdditive l ws s) := by
  unfold serveDrawAdditive
  split
  · refine leaves_withAdditive fun i x => ?_
    split
    · split
      · simp
      · split
        · simp
        · split <;> simp [h]
    · simp
  · simp

@[simp] theorem leaves_serveRetireAdditive : Leaves P (serveRetireAdditive l ws s) := by
  unfold serveRetireAdditive
  split
  · exact leaves_withAdditive fun i x => by simp [h]
  · simp

/-! #### Lag Calculator and Transit List -/

@[simp] theorem leaves_serveReadLag : Leaves P (serveReadLag l ws s) := by
  unfold serveReadLag
  split
  · refine leaves_withJob fun _ j => ?_
    split <;> simp [h]
  · simp

@[simp] theorem leaves_serveSetSurfaceLine : Leaves P (serveSetSurfaceLine l ws s) := by
  unfold serveSetSurfaceLine
  split <;> simp [h]

@[simp] theorem leaves_serveReadTransit : Leaves P (serveReadTransit l ws s) := by
  unfold serveReadTransit
  split <;> simp [h]

@[simp] theorem leaves_serveReadParcel : Leaves P (serveReadParcel l ws s) := by
  unfold serveReadParcel
  split
  · split
    · split <;> simp [h]
    · simp
  · simp

@[simp] theorem leaves_serveSetParcelStep : Leaves P (serveSetParcelStep l ws s) := by
  unfold serveSetParcelStep
  split <;> simp [h]

@[simp] theorem leaves_takeSample (lith : Nat) (yield : Option Nat) : Leaves P (s.takeSample lith yield) := by
  unfold State.takeSample
  split
  · simp
  · refine leaves_withSample fun a p => ?_
    split
    · simp
    next hb => simp [State.bindRange_engine hb, h]

@[simp] theorem leaves_serveTakeSample : Leaves P (serveTakeSample l ws s) := by
  unfold serveTakeSample
  split <;> simp [h]

@[simp] theorem leaves_serveRejectSample : Leaves P (serveRejectSample l ws s) := by
  unfold serveRejectSample
  split
  · exact leaves_withSample fun a p => by simp [h]
  · simp

/-! #### Strata Column -/

@[simp] theorem leaves_serveReadLithology : Leaves P (serveReadLithology l ws s) := by
  unfold serveReadLithology
  split <;> simp [h]

@[simp] theorem leaves_serveSetLithology : Leaves P (serveSetLithology l ws s) := by
  unfold serveSetLithology
  split
  · simp only
    split <;> simp [h]
  · simp

@[simp] theorem leaves_readPlace (j : Job) (k : Nat) : Leaves P (j.readPlace k s) := by
  unfold Job.readPlace
  split <;> simp [h]

@[simp] theorem leaves_serveReadInterval : Leaves P (serveReadInterval l ws s) := by
  unfold serveReadInterval
  split
  · refine leaves_withJob fun _ j => ?_
    split <;> simp [h]
  · simp

@[simp] theorem leaves_serveFormationChange : Leaves P (serveFormationChange l ws s) := by
  unfold serveFormationChange
  split
  · split
    · simp
    · split
      · simp
      · split
        · simp
        · split <;> simp [h]
  · simp

@[simp] theorem leaves_reviseInterval (i : Fin 4) (j : Job) (top bottom : Nat) (lith : Fin 64) :
    Leaves P (s.reviseInterval l i j top bottom lith) := by
  unfold State.reviseInterval
  split
  · simp
  · split
    · simp
    · split
      · simp
      next hb => simp [State.bindRange_engine hb, h]

@[simp] theorem leaves_serveReviseInterval : Leaves P (serveReviseInterval l ws s) := by
  unfold serveReviseInterval
  split
  · refine leaves_withUnclosedJob fun i j => ?_
    split
    · split <;> simp [h]
    · simp
  · simp

@[simp] theorem leaves_serveNoteWater : Leaves P (serveNoteWater l ws s) := by
  unfold serveNoteWater
  split
  · refine leaves_withUnclosedJob fun i j => ?_
    split <;> simp [h]
  · simp

/-! #### Job Sheet -/

@[simp] theorem leaves_serveReadSheet : Leaves P (serveReadSheet l ws s) := by
  unfold serveReadSheet
  split
  · refine leaves_withJob fun _ j => ?_
    split <;> simp [h]
  · simp

@[simp] theorem leaves_serveReadRates : Leaves P (serveReadRates l ws s) := by
  unfold serveReadRates
  split
  · exact leaves_withJob fun _ j => by simp [h]
  · simp

@[simp] theorem leaves_serveSettle : Leaves P (serveSettle l ws s) := by
  unfold serveSettle
  split
  · exact leaves_withUnclosedJob fun i j => by simp [h]
  · simp

end Requests

/-! ### Commands that leave the engine as it was -/

@[simp] theorem takeCoupledReport_engine (m : Message) (st : Station) (s : State) :
    (takeCoupledReport m st s).engine = s.engine := by
  unfold takeCoupledReport
  split <;> simp

@[simp] theorem takeHeightReport_engine (m : Message) (st : Station) (s : State) :
    (takeHeightReport m st s).engine = s.engine := by
  unfold takeHeightReport
  split <;> simp

@[simp] theorem takeLevelReport_engine (m : Message) (st : Station) (s : State) :
    (takeLevelReport m st s).engine = s.engine := by
  unfold takeLevelReport
  split
  · split <;> simp
  · simp

@[simp] theorem takeFlowReport_engine (m : Message) (st : Station) (s : State) :
    (takeFlowReport m st s).engine = s.engine := by
  unfold takeFlowReport
  split
  · split <;> simp
  · simp

/-- A command whose rule does not name the engine leaves it as it was. -/
theorem exec_engine_eq {c : Instr} {s t : State} (hc : Part.engine ∉ touched c) (hx : exec c s = .next t) :
    t.engine = s.engine := by
  cases c
  case initialise | makeUp | breakOut | stow | runBha | pullBha | abortOp | request | release | presented | tag
      | stowed | torqueMade | jointBroken | bhaSet | bhaClear | fault | free | powerUp | secondExpiry
      | minuteExpiry | stillExpiry =>
    simp [touched, requestParts, reportParts] at hc
  case nop r =>
    simp only [exec, execNop] at hx
    split at hx <;> obtain rfl := Host.Outcome.next.inj hx <;> simp
  case coupled | height | level | flow =>
    exact deliver_leaves (P := (· = s.engine)) rfl (fun _ => by simp) hx
  case strokePulse p =>
    obtain rfl := Host.Outcome.next.inj hx
    simp
  case linkReset g =>
    obtain rfl := Host.Outcome.next.inj hx
    simp only
    split <;> simp
  case rampExpiry p =>
    simp only [exec, execRampExpiry] at hx
    split at hx <;> obtain rfl := Host.Outcome.next.inj hx <;> simp
  case balanceExpiry =>
    simp only [exec, execBalanceExpiry] at hx
    split at hx <;> obtain rfl := Host.Outcome.next.inj hx <;> simp
  case mixHoldExpiry =>
    obtain rfl := Host.Outcome.next.inj hx
    split <;> simp
  case wakeWindowExpiry =>
    obtain rfl := Host.Outcome.next.inj hx
    simp
  case discardedFrame f =>
    simp only [exec, execDiscardedFrame] at hx
    split at hx
    · obtain rfl := Host.Outcome.next.inj hx; rfl
    · split at hx <;> obtain rfl := Host.Outcome.next.inj hx
      · simp
      · split <;> simp
  case discardedStationMessage b =>
    simp only [exec, execDiscardedStationMessage] at hx
    split at hx <;> obtain rfl := Host.Outcome.next.inj hx
    · simp
    · split <;> simp
  all_goals exact takeRequest_engine_eq (fun _ _ _ h => by simp [h]) hx

/-! ### Every way into AWAIT_TAG empties the register (R65) -/

/-- The register is empty where the operation in flight stands at AWAIT_TAG: what an entry into AWAIT_TAG leaves
(R65), and what a TAG taken there may end. -/
def Engine.TagRegEmpty (e : Engine) : Prop := ∀ o, e.op = some o → o.step = .awaitTag → o.tagReg = none

theorem tagRegEmpty_of_idle {e : Engine} (h : e.op = none) : e.TagRegEmpty := by
  simp [Engine.TagRegEmpty, h]

theorem tagRegEmpty_of_not_awaiting {e : Engine} (h : ∀ o, e.op = some o → o.step ≠ .awaitTag) : e.TagRegEmpty :=
  fun o ho hstep => absurd hstep (h o ho)

theorem tagRegEmpty_congr {e e' : Engine} (hop : e'.op = e.op) (h : e.TagRegEmpty) : e'.TagRegEmpty :=
  fun o ho => h o (hop ▸ ho)

theorem setStep_tagRegEmpty {p : OpStep} (hp : p ≠ .awaitTag) (o : Operation) (s : State) :
    (s.setStep p o).engine.TagRegEmpty :=
  tagRegEmpty_of_not_awaiting fun o' ho => by
    obtain rfl : { o with step := p } = o' := by simpa using ho
    exact hp

theorem toAwaitTag_tagRegEmpty (o : Operation) (s : State) : (s.toAwaitTag o).engine.TagRegEmpty :=
  fun o' ho _ => by
    obtain rfl : { o with step := .awaitTag, tagReg := none } = o' := by simpa [State.toAwaitTag] using ho
    rfl

theorem takeUp_tagRegEmpty {o : Operation} (ho : o.tagReg = none) (s : State) : (s.takeUp o).engine.TagRegEmpty :=
  fun o' h _ => by
    obtain rfl : o = o' := by simpa using h
    exact ho

section WellCentre

variable {s : State}

/-! #### Grants, requests and releases -/

theorem onGrant_tagRegEmpty (st : Station) (h : s.engine.TagRegEmpty) : (s.onGrant st).engine.TagRegEmpty := by
  unfold State.onGrant
  split
  · exact h
  · split
    · exact h
    · split
      · exact toAwaitTag_tagRegEmpty _ _
      · exact setStep_tagRegEmpty (by decide) _ _
      · split
        · exact setStep_tagRegEmpty (by decide) _ _
        · exact toAwaitTag_tagRegEmpty _ _
      · exact toAwaitTag_tagRegEmpty _ _
      · exact setStep_tagRegEmpty (by decide) _ _
      · exact setStep_tagRegEmpty (by decide) _ _

theorem grant_tagRegEmpty (st : Station) (h : s.engine.TagRegEmpty) : (s.grant st).engine.TagRegEmpty :=
  onGrant_tagRegEmpty st h

theorem grantTest_tagRegEmpty (h : s.engine.TagRegEmpty) : s.grantTest.engine.TagRegEmpty := by
  unfold State.grantTest
  split
  · split
    · exact grant_tagRegEmpty _ h
    · exact h
  · exact h

theorem endHolding_tagRegEmpty (h : s.engine.TagRegEmpty) : s.endHolding.engine.TagRegEmpty := by
  simp only [State.endHolding]
  split
  · exact h
  · split
    · exact grant_tagRegEmpty _ h
    · exact h

theorem joinSet_tagRegEmpty (st : Station) (h : s.engine.TagRegEmpty) : (s.joinSet st).engine.TagRegEmpty := by
  unfold State.joinSet
  split
  · exact h
  · exact grantTest_tagRegEmpty h

theorem engineRequest_tagRegEmpty (st : Station) (h : s.engine.TagRegEmpty) :
    (s.engineRequest st).engine.TagRegEmpty := by
  unfold State.engineRequest
  split
  · exact onGrant_tagRegEmpty st h
  · exact joinSet_tagRegEmpty st h

theorem engineRelease_tagRegEmpty (st : Station) (h : s.engine.TagRegEmpty) :
    (s.engineRelease st).engine.TagRegEmpty := by
  unfold State.engineRelease
  split
  · exact endHolding_tagRegEmpty h
  · exact h

theorem stationRequest_tagRegEmpty (st : Station) (h : s.engine.TagRegEmpty) :
    (s.stationRequest st).engine.TagRegEmpty := by
  unfold State.stationRequest
  split
  · exact h
  · exact joinSet_tagRegEmpty st h

/-! #### The ends of an operation -/

theorem endOp_tagRegEmpty (o : Operation) (x : OpOutcome) (st : Option Station) (v : Nat) (s : State) :
    (s.endOp o x st v).engine.TagRegEmpty := tagRegEmpty_of_idle rfl

theorem endOp_release_tagRegEmpty (o : Operation) (x : OpOutcome) (st : Option Station) (v : Nat) (want : Station)
    (s : State) : ((s.endOp o x st v).engineRelease want).engine.TagRegEmpty :=
  engineRelease_tagRegEmpty want (endOp_tagRegEmpty o x st v s)

theorem withdraw_tagRegEmpty (o : Operation) (h : s.engine.TagRegEmpty) : (s.withdraw o).engine.TagRegEmpty := by
  unfold State.withdraw
  cases o.step.awaits <;> cases o.step.holds
  · exact h
  · exact engineRelease_tagRegEmpty _ h
  · exact h
  · exact engineRelease_tagRegEmpty _ h

theorem abandon_tagRegEmpty (o : Operation) (x : OpOutcome) (st : Option Station) (v : Nat) (s : State) :
    (s.abandon o x st v).engine.TagRegEmpty := withdraw_tagRegEmpty o (endOp_tagRegEmpty _ _ _ _ _)

theorem stationRelease_tagRegEmpty (st : Station) (h : s.engine.TagRegEmpty) :
    (s.stationRelease st).engine.TagRegEmpty := by
  unfold State.stationRelease
  split
  · exact h
  · split
    · split
      · split
        · exact endHolding_tagRegEmpty (endOp_tagRegEmpty _ _ _ _ _)
        · exact endHolding_tagRegEmpty h
      · exact endHolding_tagRegEmpty h
    · split
      · simp only
        split
        · split
          · exact endOp_tagRegEmpty _ _ _ _ _
          · exact h
        · exact h
      · exact h

/-! #### The requests of an operation -/

theorem beginOp_tagRegEmpty {o : Operation} (ho : o.tagReg = none) (st : Station) :
    Leaves Engine.TagRegEmpty (s.beginOp o st) :=
  engineRequest_tagRegEmpty st (takeUp_tagRegEmpty ho s)

@[simp] theorem acceptMakeUp_tagRegEmpty (i : Fin 128) (r : Rod) (src : OpSource) :
    Leaves Engine.TagRegEmpty (s.acceptMakeUp i r src) := by
  unfold State.acceptMakeUp
  split
  · exact takeUp_tagRegEmpty rfl s
  · exact beginOp_tagRegEmpty rfl _

theorem serveMakeUp_tagRegEmpty (level : Nat) (ws : List Word) :
    Leaves Engine.TagRegEmpty (serveMakeUp level ws s) := by
  unfold serveMakeUp
  split
  · split
    · simp
    · refine leaves_withIdleJob fun _ j => ?_
      split
      · simp
      · split
        · simp
        · split
          · simp
          · split
            · simp
            · split <;> simp
  · simp

@[simp] theorem beginOp_stowing_tagRegEmpty (kind : OpKind) (step : OpStep) (i : Fin 128) (r : Rod)
    (dest : RackPlace) (st : Station) : Leaves Engine.TagRegEmpty (s.beginOp (stowingOp kind step i r dest) st) :=
  beginOp_tagRegEmpty rfl st

@[simp] theorem beginOp_bha_tagRegEmpty (kind : OpKind) (st : Station) :
    Leaves Engine.TagRegEmpty (s.beginOp (bhaOp kind) st) :=
  beginOp_tagRegEmpty rfl st

theorem serveBreakOut_tagRegEmpty (level : Nat) (ws : List Word) :
    Leaves Engine.TagRegEmpty (serveBreakOut level ws s) := by
  unfold serveBreakOut
  split
  · split
    · simp
    · refine leaves_withIdleJob fun _ _ => ?_
      split
      · simp
      · split <;> simp
  · simp

theorem serveStow_tagRegEmpty (level : Nat) (ws : List Word) :
    Leaves Engine.TagRegEmpty (serveStow level ws s) := by
  unfold serveStow
  split
  · split
    · simp
    · refine leaves_withIdleJob fun _ _ => ?_
      split
      · simp
      · split <;> simp
  · simp

theorem serveRunBha_tagRegEmpty (level : Nat) (ws : List Word) :
    Leaves Engine.TagRegEmpty (serveRunBha level ws s) := by
  unfold serveRunBha
  split
  · exact leaves_withIdleJob fun _ j => by simp
  · simp

theorem servePullBha_tagRegEmpty (level : Nat) (ws : List Word) :
    Leaves Engine.TagRegEmpty (servePullBha level ws s) := by
  unfold servePullBha
  split
  · exact leaves_withIdleJob fun _ j => by simp
  · simp

theorem serveAbortOp_tagRegEmpty (level : Nat) (ws : List Word) :
    Leaves Engine.TagRegEmpty (serveAbortOp level ws s) := by
  unfold serveAbortOp
  split
  · split
    · simp
    · exact abandon_tagRegEmpty _ _ _ _ _
  · simp

theorem serveInitialise_tagRegEmpty (level : Nat) (ws : List Word) :
    Leaves Engine.TagRegEmpty (serveInitialise level ws s) := by
  unfold serveInitialise
  split
  · split
    · exact tagRegEmpty_of_idle rfl
    · simp
  · simp

/-! #### The reports -/

theorem atStep_tagRegEmpty {step : OpStep} {want : Station} {kind : Nat} {k : Operation → State → State}
    (hk : ∀ o, s.engine.op = some o → o.step = step → (k o s).engine.TagRegEmpty) (m : Message) (st : Station)
    (h : s.engine.TagRegEmpty) : (atStep step want kind k m st s).engine.TagRegEmpty := by
  unfold atStep
  split
  · exact h
  next o ho =>
    split
    next hfit => exact hk o ho hfit.2
    · exact h

theorem takeRequestReport_tagRegEmpty (m : Message) (st : Station) (h : s.engine.TagRegEmpty) :
    (takeRequestReport m st s).engine.TagRegEmpty := by
  unfold takeRequestReport
  split
  · exact h
  · rw [State.wake_engine]
    exact stationRequest_tagRegEmpty st h

theorem takeReleaseReport_tagRegEmpty (m : Message) (st : Station) (h : s.engine.TagRegEmpty) :
    (takeReleaseReport m st s).engine.TagRegEmpty := by
  unfold takeReleaseReport
  split
  · exact h
  · exact stationRelease_tagRegEmpty st h

theorem takeStowed_tagRegEmpty (o : Operation) (s : State) : (takeStowed o s).engine.TagRegEmpty :=
  endOp_release_tagRegEmpty _ _ _ _ _ _

theorem takeBhaSet_tagRegEmpty (o : Operation) (s : State) : (takeBhaSet o s).engine.TagRegEmpty :=
  endOp_release_tagRegEmpty _ _ _ _ _ _

theorem takeBhaClear_tagRegEmpty (o : Operation) (s : State) : (takeBhaClear o s).engine.TagRegEmpty :=
  endOp_release_tagRegEmpty _ _ _ _ _ _

theorem takeTorqueMade_tagRegEmpty (m : Message) (st : Station) (h : s.engine.TagRegEmpty) :
    (takeTorqueMade m st s).engine.TagRegEmpty := by
  unfold takeTorqueMade
  split
  · exact h
  · split
    · exact endOp_tagRegEmpty _ _ _ _ _
    · exact h

theorem takeJointBroken_tagRegEmpty (o : Operation) (s : State) : (takeJointBroken o s).engine.TagRegEmpty :=
  engineRelease_tagRegEmpty _ (engineRequest_tagRegEmpty _ (setStep_tagRegEmpty (by decide) _ _))

theorem takeFault_tagRegEmpty (m : Message) (st : Station) (h : s.engine.TagRegEmpty) :
    (takeFault m st s).engine.TagRegEmpty := by
  unfold takeFault
  split
  · exact h
  · split
    · exact abandon_tagRegEmpty _ _ _ _ _
    · exact h

theorem headFreed_tagRegEmpty (h : s.engine.TagRegEmpty) : s.headFreed.engine.TagRegEmpty := by
  simp only [State.headFreed]
  split
  · exact grantTest_tagRegEmpty h
  · rw [State.closeForming_engine]
    exact grantTest_tagRegEmpty h

theorem takeFreeReport_tagRegEmpty (m : Message) (st : Station) (h : s.engine.TagRegEmpty) :
    (takeFreeReport m st s).engine.TagRegEmpty := by
  unfold takeFreeReport State.takeFree
  split
  · split
    · exact headFreed_tagRegEmpty h
    · exact h
  · exact h

/-! #### The timers -/

theorem stillExpiry_tagRegEmpty (h : s.engine.TagRegEmpty) : s.stillExpiry.engine.TagRegEmpty := by
  unfold State.stillExpiry
  split
  · exact grantTest_tagRegEmpty h
  · exact h

theorem stillTick_tagRegEmpty (h : s.engine.TagRegEmpty) : s.stillTick.engine.TagRegEmpty := by
  unfold State.stillTick
  split
  · exact h
  · split
    · exact stillExpiry_tagRegEmpty h
    · exact h

theorem pumpSecond_tagRegEmpty (h : s.engine.TagRegEmpty) : s.pumpSecond.engine.TagRegEmpty := by
  simp only [State.pumpSecond]
  split
  · exact h
  · exact stillTick_tagRegEmpty h

/-- A drawn order serves receivers of the list alone. -/
theorem mem_of_mem_permuteBy {α : Type} {x : α} :
    ∀ {fuel n : Nat} {xs : List α}, x ∈ permuteBy fuel n xs → x ∈ xs
  | 0, _, _, hx => hx
  | fuel + 1, n, xs, hx => by
    unfold permuteBy at hx
    split at hx
    · exact hx
    next y hy =>
      obtain rfl | hx := List.mem_cons.1 hx
      · exact List.mem_of_getElem? hy
      · exact List.mem_of_mem_eraseIdx (mem_of_mem_permuteBy hx)

theorem expiryReceivers_tagRegEmpty {f : State → State} (hf : f ∈ expiryReceivers) (h : s.engine.TagRegEmpty) :
    (f s).engine.TagRegEmpty := by
  simp only [expiryReceivers, List.mem_cons, List.not_mem_nil, or_false] at hf
  obtain rfl | rfl | rfl | rfl | rfl := hf
  · exact pumpSecond_tagRegEmpty h
  · rwa [State.balanceSecond_engine]
  · exact tagRegEmpty_congr (State.sheetMinute_op s) h
  · rwa [State.mixMinute_engine]
  · rwa [State.windowMinute_engine]

/-- Receivers of an expiry, served in any order. -/
theorem serveReceivers_tagRegEmpty {fs : List (State → State)} (hfs : ∀ f ∈ fs, f ∈ expiryReceivers)
    (h : s.engine.TagRegEmpty) : (fs.foldl (fun s f => f s) s).engine.TagRegEmpty :=
  List.foldlRecOn fs (fun s f => f s) (motive := fun t => t.engine.TagRegEmpty) h
    fun _ ht f hf => expiryReceivers_tagRegEmpty (hfs f hf) ht

theorem execSecondExpiry_tagRegEmpty {t : State} (hx : execSecondExpiry s = .next t) (h : s.engine.TagRegEmpty) :
    t.engine.TagRegEmpty := by
  obtain rfl := Host.Outcome.next.inj hx
  split
  · rw [State.secondTurn, State.balanceSecond_engine]
    exact pumpSecond_tagRegEmpty h
  · exact serveReceivers_tagRegEmpty (fun _ => mem_of_mem_permuteBy) h

theorem execMinuteExpiry_tagRegEmpty {t : State} (hx : execMinuteExpiry s = .next t) (h : s.engine.TagRegEmpty) :
    t.engine.TagRegEmpty := by
  have hsub : minuteReceivers ⊆ expiryReceivers := by simp [minuteReceivers, expiryReceivers]
  obtain rfl := Host.Outcome.next.inj hx
  exact serveReceivers_tagRegEmpty (fun _ hf => hsub (mem_of_mem_permuteBy hf)) h

end WellCentre

/-- Every command that finds no operation at AWAIT_TAG leaves the register empty wherever it brings one there. -/
theorem exec_tagRegEmpty {c : Instr} {s t : State} (hx : exec c s = .next t)
    (hs : ∀ o, s.engine.op = some o → o.step ≠ .awaitTag) : t.engine.TagRegEmpty := by
  have h : s.engine.TagRegEmpty := tagRegEmpty_of_not_awaiting hs
  by_cases hc : Part.engine ∈ touched c
  case neg => rwa [exec_engine_eq hc hx]
  cases c
  case initialise => exact takeRequest_leaves h (fun _ => serveInitialise_tagRegEmpty ..) hx
  case makeUp => exact takeRequest_leaves h (fun _ => serveMakeUp_tagRegEmpty ..) hx
  case breakOut => exact takeRequest_leaves h (fun _ => serveBreakOut_tagRegEmpty ..) hx
  case stow => exact takeRequest_leaves h (fun _ => serveStow_tagRegEmpty ..) hx
  case runBha => exact takeRequest_leaves h (fun _ => serveRunBha_tagRegEmpty ..) hx
  case pullBha => exact takeRequest_leaves h (fun _ => servePullBha_tagRegEmpty ..) hx
  case abortOp => exact takeRequest_leaves h (fun _ => serveAbortOp_tagRegEmpty ..) hx
  case request m => exact deliver_leaves h (fun st => takeRequestReport_tagRegEmpty m st h) hx
  case release m => exact deliver_leaves h (fun st => takeReleaseReport_tagRegEmpty m st h) hx
  case presented m =>
    exact deliver_leaves h (fun st => atStep_tagRegEmpty (fun o _ _ => toAwaitTag_tagRegEmpty o s) m st h) hx
  case tag m =>
    exact deliver_leaves h (fun st => atStep_tagRegEmpty (fun o ho hstep => absurd hstep (hs o ho)) m st h) hx
  case stowed m =>
    exact deliver_leaves h (fun st => atStep_tagRegEmpty (fun o _ _ => takeStowed_tagRegEmpty o s) m st h) hx
  case torqueMade m => exact deliver_leaves h (fun st => takeTorqueMade_tagRegEmpty m st h) hx
  case jointBroken m =>
    exact deliver_leaves h (fun st => atStep_tagRegEmpty (fun o _ _ => takeJointBroken_tagRegEmpty o s) m st h) hx
  case bhaSet m =>
    exact deliver_leaves h (fun st => atStep_tagRegEmpty (fun o _ _ => takeBhaSet_tagRegEmpty o s) m st h) hx
  case bhaClear m =>
    exact deliver_leaves h (fun st => atStep_tagRegEmpty (fun o _ _ => takeBhaClear_tagRegEmpty o s) m st h) hx
  case fault m => exact deliver_leaves h (fun st => takeFault_tagRegEmpty m st h) hx
  case free m => exact deliver_leaves h (fun st => takeFreeReport_tagRegEmpty m st h) hx
  case powerUp =>
    obtain rfl := Host.Outcome.next.inj hx
    exact tagRegEmpty_of_idle rfl
  case secondExpiry => exact execSecondExpiry_tagRegEmpty hx h
  case minuteExpiry => exact execMinuteExpiry_tagRegEmpty hx h
  case stillExpiry =>
    obtain rfl := Host.Outcome.next.inj hx
    split
    · exact h
    · exact stillExpiry_tagRegEmpty h
  all_goals simp [touched, requestParts, reportParts] at hc

/-! ### TAG -/

section Tag

variable {m : Message} {s : State} {o : Operation}

theorem exec_tag_delivered {st : Station} (h : Delivered 4 st m) :
    exec (.tag m) s = .next (atStep .awaitTag .loader 4 (takeTag m.value) m st s) :=
  deliver_good _ s h

theorem atStep_fits {step : OpStep} {want : Station} {kind : Nat} {k : Operation → State → State}
    (ho : s.engine.op = some o) (hstep : o.step = step) : atStep step want kind k m want s = k o s := by
  simp [atStep, ho, hstep]

theorem atStep_misfits {step : OpStep} {want st : Station} {kind : Nat} {k : Operation → State → State}
    (ho : s.engine.op = some o) (h : o.step ≠ step ∨ st ≠ want) :
    atStep step want kind k m st s = s.unexpected m kind (some o.step) := by
  have hn : ¬(st = want ∧ o.step = step) := fun hfit => h.elim (· hfit.2) (· hfit.1)
  simp [atStep, ho, hn, State.notFitting]

theorem setStep_present {p : OpStep} (x : Option Nat) (h : o.step = p) :
    s.setStep p { o with tagReg := x }
      = { s with engine := { s.engine with op := some { o with tagReg := x } } } := by
  subst h
  rfl

theorem takeTag_zero {v : BitVec 32} (hv : v.toNat = 0) :
    takeTag v o s = s.setStep .awaitTag { o with tagReg := none } := by
  rw [takeTag, if_pos hv]

theorem takeTag_replaces {v : BitVec 32} (hv : v.toNat ≠ 0) (hr : o.tagReg ≠ some v.toNat) :
    takeTag v o s = s.setStep .awaitTag { o with tagReg := some v.toNat } := by
  rw [takeTag, if_neg hv, if_pos hr]

theorem takeTag_confirms {v : BitVec 32} (hv : v.toNat ≠ 0) (hr : o.tagReg = some v.toNat) :
    takeTag v o s = if o.expected = some v.toNat then s.tagMatched { o with tagReg := none }
      else s.tagDiffers { o with tagReg := none } v.toNat := by
  rw [takeTag, if_neg hv, if_neg (not_not_intro hr)]

end Tag

/-- Settles O31: a TAG by the lemmas on `takeTag` and `atStep`, the entry into AWAIT_TAG by `exec_tagRegEmpty`. -/
theorem tagRegisterRule : Obligations.TagRegisterRule := by
  refine ⟨fun m s o ho => ⟨fun hd hstep => ?taken, fun st hd hmis => ?discarded⟩,
    fun c s t o hx hs => exec_tagRegEmpty hx hs o⟩
  case taken =>
    rw [exec_tag_delivered hd, atStep_fits ho hstep]
    refine ⟨fun hv => ?empties, fun hv hr => ?replaces, fun hv hr => ?confirms⟩
    case empties => rw [takeTag_zero hv, setStep_present none hstep]
    case replaces => rw [takeTag_replaces hv hr, setStep_present _ hstep]
    case confirms => rw [takeTag_confirms hv hr]
  case discarded =>
    rw [exec_tag_delivered hd, atStep_misfits ho hmis]
    rfl

end Sys2Proof.Machine
end

section
/-! PROOFS. Amounts (R169): the saturation of a figure, the four formulas by group of lines, the amount of a quantity
and of its negative, and the statement that puts them together. -/

namespace Sys2Proof.Machine

/-! ### Saturation -/

theorem clampLine_natCast (n : Nat) : clampLine n = min (n : Int) 2147483647 := by
  unfold clampLine lineLimit
  omega

theorem clampLine_neg (z : Int) : clampLine (-z) = -clampLine z := by
  unfold clampLine lineLimit
  omega

/-! ### The four formulas (the table of R169) -/

section Formulas
variable {line : Fin 40} (price q : Nat)

theorem amountNat_footage (h : line.val < 12) : amountNat line price q = (q * price + 50) / 100 :=
  if_pos h

theorem amountNat_activity (hlow : 12 ≤ line.val) (hhigh : line.val < 18) :
    amountNat line price q = (q * price + 30) / 60 := by
  rw [amountNat, if_neg (not_lt.mpr hlow), if_pos hhigh]

theorem amountNat_lostMud (h : line.val = 34) : amountNat line price q = (q * price + 500) / 1000 := by
  rw [amountNat, if_neg (by omega), if_neg (by omega), if_pos h]

theorem amountNat_counted (hlow : 18 ≤ line.val) (hmud : line.val ≠ 34) :
    amountNat line price q = q * price := by
  rw [amountNat, if_neg (by omega), if_neg (by omega), if_neg hmud]

end Formulas

/-- Each addend is below its divisor, so no formula rounds a quantity of 0 up. -/
theorem amountNat_zero (line : Fin 40) (price : Nat) : amountNat line price 0 = 0 := by
  simp [amountNat]

/-! ### Signed quantities -/

theorem rawAmount_of_nonneg (line : Fin 40) (price : Nat) {q : Int} (h : 0 ≤ q) :
    rawAmount line price q = amountNat line price q.natAbs :=
  if_neg (not_lt.mpr h)

theorem rawAmount_of_neg (line : Fin 40) (price : Nat) {q : Int} (h : q < 0) :
    rawAmount line price q = -(amountNat line price q.natAbs : Int) :=
  if_pos h

/-- The amount is odd in the quantity; at 0 both sides are 0, because 0 rounds to 0. -/
theorem rawAmount_neg (line : Fin 40) (price : Nat) (q : Int) :
    rawAmount line price (-q) = -rawAmount line price q := by
  obtain hq | rfl | hq := lt_trichotomy q 0
  · rw [rawAmount_of_nonneg line price (by omega), rawAmount_of_neg line price hq, Int.natAbs_neg, neg_neg]
  · simp [rawAmount_of_nonneg, amountNat_zero]
  · rw [rawAmount_of_neg line price (by omega), rawAmount_of_nonneg line price hq.le, Int.natAbs_neg]

theorem lineAmount_natCast (line : Fin 40) (price q : Nat) :
    lineAmount line price q = min (amountNat line price q : Int) 2147483647 := by
  rw [lineAmount, rawAmount_of_nonneg line price (Int.natCast_nonneg q), Int.natAbs_natCast, clampLine_natCast]

theorem lineAmount_neg (line : Fin 40) (price : Nat) (q : Int) :
    lineAmount line price (-q) = -lineAmount line price q := by
  rw [lineAmount, rawAmount_neg, clampLine_neg, lineAmount]

/-- Settles O59: a quantity of at least 0 by the formula of its group of lines, a negative one by `lineAmount_neg`. -/
theorem amountRule : Obligations.AmountRule := by
  intro line price q _ _
  refine ⟨fun hline => ?footage, fun hlow hhigh => ?activity, fun hline => ?lostMud, fun hlow hmud => ?counted,
    lineAmount_neg line price q⟩
  case footage => rw [lineAmount_natCast, amountNat_footage price q (by omega)]
  case activity => rw [lineAmount_natCast, amountNat_activity price q (by omega) (by omega)]
  case lostMud => rw [lineAmount_natCast, amountNat_lostMud price q (by omega)]
  case counted => rw [lineAmount_natCast, amountNat_counted price q (by omega) (by omega)]

end Sys2Proof.Machine
end

section
/-! PROOFS. NOP (R181): a frame that passes the checks has no bits left over, so it clocks out whole words, and the
statement that follows. -/

namespace Sys2Proof.Machine

/-- A frame with bits left over is LINK_SHORT, the first check of R179. -/
theorem tail_eq_nil_of_judgeFrame_ok {f : RawFrame} {ws : List Word} (h : judgeFrame f = .ok ws) : f.tail = [] := by
  unfold judgeFrame at h
  split at h
  · contradiction
  · split at h
    · contradiction
    next hlen =>
      push Not at hlen
      exact hlen.1

/-- A request frame that passes the checks is its header and its words, with no bit besides. -/
theorem frameBits_requestFrame {code : Byte} {r : Request} {ws : List Word}
    (h : judgeFrame (requestFrame code r) = .ok ws) :
    frameBits (requestFrame code r) = 16 * (r.words.length + 1) := by
  have htail : r.tail = [] := tail_eq_nil_of_judgeFrame_ok h
  simp [frameBits, requestFrame, htail]

theorem exec_nop_good {r : Request} {ws : List Word} (s : State) (h : judgeFrame (requestFrame 0 r) = .ok ws) :
    exec (.nop r) s = .next (s.clockOut (frameBits (requestFrame 0 r))) := by
  simp only [exec, execNop, h]

theorem exec_nop_bad_frame {r : Request} {status : Status} (s : State)
    (h : judgeFrame (requestFrame 0 r) = .error status) :
    exec (.nop r) s = .next ((s.clockOut (frameBits (requestFrame 0 r))).linkError status) := by
  simp only [exec, execNop, h]

/-- Settles O11, by what `judgeFrame` makes of the frame. -/
theorem nopLeavesTheBuffer : Obligations.NopLeavesTheBuffer := by
  refine fun r s => ⟨fun ws h => ?good, fun status h => exec_nop_bad_frame s h⟩
  case good =>
    rw [exec_nop_good s h, frameBits_requestFrame h]
    rfl

end Sys2Proof.Machine
end

section
/-! PROOFS. The attention set and the ATTN line (R185, R186): the entries that a raising, power-up and initialisation
leave, when the line is asserted, and the statement that puts them together. -/

namespace Sys2Proof.Machine

/-! ### Raising a kind -/

theorem State.raise_attn_same (k : AttnKind) (d : Detail) (s : State) :
    (s.raise k d).attn[k.ix] = s.attn[k.ix].raised d := by
  simp

theorem State.raise_attn_other {k : AttnKind} {n : Fin 22} (d : Detail) (s : State) (h : n ≠ k.ix) :
    (s.raise k d).attn[n] = s.attn[n] := by
  have hval : k.ix.val ≠ n.val := fun he => h (Fin.ext he.symm)
  simp [Vector.getElem_set_ne, hval]

/-! ### Power-up -/

theorem exec_powerUp (s : State) : exec .powerUp s = .next (s.comeUp.raise .powerUp .none) := rfl

theorem State.comeUp_attn (n : Fin 22) (s : State) : s.comeUp.attn[n] = s.attn[n].powerUp := by
  simp [State.comeUp]

/-- POWER_UP is raised on an entry that keeps its mask alone, so its count is 1. -/
theorem powerUp_attn_same (s : State) :
    (s.comeUp.raise .powerUp .none).attn[AttnKind.powerUp.ix] = s.attn[AttnKind.powerUp.ix].powerUp.raised .none := by
  rw [State.raise_attn_same, State.comeUp_attn]

theorem powerUp_attn_other {n : Fin 22} (s : State) (h : n ≠ AttnKind.powerUp.ix) :
    (s.comeUp.raise .powerUp .none).attn[n] = s.attn[n].powerUp := by
  rw [State.raise_attn_other _ _ h, State.comeUp_attn]

/-! ### Initialisation -/

/-- Outside WAKING there is no wake window for an acceptance to end (R7). -/
theorem State.endWake_of_not_waking (cls : ReqClass) {s : State} (h : s.mode.mode ≠ .waking) : s.endWake cls = s :=
  if_neg fun hw => h hw.1

theorem mode_of_admission_setup {required : Nat} {r : Request} {s : State}
    (h : admission required .setup r s = none) : s.mode.mode = .setup := by
  unfold admission at h
  split_ifs at h with _ _ hserved
  simpa [served] using hserved

/-- An INITIALISE that is taken finds SETUP, so no wake window ends with it. -/
theorem exec_initialise_stopped {r : Request} {s : State} (h : Taken 5 0 .setup [] r s)
    (hstop : s.pumps.circ = .stopped) :
    exec (.initialise r) s = .next ((s.heard 5 r).initialised.respond .ok []) := by
  have hserve : serveInitialise r.level.toNat [] (s.heard 5 r) = accept (s.heard 5 r).initialised := if_pos hstop
  have hmode : (s.heard 5 r).initialised.mode.mode ≠ .waking := by
    change s.mode.mode ≠ .waking
    simp [mode_of_admission_setup h.2]
  calc exec (.initialise r) s
      = .next (reply .setup (s.heard 5 r) (serveInitialise r.level.toNat [] (s.heard 5 r))) :=
        takeRequest_taken serveInitialise h
    _ = .next (((s.heard 5 r).initialised.endWake .setup).respond .ok []) := by rw [hserve]; rfl
    _ = .next ((s.heard 5 r).initialised.respond .ok []) := by rw [State.endWake_of_not_waking .setup hmode]

theorem State.initialised_attn (n : Fin 22) (s : State) :
    s.initialised.attn[n] = { s.attn[n] with mask := false } := by
  simp [State.initialised, maskKinds, kindSet]

/-! ### Link reset -/

theorem exec_linkReset_attn {g : List Bool} {s t : State} (h : exec (.linkReset g) s = .next t) :
    t.attn = s.attn := by
  obtain rfl := Host.Outcome.next.inj h
  change (if g = [] then s else s.clockOut g.length).attn = s.attn
  split
  · rfl
  · exact State.clockOut_attn _ s

/-! ### The ATTN line (R186) -/

theorem State.attnLine_iff (s : State) :
    s.attnLine = true ↔ ∃ n : Fin 22, s.attn[n].pending = true ∧ s.attn[n].mask = false := by
  simp [State.attnLine, Vector.any_eq_true, Fin.exists_iff]

/-- With one kind alone pending, its mask decides. -/
theorem State.attnLine_of_pending_only {k : Fin 22} {s : State} (hk : s.attn[k].pending = true)
    (hother : ∀ n : Fin 22, n ≠ k → s.attn[n].pending = false) : s.attnLine = !s.attn[k].mask := by
  rw [Bool.eq_iff_iff, State.attnLine_iff, Bool.not_eq_true']
  constructor
  · rintro ⟨n, hpending, hmask⟩
    obtain rfl : n = k := by
      by_contra hne
      rw [hother n hne] at hpending
      contradiction
    exact hmask
  · exact fun hmask => ⟨k, hk, hmask⟩

theorem powerUp_attnLine (s : State) :
    (s.comeUp.raise .powerUp .none).attnLine = !s.attn[AttnKind.powerUp.ix].mask := by
  rw [State.attnLine_of_pending_only (k := AttnKind.powerUp.ix), powerUp_attn_same]
  · rfl
  · rw [powerUp_attn_same]; rfl
  · intro n hn
    rw [powerUp_attn_other s hn]
    rfl

/-- Settles O12, one clause per event that reaches the set and two for the line. -/
theorem attentionSetRule : Obligations.AttentionSetRule := by
  refine ⟨fun k d s => ⟨State.raise_attn_same k d s, fun _ => State.raise_attn_other d s, State.raise_frame k d s⟩,
    fun s t hx => ?powerUp, fun r s t htaken hstop hx n => ?initialise, fun g s t => exec_linkReset_attn,
    State.attnLine_iff, fun s t hx => ?line⟩
  case powerUp =>
    obtain rfl := Host.Outcome.next.inj ((exec_powerUp s).symm.trans hx)
    exact ⟨powerUp_attn_same s, fun n hn => powerUp_attn_other s hn⟩
  case initialise =>
    obtain rfl := Host.Outcome.next.inj ((exec_initialise_stopped htaken hstop).symm.trans hx)
    exact State.initialised_attn n (s.heard 5 r)
  case line =>
    obtain rfl := Host.Outcome.next.inj ((exec_powerUp s).symm.trans hx)
    exact powerUp_attnLine s

end Sys2Proof.Machine
end

section
/-! PROOFS. What an accepted request can leave: for every request of the catalogue its block's answers, said once. A
refusal answers neither OK nor PENDING; an acceptance answers one of the two and leaves a state of the form named. -/

namespace Sys2Proof.Machine

/-! ### Answers -/

/-- A block's answer is a refusal by a status other than OK and PENDING, or an acceptance by one of these two that
leaves a state meeting `P` (R2, R32). -/
def Answers (P : State → Prop) : Reply → Prop
  | .error status => status ≠ .ok ∧ status ≠ .pending
  | .ok a => (a.status = .ok ∨ a.status = .pending) ∧ P a.state

section Answers

variable {P Q : State → Prop} {s t : State}

@[simp] theorem answers_error {status : Status} :
    Answers P (.error status) ↔ status ≠ .ok ∧ status ≠ .pending := Iff.rfl

@[simp] theorem answers_accept : Answers P (accept t) ↔ P t := by simp [Answers, accept]

@[simp] theorem answers_answer {payload : List Word} : Answers P (answer payload t) ↔ P t := by
  simp [Answers, answer]

@[simp] theorem answers_pending {payload : List Word} : Answers P (.ok ⟨.pending, payload, t⟩) ↔ P t := by
  simp [Answers]

theorem Answers.mono {x : Reply} (h : Answers P x) (hPQ : ∀ u, P u → Q u) : Answers Q x := by
  cases x with
  | error status => exact h
  | ok a => exact ⟨h.1, hPQ _ h.2⟩

theorem answers_withJob {w : Word} {k : Fin 4 → Job → Reply}
    (hk : ∀ i j, s.job? i = some j → Answers P (k i j)) : Answers P (withJob w s k) := by
  unfold withJob
  split
  · simp
  next i _ =>
    split
    · simp
    next j hj =>
      split
      · simp
      · exact hk i j hj

theorem answers_withUnclosedJob {w : Word} {k : Fin 4 → Job → Reply}
    (hk : ∀ i j, s.job? i = some j → j.phase ≠ .closed → Answers P (k i j)) :
    Answers P (withUnclosedJob w s k) := by
  refine answers_withJob fun i j hj => ?_
  split
  · simp
  next hc => exact hk i j hj hc

theorem answers_withRod {w : Word} {k : Fin 128 → Rod → Reply}
    (hk : ∀ i r, s.rod? i = some r → Answers P (k i r)) : Answers P (withRod w s k) := by
  unfold withRod
  split
  · simp
  next i _ =>
    split
    · simp
    next r hr =>
      split
      · simp
      · exact hk i r hr

theorem answers_withAdditive {w : Word} {k : Fin 16 → Additive → Reply}
    (hk : ∀ i x, s.additive? i = some x → Answers P (k i x)) : Answers P (withAdditive w s k) := by
  unfold withAdditive
  split
  · simp
  next i _ =>
    split
    · simp
    next x hx =>
      split
      · simp
      · exact hk i x hx

theorem answers_withSample {k : Fin 4 → Parcel → Reply}
    (hk : ∀ a p, s.active? = some a → s.oldestArrived = some p → Answers P (k a p)) :
    Answers P (withSample s k) := by
  unfold withSample
  split
  · simp
  next a ha =>
    split
    · simp
    next p hp => exact hk a p ha hp

theorem answers_withIdleJob {k : Fin 4 → Job → Reply}
    (hk : ∀ a j, ActiveIs s a j → s.engine.op = none → Answers P (k a j)) : Answers P (withIdleJob s k) := by
  unfold withIdleJob
  split
  · simp
  next a ha =>
    split
    · simp
    next j hj =>
      split
      · simp
      next ho => exact hk a j ⟨ha, hj⟩ (by simpa using ho)

end Answers

/-! ### Ranges of the words of a payload -/

theorem within_iff {lo hi n : Nat} : within lo hi n = true ↔ lo ≤ n ∧ n ≤ hi := by simp [within]

theorem two_lt (hi lo : Word) : two hi lo < 4294967296 := by
  have h1 := hi.isLt
  have h0 := lo.isLt
  unfold two
  omega

/-! ### Statuses of the shared refusals -/

theorem leaveRefusal_status {target : RigMode} {s : State} {status : Status}
    (h : leaveRefusal target s = some status) : status ≠ .ok ∧ status ≠ .pending := by
  unfold leaveRefusal at h
  split_ifs at h <;> cases h <;> simp

theorem suspendRefusal_status {j : Job} {s : State} {status : Status} (h : s.suspendRefusal j = some status) :
    status ≠ .ok ∧ status ≠ .pending := by
  unfold State.suspendRefusal at h
  split_ifs at h <;> cases h <;> simp

theorem rodRefusal_status {i : Fin 128} {r : Rod} {s : State} {status : Status}
    (h : s.rodRefusal i r = some status) : status ≠ .ok ∧ status ≠ .pending := by
  unfold State.rodRefusal at h
  split_ifs at h <;> cases h <;> simp

theorem makeUpRefusal_status {level : Nat} {j : Job} {r : Rod} {s : State} {status : Status}
    (h : s.makeUpRefusal level j r = some status) : status ≠ .ok ∧ status ≠ .pending := by
  unfold State.makeUpRefusal at h
  split_ifs at h <;> cases h <;> simp

/-- A suspension that is not refused finds the engine IDLE, the string empty and circulation STOPPED (R19). -/
theorem suspendRefusal_none {j : Job} {s : State} (h : s.suspendRefusal j = none) :
    s.engine.op = none ∧ s.stringEmpty j = true ∧ s.pumps.circ = .stopped := by
  unfold State.suspendRefusal at h
  split_ifs at h with h1 h2 h3
  exact ⟨by simpa using h1, by simpa using h2, by simpa using h3⟩

/-- A rod that may be amended, moved or retired is in the racks and not the operation's (R37, R40). -/
theorem rodRefusal_none {i : Fin 128} {r : Rod} {s : State} (h : s.rodRefusal i r = none) :
    r.awayFromRacks = false ∧ s.opRod ≠ some i := by
  unfold State.rodRefusal at h
  split_ifs at h with h1 h2
  exact ⟨by simpa using h1, h2⟩

theorem makeUpRefusal_none {level : Nat} {j : Job} {r : Rod} {s : State} (h : s.makeUpRefusal level j r = none) :
    r.type = j.rodType ∧ s.roster.stringLen + r.length ≤ 100000 := by
  unfold State.makeUpRefusal at h
  split_ifs at h with h1 h2 h3
  exact ⟨by simpa using h1, by omega⟩

section Requests

variable {l : Nat} {ws : List Word} {s : State}

/-! ### Reads -/

theorem serveReadMode_answers : Answers (· = s) (serveReadMode l ws s) := by
  unfold serveReadMode
  split <;> simp

theorem serveReadJob_answers : Answers (· = s) (serveReadJob l ws s) := by
  unfold serveReadJob
  split
  · refine answers_withJob fun i j hj => ?_
    split <;> simp
  · simp

theorem serveReadRodType_answers : Answers (· = s) (serveReadRodType l ws s) := by
  unfold serveReadRodType
  split
  · split <;> simp
  · simp

theorem serveFindRod_answers : Answers (· = s) (serveFindRod l ws s) := by
  unfold serveFindRod
  split
  · split
    · simp
    · split
      · simp
      · split <;> simp
  · simp

theorem serveReadRod_answers : Answers (· = s) (serveReadRod l ws s) := by
  unfold serveReadRod
  split
  · refine answers_withRod fun i r hr => ?_
    split <;> simp
  · simp

theorem serveListString_answers : Answers (· = s) (serveListString l ws s) := by
  unfold serveListString
  split
  · split <;> simp
  · simp

theorem serveReadRoster_answers : Answers (· = s) (serveReadRoster l ws s) := by
  unfold serveReadRoster
  split <;> simp

theorem serveReadCentre_answers : Answers (· = s) (serveReadCentre l ws s) := by
  unfold serveReadCentre
  split <;> simp

theorem serveReadOperation_answers : Answers (· = s) (serveReadOperation l ws s) := by
  unfold serveReadOperation
  split <;> simp

theorem serveReadDepth_answers : Answers (· = s) (serveReadDepth l ws s) := by
  unfold serveReadDepth
  split <;> simp

theorem serveReadPumps_answers : Answers (· = s) (serveReadPumps l ws s) := by
  unfold serveReadPumps
  split <;> simp

theorem serveReadTanks_answers : Answers (· = s) (serveReadTanks l ws s) := by
  unfold serveReadTanks
  split <;> simp

theorem serveReadBalance_answers : Answers (· = s) (serveReadBalance l ws s) := by
  unfold serveReadBalance
  split <;> simp

theorem serveReadAdditive_answers : Answers (· = s) (serveReadAdditive l ws s) := by
  unfold serveReadAdditive
  split
  · refine answers_withAdditive fun i x hx => ?_
    split <;> simp
  · simp

theorem serveReadLag_answers : Answers (· = s) (serveReadLag l ws s) := by
  unfold serveReadLag
  split
  · refine answers_withJob fun i j hj => ?_
    split
    · split <;> simp
    · simp
  · simp

theorem serveReadTransit_answers : Answers (· = s) (serveReadTransit l ws s) := by
  unfold serveReadTransit
  split <;> simp

theorem serveReadParcel_answers : Answers (· = s) (serveReadParcel l ws s) := by
  unfold serveReadParcel
  split
  · split
    · split <;> simp
    · simp
  · simp

theorem serveReadLithology_answers : Answers (· = s) (serveReadLithology l ws s) := by
  unfold serveReadLithology
  split
  · split <;> simp
  · simp

theorem readPlace_answers (j : Job) (k : Nat) : Answers (· = s) (j.readPlace k s) := by
  unfold Job.readPlace
  split <;> simp

theorem serveReadInterval_answers : Answers (· = s) (serveReadInterval l ws s) := by
  unfold serveReadInterval
  split
  · refine answers_withJob fun i j hj => ?_
    split
    · split
      · simp
      · split
        · simp
        · exact readPlace_answers ..
    · split
      · exact readPlace_answers ..
      · simp
    · simp
  · simp

theorem serveReadSheet_answers : Answers (· = s) (serveReadSheet l ws s) := by
  unfold serveReadSheet
  split
  · refine answers_withJob fun i j hj => ?_
    split
    · split <;> simp
    · simp
  · simp

theorem serveReadRates_answers : Answers (· = s) (serveReadRates l ws s) := by
  unfold serveReadRates
  split
  · refine answers_withJob fun i j hj => ?_
    split <;> simp
  · simp

theorem serveReadAttention_answers : Answers (· = s) (serveReadAttention l ws s) := by
  unfold serveReadAttention
  split
  · split <;> simp
  · simp

/-! ### Mode Controller, INITIALISE and Attention Unit -/

/-- An accepted change of mode leaves the state as it is, enters OPERATE, or enters another mode than WAKING (R3). -/
theorem changeMode_answers {target : RigMode} (ht : target ≠ .waking) :
    Answers (fun t => t = s ∨ t = s.enterOperate ∨ ∃ m, m ≠ .waking ∧ t = s.enterMode m) (changeMode target s) := by
  have entered : Answers (fun t => t = s ∨ t = s.enterOperate ∨ ∃ m, m ≠ .waking ∧ t = s.enterMode m)
      (accept (if target = .operate then s.enterOperate else s.enterMode target)) := by
    split
    · exact answers_accept.2 (.inr (.inl rfl))
    · exact answers_accept.2 (.inr (.inr ⟨target, ht, rfl⟩))
  unfold changeMode
  split
  · exact answers_accept.2 (.inl rfl)
  · split
    case h_1 | h_2 =>
      split
      next h => exact leaveRefusal_status h
      · exact entered
    all_goals exact entered

theorem serveSetMode_answers :
    Answers (fun t => t = s ∨ t = s.enterOperate ∨ ∃ m, m ≠ .waking ∧ t = s.enterMode m) (serveSetMode l ws s) := by
  unfold serveSetMode
  split
  · split
    · simp
    · simp
    next hne _ => exact changeMode_answers hne
  · simp

theorem serveSetWakeWindow_answers :
    Answers (fun t => ∃ n, 1 ≤ n ∧ n ≤ 60 ∧ t = s.setMode { s.mode with windowLen := n })
      (serveSetWakeWindow l ws s) := by
  unfold serveSetWakeWindow
  split
  · split
    next h =>
      obtain ⟨hlow, hhigh⟩ := within_iff.1 h
      exact answers_accept.2 ⟨_, hlow, hhigh, rfl⟩
    · simp
  · simp

theorem serveSetClock_answers :
    Answers (fun t => ∃ n, n ≤ max32 ∧ t = s.setMode { s.mode with minute := n, second := 0 })
      (serveSetClock l ws s) := by
  unfold serveSetClock
  split
  next hi lo => exact answers_accept.2 ⟨_, Nat.le_of_lt_succ (two_lt hi lo), rfl⟩
  · simp

theorem serveInitialise_answers :
    Answers (fun t => s.pumps.circ = .stopped ∧ t = s.initialised) (serveInitialise l ws s) := by
  unfold serveInitialise
  split
  · split
    next h => exact answers_accept.2 ⟨h, rfl⟩
    · simp
  · simp

theorem serveClearAttention_answers :
    Answers (fun t => ∃ n, t = { s with attn := clearKinds n s.attn }) (serveClearAttention l ws s) := by
  unfold serveClearAttention
  split
  · split
    · exact answers_accept.2 ⟨_, rfl⟩
    · simp
  · simp

theorem serveSetAttentionMask_answers :
    Answers (fun t => ∃ n, t = { s with attn := maskKinds n s.attn }) (serveSetAttentionMask l ws s) := by
  unfold serveSetAttentionMask
  split
  · split
    · exact answers_accept.2 ⟨_, rfl⟩
    · simp
  · simp

/-! ### Job Table -/

theorem freeJobSlot_free {i : Fin 4} (h : s.freeJobSlot = some i) : s.job? i = none := by
  have := List.find?_some h
  simpa using this

theorem serveOpenJob_answers :
    Answers (fun t => ∃ i number start diameter rodType b1 b2 bha, s.job? i = none ∧ start ≤ 100000
      ∧ bandsOk b1 b2 = true ∧ bha.place = .stowed ∧ bha.length ≤ 2000
      ∧ t = s.setJob i (Job.fresh number start diameter rodType b1 b2 bha)) (serveOpenJob l ws s) := by
  unfold serveOpenJob
  split
  case h_2 => simp
  split
  case isFalse => simp
  next h =>
    simp only [Bool.and_eq_true, decide_eq_true_eq, bhaOk] at h
    obtain ⟨⟨⟨⟨_, hstart⟩, _⟩, hbands⟩, ⟨hlen, _⟩, _⟩ := h
    split
    · simp
    · unfold State.openJob
      split
      · simp
      · split
        · simp
        next i hi =>
          exact answers_answer.2 ⟨i, _, _, _, _, _, _, _, freeJobSlot_free hi, hstart, hbands, rfl,
            (within_iff.1 hlen).2, rfl⟩

theorem serveActivateJob_answers :
    Answers (fun t => ∃ i j, s.job? i = some j ∧ j.phase ≠ .closed ∧ s.active? = none
      ∧ t = ((s.setJob i { j with phase := .active, bitDepth := 0 }).startParcels j.holeDepth).dropHeld)
      (serveActivateJob l ws s) := by
  unfold serveActivateJob
  split
  · refine answers_withUnclosedJob fun i j hj hc => ?_
    split
    · simp
    · split
      · simp
      next ha => exact answers_accept.2 ⟨i, j, hj, hc, by simpa using ha, rfl⟩
  · simp

/-- What a suspension that is not refused finds (R19). -/
structure Suspendable (s : State) (i : Fin 4) (j : Job) : Prop where
  job : s.job? i = some j
  active : j.phase = .active
  idle : s.engine.op = none
  empty : s.stringEmpty j = true
  stopped : s.pumps.circ = .stopped

theorem serveSuspendJob_answers :
    Answers (fun t => ∃ i j, Suspendable s i j ∧ t = s.suspendJob i) (serveSuspendJob l ws s) := by
  unfold serveSuspendJob
  split
  · refine answers_withUnclosedJob fun i j hj hc => ?_
    split
    · simp
    · split
      · simp
      next hactive =>
        split
        next h => exact suspendRefusal_status h
        next h =>
          obtain ⟨hidle, hempty, hstopped⟩ := suspendRefusal_none h
          exact answers_accept.2 ⟨i, j, ⟨hj, by simpa using hactive, hidle, hempty, hstopped⟩, rfl⟩
  · simp

theorem serveCloseJob_answers :
    Answers (fun t => ∃ i j, (Suspendable s i j ∧ t = (s.suspendJob i).closeJob i)
      ∨ (s.job? i = some j ∧ j.phase = .suspended ∧ t = s.closeJob i)) (serveCloseJob l ws s) := by
  unfold serveCloseJob
  split
  · refine answers_withUnclosedJob fun i j hj hc => ?_
    split
    · simp
    · split
      · simp
      next hopened =>
        split
        next hactive =>
          split
          next h => exact suspendRefusal_status h
          next h =>
            obtain ⟨hidle, hempty, hstopped⟩ := suspendRefusal_none h
            exact answers_accept.2 ⟨i, j, .inl ⟨⟨hj, hactive, hidle, hempty, hstopped⟩, rfl⟩⟩
        next hactive =>
          have hsuspended : j.phase = .suspended := by
            cases hp : j.phase <;> simp_all
          exact answers_accept.2 ⟨i, j, .inr ⟨hj, hsuspended, rfl⟩⟩
  · simp

theorem serveReleaseJob_answers :
    Answers (fun t => ∃ i j, s.job? i = some j ∧ j.phase = .closed ∧ t = s.freeJob i) (serveReleaseJob l ws s) := by
  unfold serveReleaseJob
  split
  · refine answers_withJob fun i j hj => ?_
    split
    · simp
    · split
      · simp
      next hc => exact answers_accept.2 ⟨i, j, hj, by simpa using hc, rfl⟩
  · simp

theorem serveSetBha_answers :
    Answers (fun t => ∃ i j bha edited, s.job? i = some j ∧ j.bha.place ≠ .inString ∧ bha.place = .stowed
      ∧ bha.length ≤ 2000 ∧ t = (s.setJob i { j with bha := bha }).markGeometry edited) (serveSetBha l ws s) := by
  unfold serveSetBha
  split
  · refine answers_withUnclosedJob fun i j hj hc => ?_
    split
    · split
      · simp
      next hok =>
        split
        · simp
        · split
          · simp
          next hplace =>
            simp only [bhaOk, Bool.and_eq_true, Bool.not_eq_false] at hok
            obtain ⟨⟨hlen, _⟩, _⟩ := hok
            exact answers_accept.2 ⟨i, j, _, _, hj, hplace, rfl, (within_iff.1 hlen).2, rfl⟩
    · simp
  · simp

/-- SET_RATE leaves a job that is not ACTIVE with other rates, or with other band boundaries and its footage moved
(R24, R25). -/
theorem serveSetRate_answers :
    Answers (fun t => ∃ i j, s.job? i = some j ∧ j.phase ≠ .active
      ∧ ((∃ rates, t = s.setJob i { j with rates := rates })
        ∨ ∃ b1 b2, bandsOk b1 b2 = true ∧ t = (s.setJob i { j with b1 := b1, b2 := b2 }).rebandFootage i j b1 b2))
      (serveSetRate l ws s) := by
  unfold serveSetRate
  split
  · refine answers_withUnclosedJob fun i j hj hc => ?_
    split
    · split
      · simp
      · unfold State.setRateItem
        split
        · simp
        · split
          · simp
          · split
            · simp
            next ha => exact answers_accept.2 ⟨i, j, hj, ha, .inl ⟨_, rfl⟩⟩
    · split
      · unfold State.setBands
        split
        · simp
        next hbands =>
          split
          · simp
          next ha => exact answers_accept.2 ⟨i, j, hj, ha, .inr ⟨_, _, by simpa using hbands, rfl⟩⟩
      · simp
    · simp
  · simp

theorem serveSetHoleSection_answers :
    Answers (fun t => ∃ i j sections edited, s.job? i = some j
      ∧ t = (s.setJob i { j with sections := sections }).markGeometry edited) (serveSetHoleSection l ws s) := by
  unfold serveSetHoleSection
  split
  · refine answers_withUnclosedJob fun i j hj hc => ?_
    split
    · split_ifs
      case neg => exact answers_accept.2 ⟨i, j, _, _, hj, rfl⟩
      all_goals simp
    · simp
  · simp

theorem serveClearHoleSection_answers :
    Answers (fun t => ∃ i j sections edited, s.job? i = some j
      ∧ t = (s.setJob i { j with sections := sections }).markGeometry edited) (serveClearHoleSection l ws s) := by
  unfold serveClearHoleSection
  split
  · refine answers_withUnclosedJob fun i j hj hc => ?_
    split
    · split_ifs
      case neg => exact answers_accept.2 ⟨i, j, _, _, hj, rfl⟩
      all_goals simp
    · simp
  · simp

theorem serveDown_answers {value : Bool} :
    Answers (fun t => ∃ i j, s.job? i = some j ∧ t = s.setJob i { j with down := value })
      (serveDown value l ws s) := by
  unfold serveDown
  split
  · refine answers_withUnclosedJob fun i j hj hc => ?_
    split
    · exact answers_accept.2 ⟨i, j, hj, rfl⟩
    · simp
  · simp

/-! ### Rod Roster -/

theorem serveSetRodType_answers :
    Answers (fun t => ∃ k type, t = s.replaceType k type) (serveSetRodType l ws s) := by
  unfold serveSetRodType
  split
  · split
    · simp
    · dsimp only
      split
      · exact answers_accept.2 ⟨_, _, rfl⟩
      · simp
  · simp

theorem emptyRodSlot_empty {i : Fin 128} (h : s.emptyRodSlot = some i) : s.rod? i = none := by
  have := List.find?_some h
  simpa using this

theorem serveEnrolRod_answers :
    Answers (fun t => ∃ i tag type length place, s.rod? i = none ∧ s.tagHeld tag = false
      ∧ s.rackFree place = true ∧ t = s.setRod i (Rod.fresh tag type length place)) (serveEnrolRod l ws s) := by
  unfold serveEnrolRod
  split
  case h_2 => simp
  split
  case h_2 => simp
  split
  · simp
  · unfold State.enrol
    split
    · simp
    next htag =>
      split
      · simp
      next i hi =>
        split
        next hfree =>
          exact answers_answer.2 ⟨i, _, _, _, _, emptyRodSlot_empty hi, by simpa using htag, hfree, rfl⟩
        · simp

theorem serveAmendRod_answers :
    Answers (fun t => ∃ i r tag length, s.rod? i = some r ∧ r.awayFromRacks = false ∧ s.opRod ≠ some i
      ∧ (tag = r.tag ∨ s.tagHeld tag = false)
      ∧ t = s.setRod i { r with tag := tag, length := length, unverified := false }) (serveAmendRod l ws s) := by
  unfold serveAmendRod
  split
  case h_2 => simp
  refine answers_withRod fun i r hr => ?_
  split
  case h_2 => simp
  next g1 g0 _ =>
  split
  · simp
  · split
    next h => exact rodRefusal_status h
    next h =>
      obtain ⟨haway, hop⟩ := rodRefusal_none h
      split
      · simp
      next htag =>
        refine answers_accept.2 ⟨i, r, _, _, hr, haway, hop, ?_, rfl⟩
        split
        · exact .inl rfl
        next hne =>
          by_cases heq : two g1 g0 = r.tag
          · exact .inl heq
          · exact .inr (by simpa [hne, heq] using htag)

theorem serveMoveRod_answers :
    Answers (fun t => t = s ∨ ∃ i r place, s.rod? i = some r ∧ r.awayFromRacks = false ∧ s.opRod ≠ some i
      ∧ s.rackFree place = true ∧ t = s.placeRod i place.place) (serveMoveRod l ws s) := by
  unfold serveMoveRod
  split
  case h_2 => simp
  refine answers_withRod fun i r hr => ?_
  split
  case h_2 => simp
  split
  · simp
  · split
    next h => exact rodRefusal_status h
    next h =>
      obtain ⟨haway, hop⟩ := rodRefusal_none h
      split
      · exact answers_accept.2 (.inl rfl)
      · split
        next hfree => exact answers_accept.2 (.inr ⟨i, r, _, hr, haway, hop, hfree, rfl⟩)
        · simp

/-- A tally moves the retirement counts alone (R42). -/
theorem tally_eq {x y : Roster} {why : Nat} (h : x.tally why = some y) :
    y = { x with worn := y.worn, damaged := y.damaged } := by
  unfold Roster.tally at h
  split at h <;> cases h <;> rfl

theorem serveRetireRod_answers :
    Answers (fun t => ∃ i r worn damaged, s.rod? i = some r ∧ r.awayFromRacks = false ∧ s.opRod ≠ some i
      ∧ t = ({ s with roster := { s.roster with worn := worn, damaged := damaged } }).removeRod i)
      (serveRetireRod l ws s) := by
  unfold serveRetireRod
  split
  case h_2 => simp
  refine answers_withRod fun i r hr => ?_
  split
  case h_2 => simp
  split
  · simp
  next roster htally =>
    split
    next h => exact rodRefusal_status h
    next h =>
      obtain ⟨haway, hop⟩ := rodRefusal_none h
      refine answers_accept.2 ⟨i, r, roster.worn, roster.damaged, hr, haway, hop, ?_⟩
      rw [← tally_eq htally]

theorem serveDeclareStringLost_answers :
    Answers (fun t => ∃ a j, ActiveIs s a j ∧ s.engine.op = none ∧ s.pumps.circ = .stopped ∧ t = s.loseString a j)
      (serveDeclareStringLost l ws s) := by
  unfold serveDeclareStringLost
  split
  case h_2 => simp
  split
  · simp
  next a ha =>
    split
    · simp
    next j hj =>
      split
      · simp
      next hidle =>
        split
        · simp
        next hstopped =>
          split
          · simp
          · exact answers_answer.2 ⟨a, j, ⟨ha, hj⟩, by simpa using hidle, by simpa using hstopped, rfl⟩

/-! ### Well centre and Depth Tracker -/

theorem serveSetHeadConfig_answers :
    Answers (fun t => ∃ stroke jump, 100 ≤ stroke ∧ stroke ≤ 3000 ∧ 5 ≤ jump ∧ jump ≤ 100
      ∧ t = s.setDepth { s.depth with
          headStroke := stroke, jumpLimit := jump, lastHeight := min s.depth.lastHeight stroke })
      (serveSetHeadConfig l ws s) := by
  unfold serveSetHeadConfig
  split
  · split
    next h =>
      rw [Bool.and_eq_true, within_iff, within_iff] at h
      obtain ⟨⟨h1, h2⟩, h3, h4⟩ := h
      exact answers_accept.2 ⟨_, _, h1, h2, h3, h4, rfl⟩
    · simp
  · simp

/-- What an accepted MAKE_UP has found (R59). -/
structure MakeUpFound (s : State) (a : Fin 4) (j : Job) (i : Fin 128) (r : Rod) (src : OpSource) : Prop where
  active : ActiveIs s a j
  idle : s.engine.op = none
  bha : j.bha.place = .inString
  clear : src ≠ .centre → s.rodAtCentre = none
  source : s.rodAtSource src = some i
  rod : s.rod? i = some r
  room : s.roster.stringLen + r.length ≤ 100000

theorem serveMakeUp_answers :
    Answers (fun t => ∃ a j i r src, MakeUpFound s a j i r src
      ∧ ((src = .centre ∧ t = s.takeUp { makeUpOp i r src with step := .awaitTorque })
        ∨ t = (s.takeUp (makeUpOp i r src)).engineRequest .loader)) (serveMakeUp l ws s) := by
  unfold serveMakeUp
  split
  case h_2 => simp
  split
  · simp
  next src _ =>
    refine answers_withIdleJob fun a j hactive hidle => ?_
    split
    · simp
    next hbha =>
      split
      · simp
      next hclear =>
        split
        · simp
        next i hsource =>
          split
          · simp
          next r hrod =>
            split
            next h => exact makeUpRefusal_status h
            next h =>
              have found : MakeUpFound s a j i r src :=
                ⟨hactive, hidle, by simpa using hbha, by simpa using hclear, hsource, hrod,
                  (makeUpRefusal_none h).2⟩
              unfold State.acceptMakeUp
              split
              next hc => exact answers_pending.2 ⟨a, j, i, r, src, found, .inl ⟨hc.1, rfl⟩⟩
              · exact answers_pending.2 ⟨a, j, i, r, src, found, .inr rfl⟩

theorem serveBreakOut_answers :
    Answers (fun t => ∃ a j i r dest, ActiveIs s a j ∧ s.engine.op = none ∧ s.rodAtPosition s.stringCount = some i
      ∧ s.rod? i = some r ∧ s.rodAtCentre = none ∧ s.rackFree dest = true ∧ s.pumps.circ = .stopped
      ∧ t = (s.takeUp (stowingOp .breakOut .awaitWrench i r dest)).engineRequest .wrench)
      (serveBreakOut l ws s) := by
  unfold serveBreakOut
  split
  case h_2 => simp
  split
  · simp
  next dest _ =>
    refine answers_withIdleJob fun a j hactive hidle => ?_
    split
    · simp
    next i hi =>
      split
      · simp
      next r hr =>
        split
        · simp
        next hcentre =>
          split
          · simp
          next hfree =>
            split
            · simp
            next hstopped =>
              exact answers_pending.2 ⟨a, j, i, r, dest, hactive, hidle, hi, hr, by simpa using hcentre,
                by simpa using hfree, by simpa using hstopped, rfl⟩

theorem serveStow_answers :
    Answers (fun t => ∃ a j i r dest, ActiveIs s a j ∧ s.engine.op = none ∧ s.rodAtCentre = some i
      ∧ s.rod? i = some r ∧ s.rackFree dest = true
      ∧ t = (s.takeUp (stowingOp .stow .awaitLoader i r dest)).engineRequest .loader) (serveStow l ws s) := by
  unfold serveStow
  split
  case h_2 => simp
  split
  · simp
  next dest _ =>
    refine answers_withIdleJob fun a j hactive hidle => ?_
    split
    · simp
    next i hi =>
      split
      · simp
      next r hr =>
        split
        · simp
        next hfree => exact answers_pending.2 ⟨a, j, i, r, dest, hactive, hidle, hi, hr, by simpa using hfree, rfl⟩

theorem serveRunBha_answers :
    Answers (fun t => ∃ a j, ActiveIs s a j ∧ s.engine.op = none ∧ j.bha.place = .stowed
      ∧ t = (s.takeUp (bhaOp .runBha)).engineRequest .tongs) (serveRunBha l ws s) := by
  unfold serveRunBha
  split
  case h_2 => simp
  refine answers_withIdleJob fun a j hactive hidle => ?_
  split
  · simp
  next hin =>
    split
    · simp
    next hlost =>
      split
      · simp
      · have hstowed : j.bha.place = .stowed := by
          cases hp : j.bha.place <;> simp_all
        exact answers_pending.2 ⟨a, j, hactive, hidle, hstowed, rfl⟩

theorem servePullBha_answers :
    Answers (fun t => ∃ a j, ActiveIs s a j ∧ s.engine.op = none ∧ j.bha.place = .inString ∧ s.stringCount = 0
      ∧ t = (s.takeUp (bhaOp .pullBha)).engineRequest .tongs) (servePullBha l ws s) := by
  unfold servePullBha
  split
  case h_2 => simp
  refine answers_withIdleJob fun a j hactive hidle => ?_
  split
  · simp
  next hin =>
    split
    · simp
    next hcount =>
      split
      · simp
      · split
        · simp
        · exact answers_pending.2 ⟨a, j, hactive, hidle, by simpa using hin, by simpa using hcount, rfl⟩

theorem serveAbortOp_answers :
    Answers (fun t => ∃ o, s.engine.op = some o ∧ t = s.abandon o .aborted none 0) (serveAbortOp l ws s) := by
  unfold serveAbortOp
  split
  · split
    · simp
    next o ho => exact answers_accept.2 ⟨o, ho, rfl⟩
  · simp

/-! ### Pump Controller -/

/-- The record of a pump with another configuration, its vps worked out from it (R77, R78). -/
def PumpRec.configure (r : PumpRec) (displacement efficiency ceiling rampStep rampInterval : Nat) : PumpRec :=
  { r with
    displacement := displacement, efficiency := efficiency, ceiling := ceiling, rampStep := rampStep
    rampInterval := rampInterval, vps := vpsOf displacement efficiency }

theorem serveSetPumpConfig_answers :
    Answers (fun t => ∃ p displacement efficiency ceiling rampStep rampInterval,
      ((s.pumps.pump p).configure displacement efficiency ceiling rampStep rampInterval).ConfigOk
      ∧ t = s.setPumps ((s.pumps.setPump p ((s.pumps.pump p).configure displacement efficiency ceiling rampStep
          rampInterval)).reworkPump s.tanks.condition p)) (serveSetPumpConfig l ws s) := by
  unfold serveSetPumpConfig
  split
  case h_2 => simp
  split
  · simp
  · split
    next p _ h =>
      simp only [Bool.and_eq_true, within_iff] at h
      obtain ⟨⟨⟨⟨⟨hd, hd'⟩, he, he'⟩, hc, hc'⟩, hs, hs'⟩, hi, hi'⟩ := h
      exact answers_accept.2 ⟨p, _, _, _, _, _, ⟨hd, hd', he, he', hc, hc', hs, hs', hi, hi', rfl⟩, rfl⟩
    · simp

theorem serveSetCircConfig_answers :
    Answers (fun t => ∃ hold still,
      t = s.setPumps ({ s.pumps with holdRate := hold, stillHold := still }.rework s.tanks.condition))
      (serveSetCircConfig l ws s) := by
  unfold serveSetCircConfig
  split
  · split
    · exact answers_accept.2 ⟨_, _, rfl⟩
    · simp
  · simp

theorem serveSetPumpRate_answers :
    Answers (fun t => t = s ∨ ∃ p target, target ≤ (s.pumps.pump p).inForce ∧ target ≠ (s.pumps.pump p).target
      ∧ t = s.retarget p target) (serveSetPumpRate l ws s) := by
  unfold serveSetPumpRate
  split
  case h_2 => simp
  split
  · simp
  next p _ =>
    simp only [answers_answer]
    split
    · exact .inl rfl
    next hne => exact .inr ⟨p, _, min_le_right _ _, hne, rfl⟩

theorem serveStopCirculation_answers :
    Answers (fun t => t = s ∨ (s.pumps.circ = .running
      ∧ t = s.setPumps { s.pumps with p1 := s.pumps.p1.aim 0, p2 := s.pumps.p2.aim 0 }.beginStop))
      (serveStopCirculation l ws s) := by
  unfold serveStopCirculation
  split
  case h_2 => simp
  split
  · exact answers_accept.2 (.inl rfl)
  · exact answers_pending.2 (.inl rfl)
  next h => exact answers_pending.2 (.inr ⟨h, rfl⟩)

theorem serveClearCircTotal_answers :
    Answers (· = s.setPumps { s.pumps with total := 0 }) (serveClearCircTotal l ws s) := by
  unfold serveClearCircTotal
  split <;> simp

/-! ### Tank and Balance Unit -/

theorem serveSetTankConfig_answers :
    Answers (fun t => ∃ k capacity mlPerMm low empty ready mixHold,
      tankConfigOk capacity mlPerMm low empty ready mixHold = true
      ∧ t = (s.setTanks (s.tanks.setTank k ((s.tanks.tank k).configure capacity mlPerMm low empty ready
          mixHold))).configured k) (serveSetTankConfig l ws s) := by
  unfold serveSetTankConfig
  split
  case h_2 => simp
  split
  · simp
  next k _ =>
    split
    next h => exact answers_accept.2 ⟨k, _, _, _, _, _, _, h, rfl⟩
    · simp

theorem serveSwapTanks_answers :
    Answers (fun t => s.tanks.standby = .ready ∧ t = s.swap .request) (serveSwapTanks l ws s) := by
  unfold serveSwapTanks
  split
  · split
    next h => exact answers_accept.2 ⟨h, rfl⟩
    · simp
  · simp

theorem serveAddWater_answers :
    Answers (fun t => ∃ k litres, t = s.addWater k litres) (serveAddWater l ws s) := by
  unfold serveAddWater
  split
  case h_2 => simp
  split
  · simp
  · split
    · exact answers_accept.2 ⟨_, _, rfl⟩
    · simp

theorem serveSetBalancePeriod_answers :
    Answers (fun t => ∃ coarse fine, coarse ≤ 6 ∧ fine ≤ 31
      ∧ t = s.setTanks { s.tanks with coarse := coarse, fine := fine }) (serveSetBalancePeriod l ws s) := by
  unfold serveSetBalancePeriod
  split
  · split
    next h =>
      rw [Bool.and_eq_true, decide_eq_true_eq, decide_eq_true_eq] at h
      exact answers_accept.2 ⟨_, _, h.1, h.2, rfl⟩
    · simp
  · simp

theorem serveSetLossThresholds_answers :
    Answers (fun t => ∃ gain seepage severe,
      t = s.setTanks { s.tanks with gain := gain, seepage := seepage, severe := severe })
      (serveSetLossThresholds l ws s) := by
  unfold serveSetLossThresholds
  split
  · split
    · exact answers_accept.2 ⟨_, _, _, rfl⟩
    · simp
  · simp

/-! ### Additive store -/

theorem serveAddAdditive_answers :
    Answers (fun t => ∃ i name price, t = s.setAdditive i ⟨name, price, 0, 0, 0, 0⟩) (serveAddAdditive l ws s) := by
  unfold serveAddAdditive
  split
  · dsimp only
    split_ifs
    · simp
    · simp
    · split
      · simp
      · exact answers_answer.2 ⟨_, _, _, rfl⟩
  · simp

theorem serveSetAdditivePrice_answers :
    Answers (fun t => ∃ i x price, s.additive? i = some x ∧ t = s.setAdditive i { x with price := price })
      (serveSetAdditivePrice l ws s) := by
  unfold serveSetAdditivePrice
  split
  · refine answers_withAdditive fun i x hx => ?_
    split
    · split
      · simp
      · exact answers_accept.2 ⟨i, x, _, hx, rfl⟩
    · simp
  · simp

theorem serveReceiveAdditive_answers :
    Answers (fun t => ∃ i x units, s.additive? i = some x
      ∧ t = s.setAdditive i { x with onHand := x.onHand + units, received := x.received + units })
      (serveReceiveAdditive l ws s) := by
  unfold serveReceiveAdditive
  split
  · refine answers_withAdditive fun i x hx => ?_
    split
    · split
      · simp
      · exact answers_accept.2 ⟨i, x, _, hx, rfl⟩
    · simp
  · simp

theorem serveStockCount_answers :
    Answers (fun t => ∃ i x count, s.additive? i = some x
      ∧ t = s.setAdditive i { x with onHand := count, received := count, drawn := 0, shortfall := 0 })
      (serveStockCount l ws s) := by
  unfold serveStockCount
  split
  · refine answers_withAdditive fun i x hx => ?_
    split
    · exact answers_accept.2 ⟨i, x, _, hx, rfl⟩
    · simp
  · simp

theorem serveDrawAdditive_answers :
    Answers (fun t => ∃ a i x units k, s.active? = some a ∧ s.additive? i = some x
      ∧ t = s.drawAdditive a i x units k) (serveDrawAdditive l ws s) := by
  unfold serveDrawAdditive
  split
  case h_2 => simp
  refine answers_withAdditive fun i x hx => ?_
  split
  case h_2 => simp
  split
  · simp
  · split
    · simp
    · split
      · simp
      next a ha => exact answers_accept.2 ⟨a, i, x, _, _, ha, hx, rfl⟩

theorem serveRetireAdditive_answers :
    Answers (fun t => ∃ i, t = s.removeAdditive i) (serveRetireAdditive l ws s) := by
  unfold serveRetireAdditive
  split
  · refine answers_withAdditive fun i x hx => ?_
    split_ifs
    · simp
    · simp
    · exact answers_accept.2 ⟨i, rfl⟩
  · simp

/-! ### Lag Calculator and Transit List -/

theorem serveSetSurfaceLine_answers :
    Answers (fun t => ∃ v, t = { s with transit := { s.transit with surfaceLine := v } })
      (serveSetSurfaceLine l ws s) := by
  unfold serveSetSurfaceLine
  split
  · split
    · exact answers_accept.2 ⟨_, rfl⟩
    · simp
  · simp

theorem serveSetParcelStep_answers :
    Answers (fun t => ∃ n, t = { s with transit := { s.transit with step := n } }) (serveSetParcelStep l ws s) := by
  unfold serveSetParcelStep
  split
  · split
    · exact answers_accept.2 ⟨_, rfl⟩
    · simp
  · simp

theorem serveTakeSample_answers :
    Answers (fun t => ∃ a p lith yield u, s.active? = some a ∧ s.oldestArrived = some p
      ∧ s.bindRange a (.sample lith yield) p.top p.bottom = some u ∧ t = u.dropSample) (serveTakeSample l ws s) := by
  have taken : ∀ lith yield, Answers (fun t => ∃ a p lith yield u, s.active? = some a ∧ s.oldestArrived = some p
      ∧ s.bindRange a (.sample lith yield) p.top p.bottom = some u ∧ t = u.dropSample) (s.takeSample lith yield) := by
    intro lith yield
    unfold State.takeSample
    split
    · simp
    · refine answers_withSample fun a p ha hp => ?_
      split
      · simp
      next u hu => exact answers_answer.2 ⟨a, p, _, _, u, ha, hp, hu, rfl⟩
  unfold serveTakeSample
  split
  · exact taken ..
  · exact taken ..
  · simp

theorem serveRejectSample_answers :
    Answers (fun t => ∃ a p, s.active? = some a ∧ s.oldestArrived = some p
      ∧ t = s.dropSample.markRange a .notSampled p.top p.bottom) (serveRejectSample l ws s) := by
  unfold serveRejectSample
  split
  · refine answers_withSample fun a p ha hp => ?_
    exact answers_answer.2 ⟨a, p, ha, hp, rfl⟩
  · simp

/-! ### Strata Column -/

theorem serveSetLithology_answers :
    Answers (fun t => ∃ (k : Fin 64) (entry : LithEntry), k ≠ 0 ∧ t = { s with lith := s.lith.set k.val entry })
      (serveSetLithology l ws s) := by
  unfold serveSetLithology
  split
  case h_2 => simp
  split
  case h_2 => simp
  dsimp only
  split
  · simp
  next h => exact answers_accept.2 ⟨_, _, fun hk => h (.inl hk), rfl⟩

theorem serveFormationChange_answers :
    Answers (fun t => ∃ a j lith col, ActiveIs s a j ∧ openBed s.lith lith j.holeDepth j.column = some col
      ∧ t = (s.setJob a { j with column := col, declared := lith }).closeForming a) (serveFormationChange l ws s) := by
  unfold serveFormationChange
  split
  case h_2 => simp
  split
  · simp
  · split
    · simp
    next a ha =>
      split
      · simp
      next j hj =>
        split
        · simp
        next col hcol => exact answers_accept.2 ⟨a, j, _, col, ⟨ha, hj⟩, hcol, rfl⟩

theorem serveReviseInterval_answers :
    Answers (fun t => ∃ i j top bottom lith, s.job? i = some j ∧ top < bottom ∧ bottom ≤ j.holeDepth
      ∧ s.bindRange i (.revise lith) top bottom = some t) (serveReviseInterval l ws s) := by
  unfold serveReviseInterval
  split
  case h_2 => simp
  refine answers_withUnclosedJob fun i j hj hc => ?_
  split
  case h_2 => simp
  split
  · simp
  · unfold State.reviseInterval
    split
    · simp
    next hrange =>
      split
      · simp
      · split
        · simp
        next u hu => exact answers_answer.2 ⟨i, j, _, _, _, hj, by omega, by omega, hu⟩

/-- The flag mark of NOTE_WATER (R155). -/
def waterMark (yield : Nat) (iv : Interval) : Interval := { iv with water := true, yield := some yield }

theorem serveNoteWater_answers :
    Answers (fun t => ∃ i j d yield, s.job? i = some j
      ∧ t = s.setColumn i (markContaining d (waterMark yield) j.column)) (serveNoteWater l ws s) := by
  unfold serveNoteWater
  split
  case h_2 => simp
  refine answers_withUnclosedJob fun i j hj hc => ?_
  split
  · split
    · simp
    · exact answers_accept.2 ⟨i, j, _, _, hj, rfl⟩
  · simp

/-! ### Job Sheet -/

theorem serveSettle_answers :
    Answers (fun t => ∃ i j, s.job? i = some j ∧ t = s.settle i) (serveSettle l ws s) := by
  unfold serveSettle
  split
  · refine answers_withUnclosedJob fun i j hj hc => ?_
    split_ifs
    · simp
    · simp
    · exact answers_answer.2 ⟨i, j, hj, rfl⟩
  · simp

end Requests

end Sys2Proof.Machine
end

section
/-! PROOFS. The requests of the catalogue, and what a request can touch: each row's code, level, class and block, the
parts its block may change, and from them the frame of every command. -/

namespace Sys2Proof.Machine

-- One proof at a time: proofs elaborated at once add up past the memory of the check.
set_option Elab.async false

/-! ### What a block may leave -/

/-- What a request's block may leave of the state it found: only its own parts and the attention set changed, and the
rig mode as it was unless the request is of class Mode. -/
structure Within (own : List Part) (cls : ReqClass) (u v : State) : Prop where
  frame : Frame (.attn :: own) u v
  mode : cls ≠ .mode → v.mode.mode = u.mode.mode

theorem Frame.mode_eq {ps : List Part} {s t : State} (h : Frame ps s t) (hp : .mode ∉ ps) : t.mode = s.mode :=
  h.kept .mode hp

/-- A block that does not change the Mode Controller stays within its parts. -/
theorem Frame.within {ps own : List Part} {cls : ReqClass} {u v : State} (h : Frame ps u v)
    (hs : ps ⊆ .attn :: own := by simp) (hm : .mode ∉ ps := by simp) : Within own cls u v :=
  ⟨h.mono hs, fun _ => by rw [h.mode_eq hm]⟩

theorem Answers.unchanged {own : List Part} {cls : ReqClass} {u : State} {x : Reply} (h : Answers (· = u) x) :
    Answers (Within own cls u) x :=
  h.mono fun v hv => by
    rw [hv]
    exact (Frame.rfl' [] u).within

theorem State.markGeometry_frame (edited : Bool) (s : State) : Frame [.mode] s (s.markGeometry edited) := by
  unfold State.markGeometry
  split
  · exact frame_mode s _
  · exact Frame.rfl' _ s

theorem State.markGeometry_mode (edited : Bool) (s : State) : (s.markGeometry edited).mode.mode = s.mode.mode := by
  unfold State.markGeometry
  split <;> rfl

/-- A change followed by the geometry mark stays within the parts of both. -/
theorem Frame.within_markGeometry {ps own : List Part} {cls : ReqClass} {u v : State} {edited : Bool}
    (h : Frame ps u v) (hs : ps ⊆ .attn :: .mode :: own := by simp) (hm : .mode ∉ ps := by simp) :
    Within (.mode :: own) cls u (v.markGeometry edited) :=
  ⟨(h.mono hs).trans ((v.markGeometry_frame edited).mono (by simp)),
    fun _ => by rw [State.markGeometry_mode, h.mode_eq hm]⟩

/-! ### Frames of the blocks' operations -/

theorem State.setJob_attn_frame (i : Fin 4) (j : Job) (s : State) : Frame [.jobs, .attn] s (s.setJob i j) :=
  (State.setJob_frame i j s).mono (by simp)

theorem State.dropHeld_frame (s : State) : Frame [.depth] s s.dropHeld := frame_depth s _

theorem State.suspendJob_frame (i : Fin 4) (s : State) : Frame [.jobs, .transit, .depth, .attn] s (s.suspendJob i) :=
  (((State.modifyJob_frame i _ s).mono (by simp)).trans ((State.dropHeld_frame _).mono (by simp))).trans
    ((State.giveUpParcels_frame i _).mono (by simp [transitParts]))

theorem State.closeJob_frame (i : Fin 4) (s : State) : Frame [.jobs, .attn] s (s.closeJob i) :=
  (State.settle_frame i s).trans ((State.modifyJob_frame i _ _).mono (by simp))

theorem State.freeJob_frame (i : Fin 4) (s : State) : Frame [.jobs] s (s.freeJob i) := frame_jobs s _

theorem State.startParcels_frame (hole : Nat) (s : State) : Frame [.transit] s (s.startParcels hole) :=
  frame_transit s _

theorem State.removeRod_frame (i : Fin 128) (s : State) : Frame [.roster] s (s.removeRod i) := frame_roster s _

theorem State.loseRod_frame (s : State) (i : Fin 128) : Frame [.roster] s (s.loseRod i) :=
  (frame_roster s _).trans (State.removeRod_frame i _)

theorem State.setAdditive_frame (i : Fin 16) (x : Additive) (s : State) : Frame [.tanks] s (s.setAdditive i x) :=
  frame_tanks s _

theorem State.removeAdditive_frame (i : Fin 16) (s : State) : Frame [.tanks] s (s.removeAdditive i) :=
  frame_tanks s _

theorem State.takeUp_frame (o : Operation) (s : State) : Frame centreParts s (s.takeUp o) :=
  (frame_engine s _).mono (by simp [centreParts])

theorem State.beginOp_frame (o : Operation) (st : Station) (s : State) :
    Frame centreParts s ((s.takeUp o).engineRequest st) :=
  (State.takeUp_frame o s).trans (State.engineRequest_frame st _)

theorem State.configured_frame (k : TankId) (s : State) : Frame tankParts s (s.configured k) := by
  unfold State.configured
  refine Frame.trans ?_ (State.suctionTest_frame _)
  split
  · exact State.reworkStandby_frame s
  · split
    · exact State.setTanks_frame' _ s
    · exact Frame.rfl' _ s

theorem State.addWater_frame (k : TankId) (litres : Nat) (s : State) : Frame tankParts s (s.addWater k litres) := by
  unfold State.addWater
  split
  · exact State.standbyAddition_frame s
  · split
    · exact State.setTanks_frame' _ s
    · exact Frame.rfl' _ s

/-- A draw on an additive's record, with INVENTORY_SHORT for what it does not cover (R102). -/
def State.drawDown (i : Fin 16) (x : Additive) (units : Nat) (s : State) : State :=
  if x.short units = 0 then s.setAdditive i (x.draw units)
  else (s.setAdditive i (x.draw units)).raise .inventoryShort
    (.short ((s.setAdditive i (x.draw units)).additiveHandle i) (x.short units))

/-- A draw billed to the ACTIVE job (R166). -/
def State.drawBilled (a : Fin 4) (i : Fin 16) (x : Additive) (units : Nat) (s : State) : State :=
  (s.drawDown i x units).addUnsettled a (consumableLine i) units

theorem State.drawAdditive_eq (a : Fin 4) (i : Fin 16) (x : Additive) (units : Nat) (k : TankId) (s : State) :
    s.drawAdditive a i x units k = if k ≠ (s.drawBilled a i x units).tanks.active
      then (s.drawBilled a i x units).standbyAddition else s.drawBilled a i x units := rfl

theorem State.drawDown_frame (i : Fin 16) (x : Additive) (units : Nat) (s : State) :
    Frame [.tanks, .attn] s (s.drawDown i x units) := by
  unfold State.drawDown
  split
  · exact (State.setAdditive_frame i _ s).mono (by simp)
  · exact ((State.setAdditive_frame i _ s).mono (by simp)).trans ((State.raise_frame ..).mono (by simp))

theorem State.drawBilled_frame (a : Fin 4) (i : Fin 16) (x : Additive) (units : Nat) (s : State) :
    Frame [.tanks, .attn, .jobs] s (s.drawBilled a i x units) :=
  ((State.drawDown_frame i x units s).mono (by simp)).trans ((State.addUnsettled_frame a _ _ _).mono (by simp))

theorem State.drawAdditive_frame (a : Fin 4) (i : Fin 16) (x : Additive) (units : Nat) (k : TankId) (s : State) :
    Frame tankParts s (s.drawAdditive a i x units k) := by
  have billed := (State.drawBilled_frame a i x units s).mono (qs := tankParts) (by simp [tankParts])
  rw [State.drawAdditive_eq]
  split
  · exact billed.trans (State.standbyAddition_frame _)
  · exact billed

theorem State.retarget_frame (p : Pump) (n : Nat) (s : State) : Frame [.pumps, .attn] s (s.retarget p n) :=
  (State.setPumps_frame _ s).trans (State.targetCirculation_frame p n _)

theorem State.initialised_frame (s : State) :
    Frame [.mode, .jobs, .roster, .arbiter, .engine, .depth, .pumps, .tanks, .transit, .lith, .drilling, .receiver,
      .attn] s s.initialised := by
  refine ⟨fun p hp => ?_⟩
  cases p
  case protection | link | draws | pending => rfl
  all_goals simp at hp

/-- The changes to a lost BHA leave the rig mode as it was. -/
theorem State.loseBha_frame (a : Fin 4) (j : Job) (s : State) : Frame [.jobs, .attn, .mode] s (s.loseBha a j) := by
  unfold State.loseBha
  split
  · exact (((State.modifyJob_frame a _ s).mono (by simp)).trans ((State.addUnsettled_frame a _ _ _).mono (by simp))).trans
      ((State.markGeometry_frame _ _).mono (by simp))
  · exact Frame.rfl' _ s

theorem State.loseBha_mode (a : Fin 4) (j : Job) (s : State) : (s.loseBha a j).mode.mode = s.mode.mode := by
  unfold State.loseBha
  split
  · rw [State.markGeometry_mode, (State.addUnsettled_frame a _ _ _).mode_eq (by simp),
      (State.modifyJob_frame a _ s).mode_eq (by simp)]
  · rfl

/-- The state in which DECLARE_STRING_LOST finds the BHA: the string's rods gone and counted on the sheet (R51). -/
def State.rodsLost (a : Fin 4) (s : State) : State :=
  (s.stringRods.reverse.filterMap fun i => (s.rod? i).map Rod.type).foldl
    (fun s t => s.addUnsettled a (rodsLostLine t) 1) (s.stringRods.reverse.foldl State.loseRod s)

theorem State.loseString_eq (a : Fin 4) (j : Job) (s : State) :
    s.loseString a j = ((((s.rodsLost a).loseBha a j).setStringLen 0).modifyJob a
      fun j => { j with bitDepth := 0 }).dropHeld := rfl

theorem State.rodsLost_frame (a : Fin 4) (s : State) : Frame [.roster, .jobs, .attn] s (s.rodsLost a) :=
  (Frame.foldl _ (fun s i => (State.loseRod_frame s i).mono (by simp)) _ s).trans
    (Frame.foldl _ (fun s t => (State.addUnsettled_frame a (rodsLostLine t) 1 s).mono (by simp)) _ _)

/-- What follows the BHA's loss when the string is lost. -/
theorem State.loseString_end_frame (a : Fin 4) (s : State) :
    Frame [.roster, .jobs, .attn, .depth] s
      ((s.setStringLen 0).modifyJob a fun j => { j with bitDepth := 0 }).dropHeld :=
  (((State.setStringLen_frame 0 s).mono (by simp [rosterParts])).trans
    ((State.modifyJob_frame a _ _).mono (by simp))).trans ((State.dropHeld_frame _).mono (by simp))

theorem State.loseString_within {cls : ReqClass} (a : Fin 4) (j : Job) (s : State) :
    Within [.roster, .jobs, .depth, .mode] cls s (s.loseString a j) := by
  rw [State.loseString_eq]
  refine ⟨((State.rodsLost_frame a s).mono (by simp)).trans (((State.loseBha_frame a j _).mono (by simp)).trans
    ((State.loseString_end_frame a _).mono (by simp))), fun _ => ?_⟩
  rw [(State.loseString_end_frame a _).mode_eq (by simp), State.loseBha_mode,
    (State.rodsLost_frame a s).mode_eq (by simp)]

theorem State.replaceType_within {cls : ReqClass} (k : Fin 4) (type : RodType) (s : State) :
    Within [.mode, .roster] cls s (s.replaceType k type) :=
  Frame.within_markGeometry (((frame_roster s _).mono (by simp [rosterParts])).trans (State.regradeType_frame k _))
    (by simp [rosterParts]) (by simp [rosterParts])

/-! ### The catalogue, row by row -/

/-- What the catalogue and the blocks say of a request: its row, the block's body that takes it, the parts it may touch,
none of its own for a Read, and that the body stays within them. -/
def Catalogued (i : Instr) (code : Byte) (r : Request) : Prop :=
  ∃ required cls body own, (code, required, cls) ∈ catalogue
    ∧ (∀ s, exec i s = takeRequest code required cls body r s)
    ∧ requestParts own ⊆ touched i
    ∧ (cls = .read → own = [])
    ∧ ∀ l ws u, Answers (Within own cls u) (body l ws u)

section Rows

variable {i : Instr} {code : Byte} {r : Request} {required : Nat} {cls : ReqClass}
  {body : Nat → List Word → State → Reply}

/-- A row whose block changes the parts listed. -/
theorem Catalogued.row (own : List Part) (hrow : (code, required, cls) ∈ catalogue)
    (hexec : ∀ s, exec i s = takeRequest code required cls body r s) (hown : requestParts own ⊆ touched i)
    (hbody : ∀ l ws u, Answers (Within own cls u) (body l ws u)) (hread : cls ≠ .read := by decide) :
    Catalogued i code r :=
  ⟨required, cls, body, own, hrow, hexec, hown, fun h => absurd h hread, hbody⟩

/-- A row of class Read. -/
theorem Catalogued.read (hrow : (code, required, cls) ∈ catalogue)
    (hexec : ∀ s, exec i s = takeRequest code required cls body r s) (hown : requestParts [] ⊆ touched i)
    (hbody : ∀ l ws u, Answers (· = u) (body l ws u)) : Catalogued i code r :=
  ⟨required, cls, body, [], hrow, hexec, hown, fun _ => rfl, fun l ws u => (hbody l ws u).unchanged⟩

end Rows

theorem catalogued_mode_rows (r : Request) :
    Catalogued (.readMode r) 1 r ∧ Catalogued (.setMode r) 2 r ∧ Catalogued (.setWakeWindow r) 3 r
      ∧ Catalogued (.setClock r) 4 r ∧ Catalogued (.initialise r) 5 r := by
  refine ⟨?_, ?_, ?_, ?_, ?_⟩
  · exact .read (by decide) (fun _ => rfl) (List.Subset.refl _) fun _ _ _ => serveReadMode_answers
  · refine .row [.mode, .transit, .jobs] (by decide) (fun _ => rfl) (List.Subset.refl _) fun l ws u =>
      serveSetMode_answers.mono ?_
    rintro v (rfl | rfl | ⟨m, _, rfl⟩)
    · exact (Frame.rfl' [] v).within
    · exact ⟨(State.enterOperate_frame u).mono (by simp [operateParts]), by simp⟩
    · exact ⟨(frame_mode u _).mono (by simp), by simp⟩
  · refine .row [.mode] (by decide) (fun _ => rfl) (List.Subset.refl _) fun l ws u =>
      serveSetWakeWindow_answers.mono ?_
    rintro v ⟨n, _, _, rfl⟩
    exact ⟨(frame_mode u _).mono (by simp), fun _ => rfl⟩
  · refine .row [.mode] (by decide) (fun _ => rfl) (List.Subset.refl _) fun l ws u => serveSetClock_answers.mono ?_
    rintro v ⟨n, _, rfl⟩
    exact ⟨(frame_mode u _).mono (by simp), fun _ => rfl⟩
  · refine .row [.mode, .jobs, .roster, .arbiter, .engine, .depth, .pumps, .tanks, .transit, .lith, .drilling,
      .receiver] (by decide) (fun _ => rfl) (List.Subset.refl _) fun l ws u => serveInitialise_answers.mono ?_
    rintro v ⟨_, rfl⟩
    exact ⟨(State.initialised_frame u).mono (by simp), fun _ => rfl⟩

theorem catalogued_job_rows (r : Request) :
    Catalogued (.readJob r) 16 r ∧ Catalogued (.openJob r) 17 r ∧ Catalogued (.activateJob r) 18 r
      ∧ Catalogued (.suspendJob r) 19 r ∧ Catalogued (.closeJob r) 20 r ∧ Catalogued (.releaseJob r) 21 r := by
  refine ⟨?_, ?_, ?_, ?_, ?_, ?_⟩
  · exact .read (by decide) (fun _ => rfl) (List.Subset.refl _) fun _ _ _ => serveReadJob_answers
  · refine .row [.jobs] (by decide) (fun _ => rfl) (List.Subset.refl _) fun l ws u => serveOpenJob_answers.mono ?_
    rintro v ⟨i, _, _, _, _, _, _, _, _, _, _, _, _, rfl⟩
    exact (State.setJob_frame i _ u).within
  · refine .row [.jobs, .transit, .depth] (by decide) (fun _ => rfl) (List.Subset.refl _) fun l ws u =>
      serveActivateJob_answers.mono ?_
    rintro v ⟨i, j, _, _, _, rfl⟩
    exact ((((State.setJob_frame i _ u).mono (by simp)).trans ((State.startParcels_frame _ _).mono (by simp))).trans
      ((State.dropHeld_frame _).mono (by simp))).within (ps := [.jobs, .transit, .depth])
  · refine .row [.jobs, .transit, .depth] (by decide) (fun _ => rfl) (List.Subset.refl _) fun l ws u =>
      serveSuspendJob_answers.mono ?_
    rintro v ⟨i, j, _, rfl⟩
    exact (State.suspendJob_frame i u).within
  · refine .row [.jobs, .transit, .depth] (by decide) (fun _ => rfl) (List.Subset.refl _) fun l ws u =>
      serveCloseJob_answers.mono ?_
    rintro v ⟨i, j, ⟨_, hv⟩ | ⟨_, _, hv⟩⟩ <;> rw [hv]
    · exact ((State.suspendJob_frame i u).trans ((State.closeJob_frame i _).mono (by simp))).within
    · exact (State.closeJob_frame i u).within
  · refine .row [.jobs] (by decide) (fun _ => rfl) (List.Subset.refl _) fun l ws u => serveReleaseJob_answers.mono ?_
    rintro v ⟨i, j, _, _, rfl⟩
    exact (State.freeJob_frame i u).within

theorem catalogued_job_edit_rows (r : Request) :
    Catalogued (.setBha r) 22 r ∧ Catalogued (.setRate r) 23 r ∧ Catalogued (.setRateBands r) 23 r
      ∧ Catalogued (.setHoleSection r) 24 r ∧ Catalogued (.clearHoleSection r) 25 r
      ∧ Catalogued (.declareDown r) 26 r ∧ Catalogued (.clearDown r) 27 r := by
  have rates : ∀ (l : Nat) (ws : List Word) (u : State),
      Answers (Within [.jobs] .general u) (serveSetRate l ws u) := by
    intro l ws u
    refine serveSetRate_answers.mono ?_
    rintro v ⟨i, j, _, _, ⟨rates, hv⟩ | ⟨b1, b2, _, hv⟩⟩ <;> rw [hv]
    · exact (State.setJob_frame i _ u).within
    · exact ((State.setJob_attn_frame i _ u).trans (State.rebandFootage_frame ..)).within
  have down : ∀ (value : Bool) (l : Nat) (ws : List Word) (u : State),
      Answers (Within [.jobs] .general u) (serveDown value l ws u) := by
    intro value l ws u
    refine serveDown_answers.mono ?_
    rintro v ⟨i, j, _, rfl⟩
    exact (State.setJob_frame i _ u).within
  refine ⟨?_, ?_, ?_, ?_, ?_, ?_, ?_⟩
  · refine .row [.mode, .jobs] (by decide) (fun _ => rfl) (by simp [touched, requestParts]) fun l ws u =>
      serveSetBha_answers.mono ?_
    rintro v ⟨i, j, bha, edited, _, _, _, _, rfl⟩
    exact (State.setJob_frame i _ u).within_markGeometry
  · exact .row [.jobs] (by decide) (fun _ => rfl) (List.Subset.refl _) rates
  · exact .row [.jobs] (by decide) (fun _ => rfl) (List.Subset.refl _) rates
  · refine .row [.mode, .jobs] (by decide) (fun _ => rfl) (by simp [touched, requestParts]) fun l ws u =>
      serveSetHoleSection_answers.mono ?_
    rintro v ⟨i, j, sections, edited, _, rfl⟩
    exact (State.setJob_frame i _ u).within_markGeometry
  · refine .row [.mode, .jobs] (by decide) (fun _ => rfl) (by simp [touched, requestParts]) fun l ws u =>
      serveClearHoleSection_answers.mono ?_
    rintro v ⟨i, j, sections, edited, _, rfl⟩
    exact (State.setJob_frame i _ u).within_markGeometry
  · exact .row [.jobs] (by decide) (fun _ => rfl) (List.Subset.refl _) (down true)
  · exact .row [.jobs] (by decide) (fun _ => rfl) (List.Subset.refl _) (down false)

theorem catalogued_roster_read_rows (r : Request) :
    Catalogued (.readRodType r) 32 r ∧ Catalogued (.findRod r) 38 r ∧ Catalogued (.readRod r) 39 r
      ∧ Catalogued (.listString r) 40 r ∧ Catalogued (.readRoster r) 41 r := by
  refine ⟨?_, ?_, ?_, ?_, ?_⟩
  · exact .read (by decide) (fun _ => rfl) (List.Subset.refl _) fun _ _ _ => serveReadRodType_answers
  · exact .read (by decide) (fun _ => rfl) (List.Subset.refl _) fun _ _ _ => serveFindRod_answers
  · exact .read (by decide) (fun _ => rfl) (List.Subset.refl _) fun _ _ _ => serveReadRod_answers
  · exact .read (by decide) (fun _ => rfl) (List.Subset.refl _) fun _ _ _ => serveListString_answers
  · exact .read (by decide) (fun _ => rfl) (List.Subset.refl _) fun _ _ _ => serveReadRoster_answers

theorem catalogued_roster_edit_rows (r : Request) :
    Catalogued (.setRodType r) 33 r ∧ Catalogued (.enrolRod r) 34 r ∧ Catalogued (.amendRod r) 35 r
      ∧ Catalogued (.moveRod r) 36 r ∧ Catalogued (.retireRod r) 37 r ∧ Catalogued (.declareStringLost r) 42 r := by
  refine ⟨?_, ?_, ?_, ?_, ?_, ?_⟩
  · refine .row [.mode, .roster] (by decide) (fun _ => rfl) (by simp [touched, requestParts]) fun l ws u =>
      serveSetRodType_answers.mono ?_
    rintro v ⟨k, type, rfl⟩
    exact State.replaceType_within k type u
  · refine .row [.roster] (by decide) (fun _ => rfl) (List.Subset.refl _) fun l ws u => serveEnrolRod_answers.mono ?_
    rintro v ⟨i, _, _, _, _, _, _, _, rfl⟩
    exact (State.setRod_frame i _ u).within (by simp [rosterParts]) (by simp [rosterParts])
  · refine .row [.roster] (by decide) (fun _ => rfl) (List.Subset.refl _) fun l ws u => serveAmendRod_answers.mono ?_
    rintro v ⟨i, _, _, _, _, _, _, _, rfl⟩
    exact (State.setRod_frame i _ u).within (by simp [rosterParts]) (by simp [rosterParts])
  · refine .row [.roster] (by decide) (fun _ => rfl) (List.Subset.refl _) fun l ws u => serveMoveRod_answers.mono ?_
    rintro v (rfl | ⟨i, _, _, _, _, _, _, rfl⟩)
    · exact (Frame.rfl' [] v).within
    · exact (State.modifyRod_frame i _ u).within (by simp [rosterParts]) (by simp [rosterParts])
  · refine .row [.roster] (by decide) (fun _ => rfl) (List.Subset.refl _) fun l ws u => serveRetireRod_answers.mono ?_
    rintro v ⟨i, _, _, _, _, _, _, rfl⟩
    exact ((frame_roster u _).trans (State.removeRod_frame i _)).within
  · refine .row [.roster, .jobs, .depth, .mode] (by decide) (fun _ => rfl) (List.Subset.refl _) fun l ws u =>
      serveDeclareStringLost_answers.mono ?_
    rintro v ⟨a, j, _, _, _, rfl⟩
    exact State.loseString_within a j u

theorem catalogued_centre_rows (r : Request) :
    Catalogued (.readCentre r) 48 r ∧ Catalogued (.readOperation r) 49 r ∧ Catalogued (.makeUp r) 50 r
      ∧ Catalogued (.breakOut r) 51 r ∧ Catalogued (.stow r) 52 r ∧ Catalogued (.runBha r) 53 r
      ∧ Catalogued (.pullBha r) 54 r ∧ Catalogued (.abortOp r) 55 r ∧ Catalogued (.readDepth r) 56 r
      ∧ Catalogued (.setHeadConfig r) 57 r := by
  have begun : ∀ (o : Operation) (st : Station) (u : State),
      Within [.engine, .arbiter] .operation u ((u.takeUp o).engineRequest st) := fun o st u =>
    (State.beginOp_frame o st u).within (by simp [centreParts]) (by simp [centreParts])
  refine ⟨?_, ?_, ?_, ?_, ?_, ?_, ?_, ?_, ?_, ?_⟩
  · exact .read (by decide) (fun _ => rfl) (List.Subset.refl _) fun _ _ _ => serveReadCentre_answers
  · exact .read (by decide) (fun _ => rfl) (List.Subset.refl _) fun _ _ _ => serveReadOperation_answers
  · refine .row [.engine, .arbiter] (by decide) (fun _ => rfl) (List.Subset.refl _) fun l ws u =>
      serveMakeUp_answers.mono ?_
    rintro v ⟨a, j, i, rod, src, _, ⟨_, rfl⟩ | rfl⟩
    · exact (State.takeUp_frame _ u).within (by simp [centreParts]) (by simp [centreParts])
    · exact begun ..
  · refine .row [.engine, .arbiter] (by decide) (fun _ => rfl) (List.Subset.refl _) fun l ws u =>
      serveBreakOut_answers.mono ?_
    rintro v ⟨a, j, i, rod, dest, _, _, _, _, _, _, _, rfl⟩
    exact begun ..
  · refine .row [.engine, .arbiter] (by decide) (fun _ => rfl) (List.Subset.refl _) fun l ws u =>
      serveStow_answers.mono ?_
    rintro v ⟨a, j, i, rod, dest, _, _, _, _, _, rfl⟩
    exact begun ..
  · refine .row [.engine, .arbiter] (by decide) (fun _ => rfl) (List.Subset.refl _) fun l ws u =>
      serveRunBha_answers.mono ?_
    rintro v ⟨a, j, _, _, _, rfl⟩
    exact begun ..
  · refine .row [.engine, .arbiter] (by decide) (fun _ => rfl) (List.Subset.refl _) fun l ws u =>
      servePullBha_answers.mono ?_
    rintro v ⟨a, j, _, _, _, _, rfl⟩
    exact begun ..
  · refine .row [.engine, .arbiter] (by decide) (fun _ => rfl) (List.Subset.refl _) fun l ws u =>
      serveAbortOp_answers.mono ?_
    rintro v ⟨o, _, rfl⟩
    exact (State.abandon_frame o _ _ _ u).within (by simp [opParts]) (by simp [opParts])
  · exact .read (by decide) (fun _ => rfl) (List.Subset.refl _) fun _ _ _ => serveReadDepth_answers
  · refine .row [.depth] (by decide) (fun _ => rfl) (List.Subset.refl _) fun l ws u =>
      serveSetHeadConfig_answers.mono ?_
    rintro v ⟨_, _, _, _, _, _, rfl⟩
    exact (frame_depth u _).within

theorem catalogued_pump_rows (r : Request) :
    Catalogued (.readPumps r) 64 r ∧ Catalogued (.setPumpConfig r) 65 r ∧ Catalogued (.setCircConfig r) 66 r
      ∧ Catalogued (.setPumpRate r) 67 r ∧ Catalogued (.stopCirculation r) 68 r
      ∧ Catalogued (.clearCircTotal r) 69 r := by
  refine ⟨?_, ?_, ?_, ?_, ?_, ?_⟩
  · exact .read (by decide) (fun _ => rfl) (List.Subset.refl _) fun _ _ _ => serveReadPumps_answers
  · refine .row [.pumps] (by decide) (fun _ => rfl) (List.Subset.refl _) fun l ws u =>
      serveSetPumpConfig_answers.mono ?_
    rintro v ⟨_, _, _, _, _, _, _, rfl⟩
    exact (State.setPumps_frame _ u).within
  · refine .row [.pumps] (by decide) (fun _ => rfl) (List.Subset.refl _) fun l ws u =>
      serveSetCircConfig_answers.mono ?_
    rintro v ⟨_, _, rfl⟩
    exact (State.setPumps_frame _ u).within
  · refine .row [.pumps] (by decide) (fun _ => rfl) (List.Subset.refl _) fun l ws u =>
      serveSetPumpRate_answers.mono ?_
    rintro v (rfl | ⟨p, n, _, _, rfl⟩)
    · exact (Frame.rfl' [] v).within
    · exact (State.retarget_frame p n u).within
  · refine .row [.pumps] (by decide) (fun _ => rfl) (List.Subset.refl _) fun l ws u =>
      serveStopCirculation_answers.mono ?_
    rintro v (rfl | ⟨_, rfl⟩)
    · exact (Frame.rfl' [] v).within
    · exact (State.setPumps_frame _ u).within
  · refine .row [.pumps] (by decide) (fun _ => rfl) (List.Subset.refl _) fun l ws u =>
      serveClearCircTotal_answers.mono ?_
    rintro v rfl
    exact (State.setPumps_frame _ u).within

theorem catalogued_tank_rows (r : Request) :
    Catalogued (.readTanks r) 80 r ∧ Catalogued (.setTankConfig r) 81 r ∧ Catalogued (.swapTanks r) 82 r
      ∧ Catalogued (.addWater r) 83 r ∧ Catalogued (.setBalancePeriod r) 84 r ∧ Catalogued (.readBalance r) 85 r
      ∧ Catalogued (.setLossThresholds r) 86 r := by
  refine ⟨?_, ?_, ?_, ?_, ?_, ?_, ?_⟩
  · exact .read (by decide) (fun _ => rfl) (List.Subset.refl _) fun _ _ _ => serveReadTanks_answers
  · refine .row [.tanks, .pumps, .jobs, .transit] (by decide) (fun _ => rfl) (List.Subset.refl _) fun l ws u =>
      serveSetTankConfig_answers.mono ?_
    rintro v ⟨k, _, _, _, _, _, _, _, rfl⟩
    exact ((State.setTanks_frame' _ u).trans (State.configured_frame k _)).within (by simp [tankParts])
      (by simp [tankParts])
  · refine .row [.tanks, .pumps, .jobs, .transit] (by decide) (fun _ => rfl) (List.Subset.refl _) fun l ws u =>
      serveSwapTanks_answers.mono ?_
    rintro v ⟨_, rfl⟩
    exact (State.swap_frame _ u).within (by simp [tankParts]) (by simp [tankParts])
  · refine .row [.tanks, .pumps, .jobs, .transit] (by decide) (fun _ => rfl) (List.Subset.refl _) fun l ws u =>
      serveAddWater_answers.mono ?_
    rintro v ⟨k, litres, rfl⟩
    exact (State.addWater_frame k litres u).within (by simp [tankParts]) (by simp [tankParts])
  · refine .row [.tanks] (by decide) (fun _ => rfl) (List.Subset.refl _) fun l ws u =>
      serveSetBalancePeriod_answers.mono ?_
    rintro v ⟨_, _, _, _, rfl⟩
    exact (frame_tanks u _).within
  · exact .read (by decide) (fun _ => rfl) (List.Subset.refl _) fun _ _ _ => serveReadBalance_answers
  · refine .row [.tanks] (by decide) (fun _ => rfl) (List.Subset.refl _) fun l ws u =>
      serveSetLossThresholds_answers.mono ?_
    rintro v ⟨_, _, _, rfl⟩
    exact (frame_tanks u _).within

theorem catalogued_additive_rows (r : Request) :
    Catalogued (.addAdditive r) 87 r ∧ Catalogued (.setAdditivePrice r) 88 r ∧ Catalogued (.readAdditive r) 89 r
      ∧ Catalogued (.receiveAdditive r) 90 r ∧ Catalogued (.stockCount r) 91 r ∧ Catalogued (.drawAdditive r) 92 r
      ∧ Catalogued (.retireAdditive r) 93 r := by
  refine ⟨?_, ?_, ?_, ?_, ?_, ?_, ?_⟩
  · refine .row [.tanks] (by decide) (fun _ => rfl) (List.Subset.refl _) fun l ws u =>
      serveAddAdditive_answers.mono ?_
    rintro v ⟨i, _, _, rfl⟩
    exact (State.setAdditive_frame i _ u).within
  · refine .row [.tanks] (by decide) (fun _ => rfl) (List.Subset.refl _) fun l ws u =>
      serveSetAdditivePrice_answers.mono ?_
    rintro v ⟨i, _, _, _, rfl⟩
    exact (State.setAdditive_frame i _ u).within
  · exact .read (by decide) (fun _ => rfl) (List.Subset.refl _) fun _ _ _ => serveReadAdditive_answers
  · refine .row [.tanks] (by decide) (fun _ => rfl) (List.Subset.refl _) fun l ws u =>
      serveReceiveAdditive_answers.mono ?_
    rintro v ⟨i, _, _, _, rfl⟩
    exact (State.setAdditive_frame i _ u).within
  · refine .row [.tanks] (by decide) (fun _ => rfl) (List.Subset.refl _) fun l ws u =>
      serveStockCount_answers.mono ?_
    rintro v ⟨i, _, _, _, rfl⟩
    exact (State.setAdditive_frame i _ u).within
  · refine .row [.tanks, .pumps, .jobs, .transit] (by decide) (fun _ => rfl) (List.Subset.refl _) fun l ws u =>
      serveDrawAdditive_answers.mono ?_
    rintro v ⟨a, i, x, units, k, _, _, rfl⟩
    exact (State.drawAdditive_frame a i x units k u).within (by simp [tankParts]) (by simp [tankParts])
  · refine .row [.tanks] (by decide) (fun _ => rfl) (List.Subset.refl _) fun l ws u =>
      serveRetireAdditive_answers.mono ?_
    rintro v ⟨i, rfl⟩
    exact (State.removeAdditive_frame i u).within

theorem catalogued_lag_rows (r : Request) :
    Catalogued (.readLag r) 96 r ∧ Catalogued (.setSurfaceLine r) 97 r ∧ Catalogued (.readTransit r) 112 r
      ∧ Catalogued (.readParcel r) 113 r ∧ Catalogued (.setParcelStep r) 114 r ∧ Catalogued (.takeSample r) 115 r
      ∧ Catalogued (.rejectSample r) 116 r := by
  refine ⟨?_, ?_, ?_, ?_, ?_, ?_, ?_⟩
  · exact .read (by decide) (fun _ => rfl) (List.Subset.refl _) fun _ _ _ => serveReadLag_answers
  · refine .row [.transit] (by decide) (fun _ => rfl) (List.Subset.refl _) fun l ws u =>
      serveSetSurfaceLine_answers.mono ?_
    rintro v ⟨_, rfl⟩
    exact (frame_transit u _).within
  · exact .read (by decide) (fun _ => rfl) (List.Subset.refl _) fun _ _ _ => serveReadTransit_answers
  · exact .read (by decide) (fun _ => rfl) (List.Subset.refl _) fun _ _ _ => serveReadParcel_answers
  · refine .row [.transit] (by decide) (fun _ => rfl) (List.Subset.refl _) fun l ws u =>
      serveSetParcelStep_answers.mono ?_
    rintro v ⟨_, rfl⟩
    exact (frame_transit u _).within
  · refine .row [.jobs, .transit] (by decide) (fun _ => rfl) (List.Subset.refl _) fun l ws u =>
      serveTakeSample_answers.mono ?_
    rintro v ⟨a, p, lith, yield, w, _, _, hw, rfl⟩
    exact (((State.bindRange_frame _ _ _ _ u w hw).mono (by simp [transitParts])).trans
      (State.setParcels_frame _ w)).within (by simp [transitParts]) (by simp [transitParts])
  · refine .row [.jobs, .transit] (by decide) (fun _ => rfl) (List.Subset.refl _) fun l ws u =>
      serveRejectSample_answers.mono ?_
    rintro v ⟨a, p, _, _, rfl⟩
    exact ((State.setParcels_frame _ u).trans (State.markRange_frame' a _ _ _ _)).within (by simp [transitParts])
      (by simp [transitParts])

theorem catalogued_strata_rows (r : Request) :
    Catalogued (.readLithology r) 128 r ∧ Catalogued (.setLithology r) 129 r ∧ Catalogued (.formationChange r) 130 r
      ∧ Catalogued (.reviseInterval r) 131 r ∧ Catalogued (.noteWater r) 132 r
      ∧ Catalogued (.readInterval r) 133 r := by
  refine ⟨?_, ?_, ?_, ?_, ?_, ?_⟩
  · exact .read (by decide) (fun _ => rfl) (List.Subset.refl _) fun _ _ _ => serveReadLithology_answers
  · refine .row [.lith] (by decide) (fun _ => rfl) (List.Subset.refl _) fun l ws u =>
      serveSetLithology_answers.mono ?_
    rintro v ⟨_, _, _, rfl⟩
    exact (frame_lith u _).within
  · refine .row [.jobs, .transit] (by decide) (fun _ => rfl) (List.Subset.refl _) fun l ws u =>
      serveFormationChange_answers.mono ?_
    rintro v ⟨a, j, lith, col, _, _, rfl⟩
    exact (((State.setJob_frame a _ u).mono (by simp [transitParts])).trans (State.closeForming_frame a _)).within
      (by simp [transitParts]) (by simp [transitParts])
  · refine .row [.jobs] (by decide) (fun _ => rfl) (List.Subset.refl _) fun l ws u =>
      serveReviseInterval_answers.mono ?_
    rintro v ⟨i, j, top, bottom, lith, _, _, _, hv⟩
    exact (State.bindRange_frame _ _ _ _ u v hv).within
  · refine .row [.jobs] (by decide) (fun _ => rfl) (List.Subset.refl _) fun l ws u =>
      serveNoteWater_answers.mono ?_
    rintro v ⟨i, j, d, yield, _, rfl⟩
    exact (State.setColumn_frame i _ u).within
  · exact .read (by decide) (fun _ => rfl) (List.Subset.refl _) fun _ _ _ => serveReadInterval_answers

theorem catalogued_sheet_rows (r : Request) :
    Catalogued (.readSheet r) 144 r ∧ Catalogued (.readRates r) 145 r ∧ Catalogued (.settle r) 146 r
      ∧ Catalogued (.readAttention r) 160 r ∧ Catalogued (.clearAttention r) 161 r
      ∧ Catalogued (.setAttentionMask r) 162 r := by
  refine ⟨?_, ?_, ?_, ?_, ?_, ?_⟩
  · exact .read (by decide) (fun _ => rfl) (List.Subset.refl _) fun _ _ _ => serveReadSheet_answers
  · exact .read (by decide) (fun _ => rfl) (List.Subset.refl _) fun _ _ _ => serveReadRates_answers
  · refine .row [.jobs] (by decide) (fun _ => rfl) (List.Subset.refl _) fun l ws u => serveSettle_answers.mono ?_
    rintro v ⟨i, j, _, hv⟩
    rw [hv]
    exact (State.settle_frame i u).within
  · exact .read (by decide) (fun _ => rfl) (List.Subset.refl _) fun _ _ _ => serveReadAttention_answers
  · refine .row [] (by decide) (fun _ => rfl) (List.Subset.refl _) fun l ws u =>
      serveClearAttention_answers.mono ?_
    rintro v ⟨_, rfl⟩
    exact (frame_attn u _).within
  · refine .row [] (by decide) (fun _ => rfl) (List.Subset.refl _) fun l ws u =>
      serveSetAttentionMask_answers.mono ?_
    rintro v ⟨_, rfl⟩
    exact (frame_attn u _).within

/-- Every request but NOP stands in the catalogue, and its block stays within the parts its rule names. -/
theorem catalogued {i : Instr} {code : Byte} {r : Request} (h : requestCode i = some (code, r)) (hn : i ≠ .nop r) :
    Catalogued i code r := by
  cases i <;> simp only [requestCode, Option.some.injEq, Prod.mk.injEq, reduceCtorEq] at h
  all_goals obtain ⟨rfl, rfl⟩ := h
  case nop => exact absurd rfl hn
  all_goals
    simp only [catalogued_mode_rows, catalogued_job_rows, catalogued_job_edit_rows, catalogued_roster_read_rows,
      catalogued_roster_edit_rows, catalogued_centre_rows, catalogued_pump_rows, catalogued_tank_rows,
      catalogued_additive_rows, catalogued_lag_rows, catalogued_strata_rows, catalogued_sheet_rows]

end Sys2Proof.Machine
end

section
/-! PROOFS. The frame of every command: what its rule names, and in WAKING the end of the window. Every command leaves
a next state, and a refused request changes nothing but the response and the sampled lines. -/

namespace Sys2Proof.Machine

/-! ### The outcomes of a request -/

/-- What taking a request of a class can come to, when its block's acceptances meet `P`: a link error, a refusal by the
checks or the block, or an acceptance (R179, R31, R2, R32). -/
inductive RequestOutcome (code : Byte) (cls : ReqClass) (r : Request) (P : State → Prop) (s t : State) : Prop where
  | linkError (status : Status) (hframe : judgeFrame (requestFrame code r) = .error status)
      (ht : t = (s.clockOut (frameBits (requestFrame code r))).linkError status)
  | refused (status : Status) (hok : status ≠ .ok) (hpending : status ≠ .pending)
      (ht : t = (s.heard code r).respond status [])
  | accepted (status : Status) (payload : List Word) (v : State) (hstatus : status = .ok ∨ status = .pending)
      (hv : P v) (ht : t = (v.endWake cls).respond status payload)

theorem admission_status {required : Nat} {cls : ReqClass} {r : Request} {s : State} {status : Status}
    (h : admission required cls r s = some status) : status ≠ .ok ∧ status ≠ .pending := by
  unfold admission at h
  split_ifs at h <;> cases h <;> simp

theorem takeRequest_outcome {code : Byte} {required : Nat} {cls : ReqClass}
    {body : Nat → List Word → State → Reply} {r : Request} {P : State → Prop} {s t : State}
    (hbody : ∀ l ws, Answers P (body l ws (s.heard code r)))
    (hx : takeRequest code required cls body r s = .next t) : RequestOutcome code cls r P s t := by
  obtain ⟨status, hj, he⟩ | ⟨ws, status, _, ha, he⟩ | ⟨ws, _, he⟩ := takeRequest_cases code required cls body r s
  · exact .linkError status hj (Host.Outcome.next.inj (hx.symm.trans he))
  · obtain ⟨hok, hpending⟩ := admission_status ha
    exact .refused status hok hpending (Host.Outcome.next.inj (hx.symm.trans he))
  · have ht := Host.Outcome.next.inj (hx.symm.trans he)
    have hb := hbody r.level.toNat ws
    cases hreply : body r.level.toNat ws (s.heard code r) with
    | error status =>
      rw [hreply] at hb ht
      exact .refused status hb.1 hb.2 ht
    | ok a =>
      rw [hreply] at hb ht
      exact .accepted a.status a.payload a.state hb.1 hb.2 ht

/-- What a request of the catalogue comes to, its block staying within its own parts. -/
theorem exec_request_outcome {i : Instr} {code : Byte} {r : Request} {s t : State}
    (h : requestCode i = some (code, r)) (hn : i ≠ .nop r) (hx : exec i s = .next t) :
    ∃ required cls own, (code, required, cls) ∈ catalogue ∧ requestParts own ⊆ touched i ∧ (cls = .read → own = [])
      ∧ RequestOutcome code cls r (Within own cls (s.heard code r)) s t := by
  obtain ⟨required, cls, body, own, hrow, hexec, hown, hread, hbody⟩ := catalogued h hn
  exact ⟨required, cls, own, hrow, hown, hread, takeRequest_outcome (fun l ws => hbody l ws _) (hexec s ▸ hx)⟩

/-! ### Frames of the outcomes -/

theorem State.clockOut_frame (n : Nat) (s : State) : Frame [.link] s (s.clockOut n) := frame_link s _

theorem State.linkError_frame (status : Status) (s : State) : Frame [.link, .attn] s (s.linkError status) :=
  ((State.respond_frame status [] s).mono (by simp)).trans ((State.raise_frame ..).mono (by simp))

/-- A request's outcome changes its own parts, and in WAKING those of the window's end. -/
theorem RequestOutcome.frame {code : Byte} {cls : ReqClass} {r : Request} {own : List Part} {s t : State}
    (h : RequestOutcome code cls r (Within own cls (s.heard code r)) s t) :
    Frame (requestParts own ++ if s.mode.mode = .waking then wakeEnd else []) s t := by
  have hmono : ∀ {qs : List Part} {u v : State}, Frame qs u v → qs ⊆ requestParts own →
      Frame (requestParts own ++ if s.mode.mode = .waking then wakeEnd else []) u v := fun hf hs =>
    hf.mono (List.Subset.trans hs (List.subset_append_left _ _))
  cases h with
  | linkError status hframe ht =>
    rw [ht]
    exact hmono (((State.clockOut_frame _ s).mono (by simp)).trans (State.linkError_frame status _))
      (by simp [requestParts])
  | refused status _ _ ht =>
    rw [ht]
    exact hmono ((State.heard_frame code r s).trans ((State.respond_frame ..).mono (by simp)))
      (by simp [requestParts])
  | accepted status payload v _ hv ht =>
    obtain ⟨hframe, hmode⟩ := hv
    rw [ht]
    refine Frame.trans (hmono ((State.heard_frame code r s).mono ?_ : Frame (requestParts own) _ _) (by simp))
      (Frame.trans (hmono hframe (by simp [requestParts])) (Frame.trans ?_
        (hmono (State.respond_frame status payload _) (by simp [requestParts]))))
    · simp [requestParts]
    · by_cases hend : v.mode.mode = .waking ∧ cls ≠ .read ∧ cls ≠ .mode
      · have hw : s.mode.mode = .waking := (hmode hend.2.2).symm.trans hend.1
        rw [if_pos hw]
        exact (State.endWake_frame cls v).mono (List.subset_append_right _ _)
      · rw [State.endWake, if_neg hend]
        exact Frame.rfl' _ v

/-! ### Frames of the station reports -/

/-- A message changes the attention set, and what its receiver changes. -/
theorem deliver_frame {kind : Byte} {receiver : Station → State → State} {m : Message} {ps : List Part}
    {s t : State} (hx : deliver kind receiver m s = .next t)
    (hr : ∀ st, Delivered kind st m → Frame (reportParts ps) s (receiver st s)) : Frame (reportParts ps) s t := by
  unfold deliver at hx
  split at hx
  next st hj hst =>
    obtain rfl := Host.Outcome.next.inj hx
    exact hr st ⟨hj, hst⟩
  all_goals
    obtain rfl := Host.Outcome.next.inj hx
    exact (State.raise_frame ..).mono (by simp [reportParts])

theorem State.unexpected_frame (m : Message) (kind : Nat) (step : Option OpStep) (s : State) :
    Frame [.attn] s (s.unexpected m kind step) := State.raise_frame ..

theorem State.notFitting_frame (m : Message) (kind : Nat) (s : State) : Frame [.attn] s (s.notFitting m kind) :=
  State.unexpected_frame ..

/-- A report at one step changes the attention set, and what its receiver changes. -/
theorem atStep_frame {step : OpStep} {want : Station} {kind : Nat} {k : Operation → State → State} {m : Message}
    {st : Station} {ps : List Part} {s : State} (hk : ∀ o, Frame (reportParts ps) s (k o s)) :
    Frame (reportParts ps) s (atStep step want kind k m st s) := by
  unfold atStep
  split
  · exact (State.notFitting_frame m kind s).mono (by simp [reportParts])
  next o _ =>
    split
    · exact hk o
    · exact (State.notFitting_frame m kind s).mono (by simp [reportParts])

theorem takeRequestReport_frame (m : Message) (st : Station) (s : State) :
    Frame (reportParts [.arbiter, .engine, .mode]) s (takeRequestReport m st s) := by
  unfold takeRequestReport
  split
  · exact (State.unexpected_frame ..).mono (by simp [reportParts])
  · exact ((State.stationRequest_frame st s).mono (by simp [reportParts, centreParts])).trans
      ((State.wake_frame _ _).mono (by simp [reportParts]))

theorem takeReleaseReport_frame (m : Message) (st : Station) (s : State) :
    Frame (reportParts [.arbiter, .engine]) s (takeReleaseReport m st s) := by
  unfold takeReleaseReport
  split
  · exact (State.unexpected_frame ..).mono (by simp [reportParts])
  · exact (State.stationRelease_frame st s).mono (by simp [reportParts, opParts])

theorem takePresented_frame (o : Operation) (s : State) : Frame (reportParts [.engine]) s (takePresented o s) :=
  (frame_engine s _).mono (by simp [reportParts])

theorem State.placeRod_frame (i : Fin 128) (place : RodPlace) (s : State) :
    Frame rosterParts s (s.placeRod i place) := State.modifyRod_frame ..

theorem State.tagMatched_frame (o : Operation) (s : State) :
    Frame [.engine, .arbiter, .roster, .attn] s (s.tagMatched o) := by
  unfold State.tagMatched
  split
  · refine Frame.trans ?_ (((State.setStep_frame _ o _).trans (State.engineRelease_frame _ _)).mono
      (by simp [centreParts]))
    split
    · exact Frame.rfl' _ s
    · exact (State.placeRod_frame ..).mono (by simp [rosterParts])
    · exact Frame.rfl' _ s
  · exact (State.setStep_frame ..).mono (by simp [centreParts])
  · exact (State.setStep_frame ..).mono (by simp [centreParts])
  · exact Frame.rfl' _ s
  · exact Frame.rfl' _ s

theorem State.doubtRod_frame (o : Operation) (s : State) : Frame rosterParts s (s.doubtRod o) := by
  unfold State.doubtRod
  split
  · exact Frame.rfl' _ s
  · exact State.modifyRod_frame ..

theorem State.endOp_release_frame (o : Operation) (x : OpOutcome) (st : Option Station) (v : Nat) (want : Station)
    (s : State) : Frame opParts s ((s.endOp o x st v).engineRelease want) :=
  ((State.endOp_frame o x st v s).mono (by simp)).trans ((State.engineRelease_frame want _).mono (by simp))

theorem State.tagDiffers_frame (o : Operation) (tag : Nat) (s : State) :
    Frame [.engine, .arbiter, .roster, .attn] s (s.tagDiffers o tag) :=
  (((State.doubtRod_frame o s).mono (by simp [rosterParts])).trans ((State.raise_frame ..).mono (by simp))).trans
    ((State.endOp_release_frame o _ _ _ _ _).mono (by simp [opParts]))

theorem takeTag_frame (v : BitVec 32) (o : Operation) (s : State) :
    Frame (reportParts [.engine, .arbiter, .roster]) s (takeTag v o s) := by
  unfold takeTag
  split_ifs
  · exact (State.setStep_frame ..).mono (by simp [reportParts, centreParts])
  · exact (State.setStep_frame ..).mono (by simp [reportParts, centreParts])
  · exact (State.tagMatched_frame ..).mono (by simp [reportParts])
  · exact (State.tagDiffers_frame ..).mono (by simp [reportParts])

theorem State.rackOpRod_frame (o : Operation) (s : State) : Frame rosterParts s (s.rackOpRod o) := by
  unfold State.rackOpRod
  split
  · exact State.modifyRod_frame ..
  · exact Frame.rfl' _ s

theorem takeStowed_frame (o : Operation) (s : State) :
    Frame (reportParts [.engine, .arbiter, .roster]) s (takeStowed o s) :=
  ((State.rackOpRod_frame o s).mono (by simp [reportParts, rosterParts])).trans
    ((State.endOp_release_frame o _ _ _ _ _).mono (by simp [reportParts, opParts]))

theorem State.joinOpRod_frame (o : Operation) (s : State) : Frame rosterParts s (s.joinOpRod o) := by
  unfold State.joinOpRod
  split
  · exact Frame.rfl' _ s
  · exact State.joinRod_frame ..

theorem takeTorqueMade_frame (m : Message) (st : Station) (s : State) :
    Frame (reportParts [.engine, .roster]) s (takeTorqueMade m st s) := by
  have misfit : Frame (reportParts [.engine, .roster]) s (s.notFitting m 6) :=
    (State.notFitting_frame m 6 s).mono (by simp [reportParts])
  have ended : ∀ (o : Operation) (u : State), Frame (reportParts [.engine, .roster]) u (u.endOp o .done none 0) :=
    fun o u => ((frame_engine u _).mono (by simp [reportParts])).trans ((State.raise_frame ..).mono (by simp [reportParts]))
  unfold takeTorqueMade
  split
  · exact misfit
  next o _ =>
    split
    · exact ((State.joinOpRod_frame o s).mono (by simp [reportParts, rosterParts])).trans (ended o _)
    · exact misfit

theorem State.unjoinOpRod_frame (o : Operation) (s : State) : Frame rosterParts s (s.unjoinOpRod o) := by
  unfold State.unjoinOpRod
  split
  · exact Frame.rfl' _ s
  · exact State.unjoinRod_frame ..

theorem takeJointBroken_frame (o : Operation) (s : State) :
    Frame (reportParts [.engine, .arbiter, .roster]) s (takeJointBroken o s) :=
  ((State.unjoinOpRod_frame o s).mono (by simp [reportParts, rosterParts])).trans
    ((((State.setStep_frame _ o _).trans (State.engineRequest_frame _ _)).trans (State.engineRelease_frame _ _)).mono
      (by simp [reportParts, centreParts]))

theorem State.moveBha_frame (place : BhaPlace) (len : Nat → Nat → Nat) (s : State) :
    Frame [.jobs, .roster, .attn] s (s.moveBha place len) := by
  unfold State.moveBha
  split
  · exact Frame.rfl' _ s
  · split
    · exact Frame.rfl' _ s
    · exact ((State.setJob_frame ..).mono (by simp)).trans ((State.setStringLen_frame ..).mono (by simp [rosterParts]))

/-- A BHA operation done: the BHA's place, the string length, and the end of the operation (R64). -/
theorem moveBha_done_frame (place : BhaPlace) (len : Nat → Nat → Nat) (o : Operation) (s : State) :
    Frame (reportParts [.jobs, .roster, .engine, .arbiter]) s
      (((s.moveBha place len).endOp o .done none 0).engineRelease .tongs) :=
  ((State.moveBha_frame place len s).mono (by simp [reportParts])).trans
    ((State.endOp_release_frame o _ _ _ _ _).mono (by simp [reportParts, opParts]))

theorem takeFault_frame (m : Message) (st : Station) (s : State) :
    Frame (reportParts [.engine, .arbiter]) s (takeFault m st s) := by
  unfold takeFault
  split
  · exact (State.notFitting_frame m 10 s).mono (by simp [reportParts])
  next o _ =>
    split
    · exact (State.abandon_frame o _ _ _ s).mono (by simp [reportParts, opParts])
    · exact (State.notFitting_frame m 10 s).mono (by simp [reportParts])

theorem takeCoupledReport_frame (m : Message) (st : Station) (s : State) :
    Frame (reportParts [.depth]) s (takeCoupledReport m st s) := by
  unfold takeCoupledReport
  split
  · exact (frame_depth s _).mono (by simp [reportParts])
  · exact (State.unexpected_frame ..).mono (by simp [reportParts])

theorem takeFreeReport_frame (m : Message) (st : Station) (s : State) :
    Frame (reportParts [.depth, .arbiter, .engine, .transit, .jobs]) s (takeFreeReport m st s) := by
  unfold takeFreeReport
  split
  · exact (State.takeFree_frame s).mono (by simp [reportParts, freedParts])
  · exact (State.unexpected_frame ..).mono (by simp [reportParts])

theorem State.heightWakes_frame (reported : Int) (s : State) : Frame [.mode] s (s.heightWakes reported) := by
  unfold State.heightWakes
  split
  · exact State.wake_frame _ s
  · exact Frame.rfl' _ s

theorem takeHeightReport_frame (m : Message) (st : Station) (s : State) :
    Frame (reportParts [.jobs, .roster, .transit, .tanks, .drilling, .depth, .mode]) s (takeHeightReport m st s) := by
  unfold takeHeightReport
  split
  · exact ((State.heightWakes_frame _ s).mono (by simp [reportParts])).trans
      ((State.takeHeight_frame _ _).mono (by simp [reportParts, heightParts]))
  · exact (State.unexpected_frame ..).mono (by simp [reportParts])

theorem takeLevelReport_frame (m : Message) (st : Station) (s : State) :
    Frame (reportParts [.tanks, .pumps, .jobs, .transit]) s (takeLevelReport m st s) := by
  unfold takeLevelReport
  split
  · split
    · exact (State.takeLevel_frame ..).mono (by simp [reportParts, tankParts])
    · exact (State.unexpected_frame ..).mono (by simp [reportParts])
  · exact (State.unexpected_frame ..).mono (by simp [reportParts])

theorem takeFlowReport_frame (m : Message) (st : Station) (s : State) :
    Frame (reportParts [.tanks, .jobs, .transit]) s (takeFlowReport m st s) := by
  unfold takeFlowReport
  split
  · split
    · exact (State.takeFlow_frame ..).mono (by simp [reportParts, balanceParts])
    · exact (State.unexpected_frame ..).mono (by simp [reportParts])
  · exact (State.unexpected_frame ..).mono (by simp [reportParts])

/-! ### Frames of the expiries, the strokes and the link -/

theorem execStrokePulse_frame {p : Pump} {s t : State} (hx : execStrokePulse p s = .next t) :
    Frame [.pumps, .transit, .jobs, .mode, .attn] s t := by
  obtain rfl := Host.Outcome.next.inj hx
  exact ((((State.setPumps_frame _ s).mono (by simp)).trans
    ((State.advanceParcels_frame _ _).mono (by simp [transitParts]))).trans ((State.wake_frame _ _).mono (by simp))).trans
    ((State.strokeCirculation_frame p _).mono (by simp))

theorem execLinkReset_frame {g : List Bool} {s t : State} (hx : execLinkReset g s = .next t) : Frame [.link] s t := by
  obtain rfl := Host.Outcome.next.inj hx
  refine Frame.trans (t := if g = [] then s else s.clockOut g.length) ?_ (frame_link _ _)
  split
  · exact Frame.rfl' _ s
  · exact State.clockOut_frame _ s

theorem execPowerUp_frame {s t : State} (hx : execPowerUp s = .next t) : Frame (touched .powerUp) s t := by
  obtain rfl := Host.Outcome.next.inj hx
  refine Frame.trans (t := s.comeUp) ⟨fun p hp => ?_⟩ ((State.raise_frame ..).mono (by simp [touched]))
  cases p
  case jobs | protection | transit | lith | draws | pending => rfl
  all_goals simp [touched] at hp

/-- What the receivers of a minute's turn may change. -/
abbrev turnParts : List Part :=
  [.mode, .pumps, .attn, .arbiter, .engine, .tanks, .jobs, .transit, .drilling, .draws]

/-- What the receivers of a lone minute expiry may change. -/
abbrev minuteParts : List Part := [.mode, .jobs, .attn, .drilling, .engine, .tanks, .pumps, .transit, .draws]

theorem minuteReceiver_frame {f : State → State} (hf : f ∈ minuteReceivers) (s : State) :
    Frame minuteParts s (f s) := by
  simp only [minuteReceivers, List.mem_cons, List.not_mem_nil, or_false] at hf
  obtain rfl | rfl | rfl := hf
  · exact (State.sheetMinute_frame s).mono (by simp)
  · exact (State.mixMinute_frame s).mono (by simp [tankParts])
  · exact (State.windowMinute_frame s).mono (by simp)

theorem expiryReceiver_frame {f : State → State} (hf : f ∈ expiryReceivers) (s : State) :
    Frame turnParts s (f s) := by
  simp only [expiryReceivers, List.mem_cons, List.not_mem_nil, or_false] at hf
  obtain rfl | rfl | hf := hf
  · exact (State.pumpSecond_frame s).mono (by simp [pumpParts])
  · exact (State.balanceSecond_frame s).mono (by simp [balanceParts])
  · exact (minuteReceiver_frame (by simpa [minuteReceivers] using hf) s).mono (by simp)

/-- Receivers served in turn, each within the parts listed. -/
theorem frame_serve {ps : List Part} :
    ∀ {fs : List (State → State)}, (∀ f ∈ fs, ∀ s, Frame ps s (f s)) → ∀ s, Frame ps s (fs.foldl (fun s f => f s) s)
  | [], _, s => Frame.rfl' ps s
  | f :: _, h, s =>
    (h f (by simp) s).trans (frame_serve (fun g hg => h g (List.mem_cons_of_mem _ hg)) (f s))

theorem frame_mode_draws (s : State) (x : ModeCtl) (n : Nat) :
    Frame [.mode, .draws] s { s with mode := x, draws := n } := by
  refine ⟨fun p hp => ?_⟩
  cases p
  case mode | draws => simp at hp
  all_goals rfl

theorem execSecondExpiry_frame {s t : State} (hx : execSecondExpiry s = .next t) : Frame turnParts s t := by
  obtain rfl := Host.Outcome.next.inj hx
  split
  · exact (((frame_mode s _).mono (by simp)).trans ((State.pumpSecond_frame _).mono (by simp [pumpParts]))).trans
      ((State.balanceSecond_frame _).mono (by simp [balanceParts]))
  · exact ((frame_mode_draws s _ _).mono (by simp)).trans
      (frame_serve (fun f hf u => expiryReceiver_frame (mem_of_mem_permuteBy hf) u) _)

theorem execMinuteExpiry_frame {s t : State} (hx : execMinuteExpiry s = .next t) : Frame minuteParts s t := by
  obtain rfl := Host.Outcome.next.inj hx
  exact ((frame_mode_draws s _ _).mono (by simp)).trans
    (frame_serve (fun f hf u => minuteReceiver_frame (mem_of_mem_permuteBy hf) u) _)

theorem execRampExpiry_frame {p : Pump} {s t : State} (hx : execRampExpiry p s = .next t) : Frame [.pumps] s t := by
  unfold execRampExpiry at hx
  split at hx <;> obtain rfl := Host.Outcome.next.inj hx
  · exact Frame.rfl' _ s
  · exact frame_pumps s _

theorem execStillExpiry_frame {s t : State} (hx : execStillExpiry s = .next t) : Frame pumpParts s t := by
  obtain rfl := Host.Outcome.next.inj hx
  split
  · exact Frame.rfl' _ s
  · exact State.stillExpiry_frame s

theorem execBalanceExpiry_frame {s t : State} (hx : execBalanceExpiry s = .next t) : Frame balanceParts s t := by
  unfold execBalanceExpiry at hx
  split at hx <;> obtain rfl := Host.Outcome.next.inj hx
  · exact Frame.rfl' _ s
  · exact (State.setTanks_frame _ s).trans (State.reading_frame _ _)

theorem execMixHoldExpiry_frame {s t : State} (hx : execMixHoldExpiry s = .next t) : Frame tankParts s t := by
  obtain rfl := Host.Outcome.next.inj hx
  split
  · exact Frame.rfl' _ s
  · exact State.mixExpiry_frame s

theorem execDiscardedFrame_frame {f : RawFrame} {s t : State} (hx : execDiscardedFrame f s = .next t) :
    Frame [.link, .attn] s t := by
  have error : ∀ status, Frame [.link, .attn] s ((s.clockOut (frameBits f)).linkError status) := fun status =>
    ((State.clockOut_frame _ s).mono (by simp)).trans (State.linkError_frame status _)
  unfold execDiscardedFrame at hx
  split at hx
  · obtain rfl := Host.Outcome.next.inj hx
    exact Frame.rfl' _ s
  · split at hx <;> obtain rfl := Host.Outcome.next.inj hx
    · exact error _
    · split
      · exact error _
      · exact Frame.rfl' _ s

theorem execDiscardedStationMessage_frame {b : List Byte} {s t : State}
    (hx : execDiscardedStationMessage b s = .next t) : Frame [.attn] s t := by
  unfold execDiscardedStationMessage at hx
  split at hx <;> obtain rfl := Host.Outcome.next.inj hx
  · exact State.raise_frame ..
  · split
    · exact Frame.rfl' _ s
    · exact State.raise_frame ..

theorem execNop_frame {r : Request} {s t : State} (hx : execNop r s = .next t) : Frame [.link, .attn] s t := by
  simp only [execNop] at hx
  split at hx <;> obtain rfl := Host.Outcome.next.inj hx
  · exact ((State.clockOut_frame _ s).mono (by simp)).trans (State.linkError_frame _ _)
  · exact (State.clockOut_frame _ s).mono (by simp)

/-! ### Every command -/

/-- A command that is no request of the catalogue touches its own parts alone. -/
theorem exec_frame_of_no_request {c : Instr} {s t : State} (hx : exec c s = .next t)
    (hc : ∀ code r, requestCode c = some (code, r) → c = .nop r) : Frame (touched c) s t := by
  cases c
  case nop r => exact execNop_frame hx
  case request m => exact deliver_frame hx fun st _ => takeRequestReport_frame m st s
  case release m => exact deliver_frame hx fun st _ => takeReleaseReport_frame m st s
  case presented m =>
    exact deliver_frame hx fun st _ => atStep_frame fun o => takePresented_frame o s
  case tag m => exact deliver_frame hx fun st _ => atStep_frame fun o => takeTag_frame m.value o s
  case stowed m => exact deliver_frame hx fun st _ => atStep_frame fun o => takeStowed_frame o s
  case torqueMade m => exact deliver_frame hx fun st _ => takeTorqueMade_frame m st s
  case jointBroken m => exact deliver_frame hx fun st _ => atStep_frame fun o => takeJointBroken_frame o s
  case bhaSet m => exact deliver_frame hx fun st _ => atStep_frame fun o => moveBha_done_frame _ _ o s
  case bhaClear m => exact deliver_frame hx fun st _ => atStep_frame fun o => moveBha_done_frame _ _ o s
  case fault m => exact deliver_frame hx fun st _ => takeFault_frame m st s
  case coupled m => exact deliver_frame hx fun st _ => takeCoupledReport_frame m st s
  case free m => exact deliver_frame hx fun st _ => takeFreeReport_frame m st s
  case height m => exact deliver_frame hx fun st _ => takeHeightReport_frame m st s
  case level m => exact deliver_frame hx fun st _ => takeLevelReport_frame m st s
  case flow m => exact deliver_frame hx fun st _ => takeFlowReport_frame m st s
  case strokePulse p => exact execStrokePulse_frame hx
  case linkReset g => exact execLinkReset_frame hx
  case powerUp => exact execPowerUp_frame hx
  case secondExpiry => exact execSecondExpiry_frame hx
  case minuteExpiry => exact execMinuteExpiry_frame hx
  case rampExpiry p => exact execRampExpiry_frame hx
  case stillExpiry => exact (execStillExpiry_frame hx).mono (by simp [touched, pumpParts])
  case balanceExpiry => exact (execBalanceExpiry_frame hx).mono (by simp [touched, balanceParts])
  case mixHoldExpiry => exact (execMixHoldExpiry_frame hx).mono (by simp [touched, tankParts])
  case wakeWindowExpiry =>
    obtain rfl := Host.Outcome.next.inj hx
    exact State.windowExpiry_frame s
  case discardedFrame f => exact execDiscardedFrame_frame hx
  case discardedStationMessage b => exact execDiscardedStationMessage_frame hx
  all_goals exact absurd (hc _ _ rfl) (by simp)

/-- A command is a request of the catalogue or none. -/
theorem request_or_none (c : Instr) :
    (∃ code r, requestCode c = some (code, r) ∧ c ≠ .nop r) ∨ ∀ code r, requestCode c = some (code, r) → c = .nop r := by
  by_cases h : ∃ code r, requestCode c = some (code, r) ∧ c ≠ .nop r
  · exact .inl h
  · exact .inr fun code r hr => by_contra fun hn => h ⟨code, r, hr, hn⟩

/-- Settles O2, by the frame of each request's outcome and of each other command. -/
theorem commandsTouchOnlyTheirOwnParts : Obligations.CommandsTouchOnlyTheirOwnParts := by
  intro c s t hx
  obtain ⟨code, r, hr, hn⟩ | hc := request_or_none c
  · obtain ⟨required, cls, own, _, hown, _, ho⟩ := exec_request_outcome hr hn hx
    refine ho.frame.mono (List.append_subset.2 ⟨?_, List.subset_append_right _ _⟩)
    exact List.Subset.trans hown (List.subset_append_left _ _)
  · exact (exec_frame_of_no_request hx hc).mono (List.subset_append_left _ _)

/-- A message, whatever its receiver, leaves a next state; so does every request. -/
theorem exec_next (c : Instr) (s : State) : ∃ t, exec c s = .next t := by
  obtain ⟨code, r, hr, hn⟩ | hc := request_or_none c
  · obtain ⟨required, cls, body, own, _, hexec, _, _, _⟩ := catalogued hr hn
    rw [hexec]
    exact takeRequest_next ..
  · cases c
    case nop r =>
      show ∃ t, execNop r s = .next t
      simp only [execNop]
      split <;> exact ⟨_, rfl⟩
    case request | release | presented | tag | stowed | torqueMade | jointBroken | bhaSet | bhaClear | fault | coupled
        | free | height | level | flow => exact deliver_next ..
    case strokePulse | linkReset | powerUp | secondExpiry | minuteExpiry | stillExpiry | mixHoldExpiry
        | wakeWindowExpiry => exact ⟨_, rfl⟩
    case rampExpiry p =>
      show ∃ t, execRampExpiry p s = .next t
      unfold execRampExpiry
      split <;> exact ⟨_, rfl⟩
    case balanceExpiry =>
      show ∃ t, execBalanceExpiry s = .next t
      unfold execBalanceExpiry
      split <;> exact ⟨_, rfl⟩
    case discardedFrame f =>
      show ∃ t, execDiscardedFrame f s = .next t
      unfold execDiscardedFrame
      split
      · exact ⟨_, rfl⟩
      · split <;> exact ⟨_, rfl⟩
    case discardedStationMessage b =>
      show ∃ t, execDiscardedStationMessage b s = .next t
      unfold execDiscardedStationMessage
      split <;> exact ⟨_, rfl⟩
    all_goals exact absurd (hc _ _ rfl) (by simp)

/-- Settles O3: the cases of every command, and the branch of the two discard rows that does nothing. -/
theorem everyCommandCompletes : Obligations.EveryCommandCompletes := by
  refine ⟨exec_next, fun f ws s hj hs => ?_, fun b s hj hk => ?_⟩
  · show execDiscardedFrame f s = .next s
    unfold execDiscardedFrame
    split
    · rfl
    · simp [hj, hs]
  · show execDiscardedStationMessage b s = .next s
    simp [execDiscardedStationMessage, hj, hk]

/-- Settles O9: a link error has no good frame, and an acceptance answers OK or PENDING. -/
theorem refusedRequestsChangeNothing : Obligations.RefusedRequestsChangeNothing := by
  intro i code r ws payload s t status hr hn hj hx hbuf hok hpending
  obtain ⟨required, cls, own, _, _, _, ho⟩ := exec_request_outcome hr hn hx
  cases ho with
  | linkError status' hframe ht => rw [hj] at hframe; cases hframe
  | refused status' _ _ ht =>
    subst ht
    cases hbuf
    exact ⟨rfl, (State.heard_frame code r s).trans ((State.respond_frame ..).mono (by simp))⟩
  | accepted status' payload' v hstatus _ ht =>
    subst ht
    cases hbuf
    exact absurd hstatus (by simp [hok, hpending])

/-- Settles O1, by the definition of a step. -/
theorem stepTakesTheFrontCommand : Obligations.StepTakesTheFrontCommand := by
  refine ⟨fun c rest s => rfl, fun s h => ?_⟩
  simp [step, h]

end Sys2Proof.Machine
end

section
/-! PROOFS. How an invariant is kept: a predicate of a few parts is kept by the commands that touch none of them, and by
a request whose block keeps it. Then the mode controller: admission, the wake events and its invariant. -/

namespace Sys2Proof.Machine

/-! ### Predicates of a few parts -/

/-- The predicate speaks of the parts listed alone. -/
def DependsOn (qs : List Part) (P : State → Prop) : Prop := ∀ s t : State, (∀ p ∈ qs, p.agree s t) → P s → P t

theorem DependsOn.frame {qs ps : List Part} {P : State → Prop} {s t : State} (hP : DependsOn qs P) (h : Frame ps s t)
    (hd : ∀ p ∈ qs, p ∉ ps) (hs : P s) : P t :=
  hP s t (fun p hp => h.kept p (hd p hp)) hs

theorem DependsOn.and {qs : List Part} {P Q : State → Prop} (hP : DependsOn qs P) (hQ : DependsOn qs Q) :
    DependsOn qs fun s => P s ∧ Q s := fun s t h hs => ⟨hP s t h hs.1, hQ s t h hs.2⟩

/-- A predicate of none of the parts that taking a request, raising an attention and the queue change. -/
structure Settled (qs : List Part) (P : State → Prop) : Prop where
  depends : DependsOn qs P
  aside : ∀ p ∈ qs, p ∉ [Part.link, .protection, .attn, .pending, .draws, .receiver]

section Settled

variable {qs : List Part} {P : State → Prop} {s t : State}

/-- A change of the parts aside keeps the predicate. -/
theorem Settled.frame {ps : List Part} (h : Settled qs P) (hf : Frame ps s t)
    (hps : ps ⊆ [.link, .protection, .attn, .pending, .draws, .receiver]) (hs : P s) : P t :=
  h.depends.frame hf (fun p hp hm => h.aside p hp (hps hm)) hs

theorem Settled.raise (h : Settled qs P) (k : AttnKind) (d : Detail) (hs : P s) : P (s.raise k d) :=
  h.frame (State.raise_frame k d s) (by simp) hs

theorem Settled.heard (h : Settled qs P) (code : Byte) (r : Request) (hs : P s) : P (s.heard code r) :=
  h.frame (State.heard_frame code r s) (by simp) hs

theorem Settled.endWake (h : P s → P s.enterOperate) (cls : ReqClass) (hs : P s) : P (s.endWake cls) := by
  unfold State.endWake
  split
  · exact h hs
  · exact hs

/-- A request's outcome keeps the predicate when what its block accepts meets it. -/
theorem Settled.of_outcome {code : Byte} {cls : ReqClass} {r : Request} (h : Settled qs P)
    (hop : ∀ u, P u → P u.enterOperate) (ho : RequestOutcome code cls r P s t) (hs : P s) : P t := by
  cases ho with
  | linkError status _ ht =>
    rw [ht]
    exact h.frame ((State.clockOut_frame _ s).mono (by simp) |>.trans (State.linkError_frame status _)) (by simp) hs
  | refused status _ _ ht =>
    rw [ht]
    exact h.frame ((State.heard_frame code r s).trans ((State.respond_frame ..).mono (by simp))) (by simp) hs
  | accepted status payload v _ hv ht =>
    rw [ht]
    exact h.frame (State.respond_frame ..) (by simp) (Settled.endWake (hop v) cls hv)

/-- A request whose block keeps the predicate keeps it. -/
theorem Settled.of_request {code : Byte} {required : Nat} {cls : ReqClass} {body : Nat → List Word → State → Reply}
    {r : Request} (h : Settled qs P) (hop : ∀ u, P u → P u.enterOperate)
    (hbody : ∀ l ws u, P u → Answers P (body l ws u)) (hx : takeRequest code required cls body r s = .next t)
    (hs : P s) : P t :=
  h.of_outcome hop (takeRequest_outcome (fun l ws => hbody l ws _ (h.heard code r hs)) hx) hs

/-- A message whose receiver keeps the predicate keeps it. -/
theorem Settled.of_deliver {kind : Byte} {receiver : Station → State → State} {m : Message} (h : Settled qs P)
    (hr : ∀ st, Delivered kind st m → P (receiver st s)) (hx : deliver kind receiver m s = .next t) (hs : P s) :
    P t := by
  unfold deliver at hx
  split at hx
  next st hj hst =>
    obtain rfl := Host.Outcome.next.inj hx
    exact hr st ⟨hj, hst⟩
  all_goals
    obtain rfl := Host.Outcome.next.inj hx
    exact h.raise _ _ hs

theorem Settled.notFitting (h : Settled qs P) (m : Message) (kind : Nat) (hs : P s) : P (s.notFitting m kind) :=
  h.raise _ _ hs

/-- A report at one step keeps the predicate when its receiver does. -/
theorem Settled.of_atStep {step : OpStep} {want : Station} {kind : Nat} {k : Operation → State → State} {m : Message}
    {st : Station} (h : Settled qs P) (hk : ∀ o, s.engine.op = some o → o.step = step → P (k o s)) (hs : P s) :
    P (atStep step want kind k m st s) := by
  unfold atStep
  split
  · exact h.notFitting m kind hs
  next o ho =>
    split
    next hfit => exact hk o ho hfit.2
    · exact h.notFitting m kind hs

/-- A command that touches none of the predicate's parts keeps it, whatever ends a wake window. -/
theorem Settled.of_untouched {c : Instr} (h : Settled qs P) (hop : ∀ u, P u → P u.enterOperate)
    (hc : ∀ p ∈ qs, p ∉ touched c) (hx : exec c s = .next t) (hs : P s) : P t := by
  obtain ⟨code, r, hr, hn⟩ | hno := request_or_none c
  · obtain ⟨required, cls, body, own, _, hexec, hown, _, hbody⟩ := catalogued hr hn
    refine h.of_request hop (fun l ws u hu => (hbody l ws u).mono fun v hv => ?_) (hexec s ▸ hx) hs
    refine h.depends.frame hv.1 (fun p hp hm => ?_) hu
    obtain rfl | hm := List.mem_cons.1 hm
    · exact h.aside _ hp (by simp)
    · exact hc p hp (hown (by simp [requestParts, hm]))
  · exact h.depends.frame (exec_frame_of_no_request hx hno) hc hs

/-- A step keeps the predicate when every command does. -/
theorem Settled.of_step (h : Settled qs P) (hexec : ∀ c s t, exec c s = .next t → P s → P t)
    (hx : step s = .next t) (hs : P s) : P t := by
  unfold step at hx
  split at hx
  · obtain rfl := Host.Outcome.next.inj hx
    exact hs
  · refine hexec _ _ _ hx (h.depends.frame (ps := [.pending]) ⟨fun p hp => ?_⟩ (fun p hp hm => ?_) hs)
    · cases p
      case pending => simp at hp
      all_goals rfl
    · exact h.aside p hp (by simp_all)

end Settled

/-! ### Admission -/

theorem catalogue_codes_nodup : (catalogue.map Prod.fst).Nodup := by decide

theorem nop_not_in_catalogue {required : Nat} {cls : ReqClass} : (0, required, cls) ∉ catalogue := fun h =>
  absurd (List.mem_map_of_mem (f := Prod.fst) h) (show (0 : Byte) ∉ catalogue.map Prod.fst by decide)

/-- A code stands in one row of the catalogue. -/
theorem catalogue_unique {code : Byte} {x y : Nat × ReqClass} (hx : (code, x) ∈ catalogue)
    (hy : (code, y) ∈ catalogue) : x = y :=
  congrArg Prod.snd (List.inj_on_of_nodup_map catalogue_codes_nodup hx hy rfl)

/-- A request of the catalogue is taken with the level and class its row gives. -/
theorem exec_of_catalogue {i : Instr} {code : Byte} {r : Request} {required : Nat} {cls : ReqClass}
    (hrow : (code, required, cls) ∈ catalogue) (hr : requestCode i = some (code, r)) :
    ∃ body own, (∀ s, exec i s = takeRequest code required cls body r s) ∧ (cls = .read → own = [])
      ∧ ∀ l ws u, Answers (Within own cls u) (body l ws u) := by
  have hn : i ≠ .nop r := by
    rintro rfl
    cases hr
    exact nop_not_in_catalogue hrow
  obtain ⟨required', cls', body, own, hrow', hexec, _, hread, hbody⟩ := catalogued hr hn
  obtain ⟨rfl, rfl⟩ := Prod.mk.inj (catalogue_unique hrow hrow')
  exact ⟨body, own, hexec, hread, hbody⟩

section Admission

variable {required : Nat} {cls : ReqClass} {r : Request} {s : State}

theorem admission_level (h : required < r.level.toNat) : admission required cls r s = some .level := by
  simp [admission, h]

theorem admission_key (h : r.level.toNat ≤ required)
    (hk : (r.level.toNat = 0 ∧ r.keys.office = false)
      ∨ (r.level.toNat = 1 ∧ r.keys.office = false ∧ r.keys.supervisor = false)) :
    admission required cls r s = some .key := by
  rw [admission, if_neg (by omega), if_pos hk]

theorem served_iff : served s.mode.mode cls = false ↔ (cls = .setup ∧ s.mode.mode ≠ .setup)
    ∨ (cls = .operation ∧ s.mode.mode ≠ .operate ∧ s.mode.mode ≠ .waking)
    ∨ (cls = .general ∧ s.mode.mode = .standby) := by
  cases cls <;> simp [served]

theorem admission_mode (h : r.level.toNat ≤ required)
    (hk : ¬((r.level.toNat = 0 ∧ r.keys.office = false)
      ∨ (r.level.toNat = 1 ∧ r.keys.office = false ∧ r.keys.supervisor = false)))
    (hm : served s.mode.mode cls = false) : admission required cls r s = some .mode := by
  rw [admission, if_neg (by omega), if_neg hk, if_pos hm]

theorem admission_none (h : r.level.toNat ≤ required)
    (hk : ¬((r.level.toNat = 0 ∧ r.keys.office = false)
      ∨ (r.level.toNat = 1 ∧ r.keys.office = false ∧ r.keys.supervisor = false)))
    (hm : ¬served s.mode.mode cls = false) : admission required cls r s = none := by
  rw [admission, if_neg (by omega), if_neg hk, if_neg hm]

end Admission

theorem judgeFrame_status {f : RawFrame} {status : Status} (h : judgeFrame f = .error status) :
    status ≠ .ok ∧ status ≠ .pending := by
  unfold judgeFrame at h
  split at h
  · cases h
    simp
  · split_ifs at h <;> cases h <;> simp

/-- The Mode Controller after an entry into OPERATE: the window removed and the geometry mark clear (R5). -/
theorem State.enterOperate_mode (s : State) :
    s.enterOperate.mode = { s.mode with mode := .operate, window := none, geometryMark := false } := by
  unfold State.enterOperate
  simp only
  split
  · rw [(State.recompute_frame _).mode_eq (by simp [transitParts])]
    rfl
  next h =>
    have h : s.mode.geometryMark = false := by simpa using h
    rw [← h]
    rfl

theorem State.linkError_mode (status : Status) (s : State) : (s.linkError status).mode = s.mode :=
  (State.linkError_frame status s).mode_eq (by simp)

/-- The end of the wake window, read off a request's outcome (R7). -/
theorem RequestOutcome.endOfWindow {code : Byte} {cls : ReqClass} {r : Request} {own : List Part} {s t : State}
    {status : Status} {payload : List Word} (ho : RequestOutcome code cls r (Within own cls (s.heard code r)) s t)
    (hread : cls = .read → own = []) (hbuf : t.link.buffer = some ⟨status, payload⟩) (hw : s.mode.mode = .waking) :
    (status = .ok ∨ status = .pending → cls = .general ∨ cls = .operation →
      t.mode.mode = .operate ∧ t.mode.window = none ∧ t.mode.geometryMark = false)
    ∧ ((status ≠ .ok ∧ status ≠ .pending) ∨ cls = .read → t.mode = s.mode) := by
  cases ho with
  | linkError status' hframe ht =>
    subst ht
    cases hbuf
    refine ⟨fun hs => absurd hs (by simp [judgeFrame_status hframe]), fun _ => ?_⟩
    rw [State.linkError_mode]
    rfl
  | refused status' hok hpending ht =>
    subst ht
    cases hbuf
    exact ⟨fun hs => absurd hs (by simp [hok, hpending]), fun _ => rfl⟩
  | accepted status' payload' v hstatus hv ht =>
    subst ht
    cases hbuf
    refine ⟨fun _ hcls => ?_, fun h => ?_⟩
    · have hmode : v.mode.mode = .waking := (hv.2 (by rintro rfl; simp at hcls)).trans hw
      have hend : v.endWake cls = v.enterOperate :=
        if_pos ⟨hmode, by rintro rfl; simp at hcls, by rintro rfl; simp at hcls⟩
      show (v.endWake cls).mode.mode = _ ∧ (v.endWake cls).mode.window = _ ∧ (v.endWake cls).mode.geometryMark = _
      rw [hend, State.enterOperate_mode]
      exact ⟨rfl, rfl, rfl⟩
    · obtain ⟨hok, hpending⟩ | rfl := h
      · exact absurd hstatus (by simp [hok, hpending])
      · show (v.endWake .read).mode = s.mode
        rw [State.endWake, if_neg (by simp), hv.1.mode_eq (by simp [hread rfl])]
        rfl

/-- Settles O10: the order of the checks from `admission`, and the window's end from the outcomes of a request. -/
theorem admissionFollowsTheCatalogue : Obligations.AdmissionFollowsTheCatalogue := by
  refine ⟨fun i code r hr hn => ?_, fun i code r ws s required cls hrow hr hj => ?_,
    fun i code r required cls s t status payload hrow hr hx hbuf hw => ?_, fun cls status payload u => ?_⟩
  · obtain ⟨required, cls, _, _, hrow, _⟩ := catalogued hr hn
    exact ⟨required, cls, hrow⟩
  · obtain ⟨body, own, hexec, _, _⟩ := exec_of_catalogue hrow hr
    have barred : ∀ status, admission required cls r s = some status →
        exec i s = refusedWith status (s.heard code r) := fun status ha =>
      (hexec s).trans (takeRequest_barred body hj ha)
    exact ⟨fun h => barred _ (admission_level h), fun h hk => barred _ (admission_key h hk),
      fun h hk hb => barred _ (admission_mode h hk (served_iff.2 hb)),
      fun h hk hb => ⟨hj, admission_none h hk fun hs => hb (served_iff.1 hs)⟩⟩
  · obtain ⟨body, own, hexec, hread, hbody⟩ := exec_of_catalogue hrow hr
    exact (takeRequest_outcome (fun l ws => hbody l ws _) (hexec s ▸ hx)).endOfWindow hread hbuf hw
  · refine ⟨fun hw hcls => ?_, fun h => ?_, rfl⟩
    · have hend : u.endWake cls = u.enterOperate :=
        if_pos ⟨hw, by rintro rfl; simp at hcls, by rintro rfl; simp at hcls⟩
      rw [accepted, hend, State.enterOperate_eq]
      refine ⟨fun hg => by rw [if_pos hg]; rfl, fun hg => ?_⟩
      rw [if_neg (by simp [hg]), ← hg]
      rfl
    · have hend : u.endWake cls = u := if_neg fun he => by
        obtain h | h | h := h
        · exact h he.1
        · exact he.2.1 h
        · exact he.2.2 h
      rw [accepted, hend]
      rfl

end Sys2Proof.Machine
end

section
/-! PROOFS. The Mode Controller: what wakes the rig, and that its clock and its window stay in their ranges. -/

namespace Sys2Proof.Machine

/-! ### Wake events -/

theorem State.wake_mode (source : WakeSource) (s : State) :
    (s.wake source).mode = if s.mode.mode = .standby then
      { s.mode with mode := .waking, window := some ⟨s.mode.windowLen, source⟩ } else s.mode := by
  unfold State.wake
  split <;> rfl

theorem State.wake_mode_standby {s : State} (source : WakeSource) (h : s.mode.mode = .standby) :
    (s.wake source).mode = { s.mode with mode := .waking, window := some ⟨s.mode.windowLen, source⟩ } := by
  rw [State.wake_mode, if_pos h]

theorem State.wake_mode_other {s : State} (source : WakeSource) (h : s.mode.mode ≠ .standby) :
    (s.wake source).mode = s.mode := by
  rw [State.wake_mode, if_neg h]

/-- The wake test looks at the Mode Controller alone. -/
theorem State.wake_mode_congr {s u : State} (source : WakeSource) (h : u.mode = s.mode) :
    (u.wake source).mode = (s.wake source).mode := by
  rw [State.wake_mode, State.wake_mode, h]

/-- A command brings the wake event of a source (R6). -/
def Wakes (c : Instr) (s : State) (source : WakeSource) : Prop :=
  (∃ p, c = .strokePulse p ∧ source = .stroke p)
    ∨ (∃ m st, c = .request m ∧ Delivered 1 st m ∧ st ≠ .gauge ∧ source = .request st)
    ∨ ∃ m, c = .height m ∧ Delivered 13 .head m ∧ s.clampHeight m.value.toInt ≠ s.depth.lastHeight
        ∧ source = .height

theorem strokePulse_mode {p : Pump} {s t : State} (hx : execStrokePulse p s = .next t) :
    t.mode = (s.wake (.stroke p)).mode := by
  obtain rfl := Host.Outcome.next.inj hx
  rw [(State.strokeCirculation_frame p _).mode_eq (by simp)]
  refine State.wake_mode_congr _ ?_
  rw [(State.advanceParcels_frame _ _).mode_eq (by simp [transitParts])]
  rfl

theorem takeRequestReport_mode {m : Message} {st : Station} (s : State) (h : st ≠ .gauge) :
    (takeRequestReport m st s).mode = (s.wake (.request st)).mode := by
  rw [takeRequestReport, if_neg h]
  exact State.wake_mode_congr _ ((State.stationRequest_frame st s).mode_eq (by simp [centreParts]))

theorem takeHeightReport_mode (m : Message) (s : State) :
    (takeHeightReport m .head s).mode = (s.heightWakes m.value.toInt).mode := by
  rw [takeHeightReport, if_pos rfl]
  exact (State.takeHeight_frame _ _).mode_eq (by simp [heightParts])

theorem State.heightWakes_changed {reported : Int} {s : State} (h : s.clampHeight reported ≠ s.depth.lastHeight) :
    s.heightWakes reported = s.wake .height := if_pos h

theorem exec_delivered {kind : Byte} {receiver : Station → State → State} {m : Message} {st : Station} {s t : State}
    (hd : Delivered kind st m) (hx : deliver kind receiver m s = .next t) : t = receiver st s :=
  (Host.Outcome.next.inj ((deliver_good receiver s hd).symm.trans hx)).symm

/-- A wake event leaves the Mode Controller as the wake does. -/
theorem Wakes.mode_eq {c : Instr} {s t : State} {source : WakeSource} (h : Wakes c s source)
    (hx : exec c s = .next t) : t.mode = (s.wake source).mode := by
  obtain ⟨p, rfl, rfl⟩ | ⟨m, st, rfl, hd, hst, rfl⟩ | ⟨m, rfl, hd, hh, rfl⟩ := h
  · exact strokePulse_mode hx
  · rw [exec_delivered hd hx]
    exact takeRequestReport_mode s hst
  · rw [exec_delivered hd hx, takeHeightReport_mode, State.heightWakes_changed hh]

/-! ### Nothing else wakes -/

/-- The rig was WAKING before, if it is now. -/
def NoWake (s t : State) : Prop := t.mode.mode = .waking → s.mode.mode = .waking

theorem NoWake.of_mode_eq {s t : State} (h : t.mode = s.mode) : NoWake s t := fun ht => h ▸ ht

theorem NoWake.trans {s t u : State} (h : NoWake s t) (g : NoWake t u) : NoWake s u := fun hu => h (g hu)

theorem Frame.noWake {ps : List Part} {s t : State} (h : Frame ps s t) (hp : .mode ∉ ps) : NoWake s t :=
  .of_mode_eq (h.mode_eq hp)

theorem State.endWake_noWake (cls : ReqClass) (s : State) : NoWake s (s.endWake cls) := by
  unfold State.endWake
  split
  next h => exact fun _ => h.1
  · exact fun h => h

theorem RequestOutcome.noWake {code : Byte} {cls : ReqClass} {r : Request} {P : State → Prop} {s t : State}
    (ho : RequestOutcome code cls r P s t) (hP : ∀ v, P v → NoWake (s.heard code r) v) : NoWake s t := by
  cases ho with
  | linkError status _ ht =>
    rw [ht]
    exact .of_mode_eq (State.linkError_mode status _)
  | refused status _ _ ht =>
    rw [ht]
    exact .of_mode_eq rfl
  | accepted status payload v _ hv ht =>
    rw [ht]
    exact (show NoWake s (s.heard code r) from .of_mode_eq rfl).trans ((hP v hv).trans (State.endWake_noWake cls v))

theorem execSetMode_noWake {r : Request} {s t : State} (hx : execSetMode r s = .next t) : NoWake s t := by
  refine (takeRequest_outcome (fun _ _ => serveSetMode_answers) hx).noWake ?_
  rintro v (rfl | rfl | ⟨m, hm, rfl⟩)
  · exact fun h => h
  · intro h
    rw [State.enterOperate_mode] at h
    cases h
  · exact fun h => absurd h hm

theorem request_noWake {c : Instr} {code : Byte} {r : Request} {s t : State} (hr : requestCode c = some (code, r))
    (hn : c ≠ .nop r) (hx : exec c s = .next t) : NoWake s t := by
  obtain ⟨required, cls, own, hrow, _, _, ho⟩ := exec_request_outcome hr hn hx
  by_cases hcls : cls = .mode
  · have hcode : code = 2 := by
      subst hcls
      have : ∀ x ∈ catalogue, x.2.2 = .mode → x.1 = 2 := by decide
      exact this _ hrow rfl
    cases c <;> simp only [requestCode, Option.some.injEq, Prod.mk.injEq, reduceCtorEq] at hr
    case setMode => exact execSetMode_noWake hx
    all_goals obtain ⟨rfl, rfl⟩ := hr; exact absurd hcode (by decide)
  · exact ho.noWake fun v hv h => (hv.2 hcls) ▸ h

theorem State.windowExpiry_noWake (s : State) : NoWake s s.windowExpiry := by
  unfold State.windowExpiry
  split
  · exact fun h => h
  · exact fun h => by cases h

theorem State.windowMinute_noWake (s : State) : NoWake s s.windowMinute := by
  unfold State.windowMinute
  split
  · exact fun h => h
  next w _ =>
    split_ifs
    · exact fun h => h
    · exact State.windowExpiry_noWake s
    · exact fun h => h

theorem expiryReceiver_noWake {f : State → State} (hf : f ∈ expiryReceivers) (s : State) : NoWake s (f s) := by
  simp only [expiryReceivers, List.mem_cons, List.not_mem_nil, or_false] at hf
  obtain rfl | rfl | rfl | rfl | rfl := hf
  · exact (State.pumpSecond_frame s).noWake (by simp [pumpParts])
  · exact (State.balanceSecond_frame s).noWake (by simp [balanceParts])
  · exact (State.sheetMinute_frame s).noWake (by simp)
  · exact (State.mixMinute_frame s).noWake (by simp [tankParts])
  · exact State.windowMinute_noWake s

theorem minuteReceivers_subset : minuteReceivers ⊆ expiryReceivers := by simp [minuteReceivers, expiryReceivers]

theorem serve_noWake : ∀ {fs : List (State → State)}, (∀ f ∈ fs, f ∈ expiryReceivers) → ∀ s,
    NoWake s (fs.foldl (fun s f => f s) s)
  | [], _, _ => fun h => h
  | f :: _, h, s =>
    (expiryReceiver_noWake (h f (by simp)) s).trans
      (serve_noWake (fun g hg => h g (List.mem_cons_of_mem _ hg)) (f s))

theorem execSecondExpiry_noWake {s t : State} (hx : execSecondExpiry s = .next t) : NoWake s t := by
  obtain rfl := Host.Outcome.next.inj hx
  split
  · exact NoWake.trans (t := s.setMode { s.mode with second := s.mode.second + 1 }) (fun h => h)
      (((State.pumpSecond_frame _).noWake (by simp [pumpParts])).trans
        ((State.balanceSecond_frame _).noWake (by simp [balanceParts])))
  · exact NoWake.trans (t := { s with mode := _, draws := _ }) (fun h => h)
      (serve_noWake (fun _ => mem_of_mem_permuteBy) _)

theorem execMinuteExpiry_noWake {s t : State} (hx : execMinuteExpiry s = .next t) : NoWake s t := by
  obtain rfl := Host.Outcome.next.inj hx
  exact NoWake.trans (t := { s with mode := _, draws := _ }) (fun h => h)
    (serve_noWake (fun _ hf => minuteReceivers_subset (mem_of_mem_permuteBy hf)) _)

/-- A message wakes only through its receiver. -/
theorem deliver_noWake {kind : Byte} {receiver : Station → State → State} {m : Message} {s t : State}
    (hx : deliver kind receiver m s = .next t) :
    NoWake s t ∨ ∃ st, Delivered kind st m ∧ t = receiver st s := by
  unfold deliver at hx
  split at hx
  next st hj hst => exact .inr ⟨st, ⟨hj, hst⟩, (Host.Outcome.next.inj hx).symm⟩
  all_goals
    obtain rfl := Host.Outcome.next.inj hx
    exact .inl fun h => h

theorem State.wake_noWake {s : State} (source : WakeSource) (h : s.mode.mode ≠ .standby) :
    NoWake s (s.wake source) := .of_mode_eq (State.wake_mode_other source h)

/-- A command that is no wake event, or finds the rig out of STANDBY, does not bring WAKING. -/
theorem exec_noWake {c : Instr} {s t : State} (hx : exec c s = .next t)
    (h : s.mode.mode = .standby → ∀ source, ¬Wakes c s source) : NoWake s t := by
  have woken : ∀ {source u}, Wakes c s source → u.mode = (s.wake source).mode → NoWake s u := fun {source u} hw hu =>
    (State.wake_noWake source fun hst => h hst source hw).trans (.of_mode_eq hu)
  obtain ⟨code, r, hr, hn⟩ | hno := request_or_none c
  · exact request_noWake hr hn hx
  · cases c
    case strokePulse p => exact woken (.inl ⟨p, rfl, rfl⟩) (strokePulse_mode hx)
    case request m =>
      obtain hk | ⟨st, hd, rfl⟩ := deliver_noWake hx
      · exact hk
      · by_cases hst : st = .gauge
        · rw [takeRequestReport, if_pos hst]
          exact fun h => h
        · exact woken (.inr (.inl ⟨m, st, rfl, hd, hst, rfl⟩)) (takeRequestReport_mode s hst)
    case height m =>
      obtain hk | ⟨st, hd, rfl⟩ := deliver_noWake hx
      · exact hk
      · by_cases hst : st = .head
        · subst hst
          by_cases hh : s.clampHeight m.value.toInt ≠ s.depth.lastHeight
          · exact woken (.inr (.inr ⟨m, rfl, hd, hh, rfl⟩))
              (by rw [takeHeightReport_mode, State.heightWakes_changed hh])
          · exact .of_mode_eq (by rw [takeHeightReport_mode, State.heightWakes, if_neg hh])
        · rw [takeHeightReport, if_neg hst]
          exact fun h => h
    case powerUp =>
      obtain rfl := Host.Outcome.next.inj hx
      exact fun h => by cases h
    case secondExpiry => exact execSecondExpiry_noWake hx
    case minuteExpiry => exact execMinuteExpiry_noWake hx
    case wakeWindowExpiry =>
      obtain rfl := Host.Outcome.next.inj hx
      exact State.windowExpiry_noWake s
    case setMode | setWakeWindow | setClock | initialise | setBha | setHoleSection | clearHoleSection | setRodType
        | declareStringLost => exact absurd (hno _ _ rfl) (by simp)
    all_goals
      exact (exec_frame_of_no_request hx hno).noWake (by simp [touched, reportParts, requestParts])

/-- Settles O18: the Mode Controller after a wake event, and that no other command brings WAKING. -/
theorem onlyWakeEventsWake : Obligations.OnlyWakeEventsWake := by
  intro c s t hx wakes
  refine ⟨fun hs ht => ?_, fun source hs hw => ?_, fun source hs hw => ?_⟩
  · by_contra hno
    refine hs (exec_noWake hx (fun hst source hw => hno ⟨hst, source, hw⟩) ht)
  · rw [Wakes.mode_eq hw hx, State.wake_mode_standby source hs]
  · rw [Wakes.mode_eq hw hx, State.wake_mode_other source hs]

/-! ### Clock and window -/

/-- The Mode Controller's records lie in their ranges, the window open exactly in WAKING (R1, R10). -/
def ModeCtl.Ok (m : ModeCtl) : Prop :=
  (m.second ≤ 59 ∧ m.minute ≤ max32) ∧ 1 ≤ m.windowLen ∧ m.windowLen ≤ 60
    ∧ (m.window.isSome = true ↔ m.mode = .waking) ∧ m.window.all (fun w => within 1 60 w.count) = true

theorem modeOk_iff {s : State} : s.mode.Ok ↔ s.ClockOk ∧ s.WindowOk := Iff.rfl

section ModeOk

variable {m : ModeCtl} {s t : State}

/-- A mode other than WAKING, with the window removed. -/
theorem ModeCtl.Ok.entered (h : m.Ok) {mode : RigMode} (hm : mode ≠ .waking) (mark : Bool) :
    ({ m with mode := mode, window := none, geometryMark := mark } : ModeCtl).Ok := by
  obtain ⟨hclock, hlow, hhigh, _, _⟩ := h
  exact ⟨hclock, hlow, hhigh, by simp [hm], rfl⟩

theorem ModeCtl.Ok.mark (h : m.Ok) (mark : Bool) : ({ m with geometryMark := mark } : ModeCtl).Ok := h

theorem ModeCtl.Ok.woken (h : m.Ok) (source : WakeSource) :
    ({ m with mode := .waking, window := some ⟨m.windowLen, source⟩ } : ModeCtl).Ok := by
  obtain ⟨hclock, hlow, hhigh, _, _⟩ := h
  exact ⟨hclock, hlow, hhigh, by simp, by simp [within, hlow, hhigh]⟩

theorem ModeCtl.Ok.clock (h : m.Ok) {minute second : Nat} (hm : minute ≤ max32) (hs : second ≤ 59) :
    ({ m with minute := minute, second := second } : ModeCtl).Ok := by
  obtain ⟨_, hlow, hhigh, hwindow, hcount⟩ := h
  exact ⟨⟨hs, hm⟩, hlow, hhigh, hwindow, hcount⟩

theorem ModeCtl.Ok.length (h : m.Ok) {n : Nat} (h1 : 1 ≤ n) (h2 : n ≤ 60) :
    ({ m with windowLen := n } : ModeCtl).Ok := by
  obtain ⟨hclock, _, _, hwindow, hcount⟩ := h
  exact ⟨hclock, h1, h2, hwindow, hcount⟩

theorem wrap32_le (n : Nat) : wrap32 n ≤ max32 := by
  unfold wrap32 max32
  omega

theorem ModeCtl.Ok.nextMinute (h : m.Ok) : m.nextMinute.Ok := h.clock (wrap32_le _) h.1.1

theorem State.enterOperate_modeOk (h : s.mode.Ok) : s.enterOperate.mode.Ok := by
  rw [State.enterOperate_mode]
  exact h.entered (by simp) false

theorem State.wake_modeOk (source : WakeSource) (h : s.mode.Ok) : (s.wake source).mode.Ok := by
  rw [State.wake_mode]
  split
  · exact h.woken source
  · exact h

theorem State.markGeometry_modeOk (edited : Bool) (h : s.mode.Ok) : (s.markGeometry edited).mode.Ok := by
  unfold State.markGeometry
  split
  · exact h.mark true
  · exact h

theorem State.windowExpiry_modeOk (h : s.mode.Ok) : s.windowExpiry.mode.Ok := by
  unfold State.windowExpiry
  split
  · exact h
  · exact h.entered (by simp) s.mode.geometryMark

theorem State.windowMinute_modeOk (h : s.mode.Ok) : s.windowMinute.mode.Ok := by
  unfold State.windowMinute
  split
  · exact h
  next w hw =>
    split_ifs with hmode hcount
    · exact h
    · exact State.windowExpiry_modeOk h
    · obtain ⟨hclock, hlow, hhigh, hwindow, hall⟩ := h
      refine ⟨hclock, hlow, hhigh, ?_, ?_⟩
      · exact iff_of_true rfl (not_not.1 hmode)
      · simp only [hw, Option.all_some, within_iff] at hall
        simp only [State.setMode, Option.all_some, within_iff]
        omega

/-- The invariant of the Mode Controller speaks of it alone. -/
theorem settled_modeOk : Settled [.mode] fun s => s.mode.Ok :=
  ⟨fun s t h hs => by rw [show t.mode = s.mode from h .mode (by simp)]; exact hs, by simp⟩

/-- A change that leaves the Mode Controller keeps its invariant. -/
theorem Frame.modeOk {ps : List Part} (hf : Frame ps s t) (hp : .mode ∉ ps) (h : s.mode.Ok) : t.mode.Ok :=
  hf.mode_eq hp ▸ h

theorem expiryReceiver_modeOk {f : State → State} (hf : f ∈ expiryReceivers) (h : s.mode.Ok) : (f s).mode.Ok := by
  simp only [expiryReceivers, List.mem_cons, List.not_mem_nil, or_false] at hf
  obtain rfl | rfl | rfl | rfl | rfl := hf
  · exact (State.pumpSecond_frame s).modeOk (by simp [pumpParts]) h
  · exact (State.balanceSecond_frame s).modeOk (by simp [balanceParts]) h
  · exact (State.sheetMinute_frame s).modeOk (by simp) h
  · exact (State.mixMinute_frame s).modeOk (by simp [tankParts]) h
  · exact State.windowMinute_modeOk h

/-- What every receiver of a minute's turn keeps, their service in any order keeps. -/
theorem serve_keeps {P : State → Prop} (hP : ∀ f ∈ expiryReceivers, ∀ s, P s → P (f s)) :
    ∀ {fs : List (State → State)}, (∀ f ∈ fs, f ∈ expiryReceivers) → ∀ s, P s → P (fs.foldl (fun s f => f s) s)
  | [], _, _, hs => hs
  | f :: _, h, s, hs =>
    serve_keeps hP (fun g hg => h g (List.mem_cons_of_mem _ hg)) (f s) (hP f (h f (by simp)) s hs)

theorem execSecondExpiry_modeOk (hx : execSecondExpiry s = .next t) (h : s.mode.Ok) : t.mode.Ok := by
  obtain rfl := Host.Outcome.next.inj hx
  split
  next hlt =>
    refine (State.balanceSecond_frame _).modeOk (by simp [balanceParts])
      ((State.pumpSecond_frame _).modeOk (by simp [pumpParts]) ?_)
    exact h.clock (second := s.mode.second + 1) h.1.2 (by omega)
  · exact serve_keeps (P := fun s => s.mode.Ok) (fun f hf u hu => expiryReceiver_modeOk hf hu)
      (fun _ => mem_of_mem_permuteBy) _ (h.nextMinute.clock (second := 0) h.nextMinute.1.2 (by omega))

theorem execMinuteExpiry_modeOk (hx : execMinuteExpiry s = .next t) (h : s.mode.Ok) : t.mode.Ok := by
  obtain rfl := Host.Outcome.next.inj hx
  exact serve_keeps (P := fun s => s.mode.Ok) (fun f hf u hu => expiryReceiver_modeOk hf hu)
    (fun _ hf => minuteReceivers_subset (mem_of_mem_permuteBy hf)) _ h.nextMinute

/-- The requests that touch the Mode Controller keep its invariant. -/
theorem request_modeOk {code : Byte} {required : Nat} {cls : ReqClass} {body : Nat → List Word → State → Reply}
    {r : Request} (hx : takeRequest code required cls body r s = .next t)
    (hbody : ∀ l ws u, u.mode.Ok → Answers (fun v => v.mode.Ok) (body l ws u)) (h : s.mode.Ok) : t.mode.Ok :=
  settled_modeOk.of_request (fun _ => State.enterOperate_modeOk) hbody hx h

theorem State.loseString_modeOk (a : Fin 4) (j : Job) (h : s.mode.Ok) : (s.loseString a j).mode.Ok := by
  rw [State.loseString_eq]
  refine (State.loseString_end_frame a _).modeOk (by simp) ?_
  have hlost := (State.rodsLost_frame a s).modeOk (by simp) h
  unfold State.loseBha
  split
  · exact State.markGeometry_modeOk true (((State.modifyJob_frame a _ _).mono (by simp) |>.trans
      (State.addUnsettled_frame a _ _ _)).modeOk (by simp) hlost)
  · exact hlost

theorem exec_modeOk {c : Instr} (hx : exec c s = .next t) (h : s.mode.Ok) : t.mode.Ok := by
  cases c
  case setMode r =>
    refine request_modeOk hx (fun l ws u hu => serveSetMode_answers.mono ?_) h
    rintro v (rfl | rfl | ⟨m, hm, rfl⟩)
    · exact hu
    · exact State.enterOperate_modeOk hu
    · exact hu.entered hm u.mode.geometryMark
  case setWakeWindow r =>
    refine request_modeOk hx (fun l ws u hu => serveSetWakeWindow_answers.mono ?_) h
    rintro v ⟨n, h1, h2, rfl⟩
    exact hu.length h1 h2
  case setClock r =>
    refine request_modeOk hx (fun l ws u hu => serveSetClock_answers.mono ?_) h
    rintro v ⟨n, hn, rfl⟩
    exact hu.clock hn (by omega)
  case initialise r =>
    refine request_modeOk hx (fun l ws u hu => serveInitialise_answers.mono ?_) h
    rintro v ⟨_, rfl⟩
    exact (hu.length (n := 10) (by omega) (by omega)).mark false
  case setBha r =>
    refine request_modeOk hx (fun l ws u hu => serveSetBha_answers.mono ?_) h
    rintro v ⟨_, _, _, _, _, _, _, _, rfl⟩
    exact State.markGeometry_modeOk _ hu
  case setHoleSection r =>
    refine request_modeOk hx (fun l ws u hu => serveSetHoleSection_answers.mono ?_) h
    rintro v ⟨_, _, _, _, _, rfl⟩
    exact State.markGeometry_modeOk _ hu
  case clearHoleSection r =>
    refine request_modeOk hx (fun l ws u hu => serveClearHoleSection_answers.mono ?_) h
    rintro v ⟨_, _, _, _, _, rfl⟩
    exact State.markGeometry_modeOk _ hu
  case setRodType r =>
    refine request_modeOk hx (fun l ws u hu => serveSetRodType_answers.mono ?_) h
    rintro v ⟨k, type, rfl⟩
    exact State.markGeometry_modeOk _ ((State.regradeType_frame k _).modeOk (by simp [rosterParts]) hu)
  case declareStringLost r =>
    refine request_modeOk hx (fun l ws u hu => serveDeclareStringLost_answers.mono ?_) h
    rintro v ⟨a, j, _, _, _, rfl⟩
    exact State.loseString_modeOk a j hu
  case request m =>
    refine settled_modeOk.of_deliver (fun st _ => ?_) hx h
    by_cases hst : st = .gauge
    · rw [takeRequestReport, if_pos hst]
      exact h
    · rw [takeRequestReport_mode s hst]
      exact State.wake_modeOk _ h
  case height m =>
    refine settled_modeOk.of_deliver (fun st _ => ?_) hx h
    by_cases hst : st = .head
    · subst hst
      rw [takeHeightReport_mode]
      unfold State.heightWakes
      split
      · exact State.wake_modeOk _ h
      · exact h
    · rw [takeHeightReport, if_neg hst]
      exact h
  case strokePulse p =>
    rw [strokePulse_mode hx]
    exact State.wake_modeOk _ h
  case powerUp =>
    obtain rfl := Host.Outcome.next.inj hx
    exact (h.entered (mode := .standby) (by simp) s.mode.geometryMark).clock (second := 0) h.1.2 (by omega)
  case secondExpiry => exact execSecondExpiry_modeOk hx h
  case minuteExpiry => exact execMinuteExpiry_modeOk hx h
  case wakeWindowExpiry =>
    obtain rfl := Host.Outcome.next.inj hx
    exact State.windowExpiry_modeOk h
  all_goals
    exact settled_modeOk.of_untouched (fun _ => State.enterOperate_modeOk)
      (by simp [touched, reportParts, requestParts]) hx h

end ModeOk

/-- Settles O19: every command keeps the Mode Controller's records sound. -/
theorem modeControllerInvariant : Obligations.ModeControllerInvariant := by
  intro s t hclock hwindow hx
  exact modeOk_iff.1 (settled_modeOk.of_step (fun c u v hx hu => exec_modeOk hx hu) hx ⟨hclock, hwindow⟩)

end Sys2Proof.Machine
end

section
/-! PROOFS. The Tank and Balance Unit's operations: what the balance leaves of the tanks, and how an invariant is kept by
the suction test, the swap and the standby state. -/

namespace Sys2Proof.Machine

/-! ### The balance -/

/-- What a change of loss class, a reading or a flow report leaves: the tanks, the roles, the suction condition, the
balance period and the store as they were; the remainder under a litre; and no elapsed seconds without a reference. -/
structure Balanced (s t : State) : Prop where
  frame : Frame balanceParts s t
  tanks : t.tanks = { s.tanks with
    reference := t.tanks.reference, additions := t.tanks.additions, elapsed := t.tanks.elapsed
    fill := t.tanks.fill, remainder := t.tanks.remainder, lossClass := t.tanks.lossClass
    flowAccepted := t.tanks.flowAccepted, flowLast := t.tanks.flowLast }
  remainder : s.tanks.remainder ≤ 999 → t.tanks.remainder ≤ 999
  elapsed : (s.tanks.reference = none → s.tanks.elapsed = 0) → t.tanks.reference = none → t.tanks.elapsed = 0

section Balance

variable {s t u : State}

theorem Balanced.refl (s : State) : Balanced s s := ⟨Frame.rfl' _ s, rfl, id, id⟩

theorem Balanced.trans (h : Balanced s t) (g : Balanced t u) : Balanced s u :=
  ⟨h.frame.trans g.frame, by rw [g.tanks, h.tanks], fun hr => g.remainder (h.remainder hr),
    fun he => g.elapsed (h.elapsed he)⟩

/-- A change of the jobs, the Transit List and the attention set alone. -/
theorem Frame.balanced {ps : List Part} (h : Frame ps s t) (hs : ps ⊆ [.attn, .transit, .jobs] := by simp) :
    Balanced s t := by
  have ht : t.tanks = s.tanks := h.kept .tanks fun hm => by simpa using hs hm
  exact ⟨h.mono (List.Subset.trans hs (by simp [balanceParts])), by rw [ht], fun hr => ht ▸ hr, fun he => ht ▸ he⟩

theorem Balanced.setLossClass (s : State) (c : LossClass) :
    Balanced s (s.setTanks { s.tanks with lossClass := c }) :=
  ⟨State.setTanks_frame .., rfl, id, id⟩

theorem State.markBit_balanced (f : Interval → Interval) (s : State) : Balanced s (s.markBit f) := by
  have h : Frame [.jobs] s (s.markBit f) := by
    unfold State.markBit
    split
    · exact Frame.rfl' _ s
    · exact State.modifyJob_frame ..
  exact h.balanced

theorem State.changeLoss_balanced (c : LossClass) (y : Nat) (s : State) : Balanced s (s.changeLoss c y) := by
  unfold State.changeLoss
  split
  · exact .refl s
  · extract_lets old _ raised wiped
    have hraised : Balanced s raised := (Balanced.setLossClass s c).trans (State.raise_frame ..).balanced
    have hwiped : Balanced s wiped := by
      simp only [wiped]
      split
      · exact hraised.trans ((State.wipe_frame _).balanced (by simp [transitParts]))
      · exact hraised
    split
    · exact hwiped
    · exact hwiped.trans (State.markBit_balanced ..)

theorem State.classifyReading_balanced (loss : Int) (s : State) : Balanced s (s.classifyReading loss) := by
  unfold State.classifyReading
  split
  · exact .refl s
  · exact State.changeLoss_balanced ..

theorem State.billLoss_balanced (loss : Int) (s : State) : Balanced s (s.billLoss loss) := by
  unfold State.billLoss
  split
  · exact .refl s
  · extract_lets total _ kept
    have hkept : Balanced s kept := by
      refine ⟨State.setTanks_frame .., rfl, fun _ => ?_, id⟩
      show total % 1000 ≤ 999
      omega
    split
    · exact hkept
    · exact hkept.trans ((State.addUnsettled_frame ..).balanced)

theorem State.reading_balanced (measured : Nat) (s : State) : Balanced s (s.reading measured) := by
  unfold State.reading
  split
  · exact .refl s
  next reference _ =>
    extract_lets expected loss _ emptied billed
    have hemptied : Balanced s emptied := ⟨State.setTanks_frame .., rfl, id, id⟩
    have hbilled : Balanced s billed :=
      (hemptied.trans (State.classifyReading_balanced ..)).trans (State.billLoss_balanced ..)
    exact hbilled.trans ⟨State.setTanks_frame .., rfl, id, fun _ h => by cases h⟩

theorem State.balanceSecond_balanced (s : State) : Balanced s s.balanceSecond := by
  unfold State.balanceSecond
  split
  · exact .refl s
  next href =>
    extract_lets _ counted
    have hcounted : Balanced s counted :=
      ⟨State.setTanks_frame .., rfl, id, fun _ (h : s.tanks.reference = none) => absurd (by simp [h]) href⟩
    split
    · exact hcounted.trans (State.reading_balanced ..)
    · exact hcounted

theorem State.takeFlow_balanced (v : Flow) (s : State) : Balanced s (s.takeFlow v) := by
  have hfiltered : Balanced s (s.setTanks (s.tanks.filter v)) := ⟨State.setTanks_frame .., rfl, id, id⟩
  unfold State.takeFlow
  split
  · simp only
    split
    · exact hfiltered.trans (State.changeLoss_balanced ..)
    · exact hfiltered
  · simp only
    split
    · exact hfiltered.trans (State.changeLoss_balanced ..)
    · exact hfiltered

theorem execBalanceExpiry_balanced (hx : execBalanceExpiry s = .next t) : Balanced s t := by
  unfold execBalanceExpiry at hx
  split at hx <;> obtain rfl := Host.Outcome.next.inj hx
  · exact .refl s
  next href =>
    refine Balanced.trans (t := s.setTanks s.tanks.elapse) ?_ (State.reading_balanced ..)
    exact ⟨State.setTanks_frame .., rfl, id, fun _ (h : s.tanks.reference = none) => absurd (by simp [h]) href⟩

theorem Balanced.condition (h : Balanced s t) : t.tanks.condition = s.tanks.condition := by rw [h.tanks]

theorem Balanced.standby (h : Balanced s t) : t.tanks.standby = s.tanks.standby := by rw [h.tanks]

theorem Balanced.mixCount (h : Balanced s t) : t.tanks.mixCount = s.tanks.mixCount := by rw [h.tanks]

theorem Balanced.additives (h : Balanced s t) : t.tanks.additives = s.tanks.additives := by rw [h.tanks]

end Balance

/-! ### Suction, standby state and swaps -/

/-- A predicate kept by the parts that the suction test, the swap and the standby state are made of. -/
structure SuctionKept (P : State → Prop) : Prop where
  reading : ∀ s measured, P s → P (s.reading measured)
  exchange : ∀ s, P s → P (s.setTanks s.tanks.exchange)
  reworked : ∀ s, P s → P (s.setTanks s.tanks.reworked)
  decide : ∀ s, P s → P s.decideSuction
  raise : ∀ s k d, P s → P (s.raise k d)

section SuctionKept

variable {P : State → Prop} {s : State}

theorem SuctionKept.swap (h : SuctionKept P) (cause : SwapCause) (hs : P s) : P (s.swap cause) :=
  h.raise _ _ _ (h.decide _ (h.exchange _ (h.reading _ _ hs)))

theorem SuctionKept.suctionTest (h : SuctionKept P) (hs : P s) : P s.suctionTest := by
  unfold State.suctionTest
  simp only
  split
  · exact h.swap _ hs
  · exact h.decide _ hs

/-- The standby state worked out keeps the predicate when the unit worked out meets it. -/
theorem SuctionKept.reworkStandby_of (h : SuctionKept P) (hs : P (s.setTanks s.tanks.reworked)) :
    P s.reworkStandby := by
  unfold State.reworkStandby
  simp only
  split
  · exact h.suctionTest hs
  · exact hs

theorem SuctionKept.reworkStandby (h : SuctionKept P) (hs : P s) : P s.reworkStandby :=
  h.reworkStandby_of (h.reworked _ hs)

/-- A predicate that a mix hold started, stopped or counted keeps too. -/
structure MixKept (P : State → Prop) : Prop extends SuctionKept P where
  remix : ∀ s n, P s → P (s.setTanks ({ s.tanks with mixCount := n } : TankUnit).reworked)
  count : ∀ s n m, s.tanks.mixCount = some n → P s → P (s.setTanks { s.tanks with mixCount := some m })

theorem MixKept.standbyAddition (h : MixKept P) (hs : P s) : P s.standbyAddition :=
  h.reworkStandby_of (show P (s.setTanks _) from h.remix s _ hs)

theorem MixKept.mixExpiry (h : MixKept P) (hs : P s) : P s.mixExpiry :=
  h.reworkStandby_of (show P (s.setTanks _) from h.remix s none hs)

theorem MixKept.mixMinute (h : MixKept P) (hs : P s) : P s.mixMinute := by
  unfold State.mixMinute
  split
  · exact hs
  next n hn =>
    split
    · exact h.mixExpiry hs
    · exact h.count _ n _ hn hs

theorem MixKept.execMixHoldExpiry (h : MixKept P) {t : State} (hx : execMixHoldExpiry s = .next t) (hs : P s) :
    P t := by
  obtain rfl := Host.Outcome.next.inj hx
  split
  · exact hs
  · exact h.mixExpiry hs

/-- A predicate that the balance started anew and water run in keep too. -/
structure WaterKept (P : State → Prop) : Prop extends MixKept P where
  additions : ∀ s n, P s → P (s.setTanks { s.tanks with additions := n })
  started : ∀ s v fill, P s →
    P (s.setTanks { s.tanks with reference := some v, additions := 0, elapsed := 0, fill := fill })

theorem WaterKept.addWater (h : WaterKept P) (k : TankId) (litres : Nat) (hs : P s) : P (s.addWater k litres) := by
  unfold State.addWater
  split_ifs
  · exact h.standbyAddition hs
  · exact h.additions _ _ hs
  · exact hs

theorem WaterKept.configured (h : WaterKept P) (k : TankId) (hs : P s) (hr : P (s.setTanks s.tanks.reworked)) :
    P (s.configured k) := by
  unfold State.configured
  refine h.suctionTest ?_
  split_ifs
  · exact h.reworkStandby_of hr
  · exact h.started _ _ 0 hs
  · exact hs

/-- The level of a LEVEL report of a tank, clamped to its depth (R94). -/
def State.clampedLevel (k : TankId) (reported : Int) (s : State) : Nat := min reported.toNat (s.tanks.tank k).depth

/-- The state in which a LEVEL report has been clamped, with SENSOR_RANGE where the clamp moved it, and written (R94). -/
def State.levelled (k : TankId) (reported : Int) (s : State) : State :=
  let u := if (s.clampedLevel k reported : Int) = reported then s
    else s.raise .sensorRange (.sensor .gauge (some k) reported)
  u.setTanks (u.tanks.setTank k { u.tanks.tank k with level := s.clampedLevel k reported, fresh := true })

theorem State.takeLevel_eq (k : TankId) (reported : Int) (s : State) :
    s.takeLevel k reported =
      (if k ≠ (s.levelled k reported).tanks.active then (s.levelled k reported).reworkStandby
      else if (s.levelled k reported).tanks.reference.isNone then
        (s.levelled k reported).setTanks { (s.levelled k reported).tanks with
          reference := some (s.levelled k reported).tanks.activeTank.volume, additions := 0, elapsed := 0 }
      else s.levelled k reported).suctionTest := rfl

theorem State.levelled_tanks (k : TankId) (reported : Int) (s : State) : (s.levelled k reported).tanks
    = s.tanks.setTank k { s.tanks.tank k with level := s.clampedLevel k reported, fresh := true } := by
  unfold State.levelled
  simp only
  split <;> rfl

theorem State.levelled_frame (k : TankId) (reported : Int) (s : State) :
    Frame [.tanks, .attn] s (s.levelled k reported) := by
  unfold State.levelled
  refine Frame.trans ?_ ((frame_tanks _ _).mono (by simp))
  split
  · exact Frame.rfl' _ s
  · exact (State.raise_frame ..).mono (by simp)

theorem WaterKept.takeLevel (h : WaterKept P) (k : TankId) (reported : Int) (hs : P (s.levelled k reported))
    (hr : P ((s.levelled k reported).setTanks (s.levelled k reported).tanks.reworked)) :
    P (s.takeLevel k reported) := by
  rw [State.takeLevel_eq]
  refine h.suctionTest ?_
  split_ifs
  · exact h.reworkStandby_of hr
  · exact h.started _ _ (s.levelled k reported).tanks.fill hs
  · exact hs

end SuctionKept

end Sys2Proof.Machine
end

section
/-! PROOFS. The well centre: the arbiter and the engine stay in step, and the centre passes to WRENCH only while
circulation is STOPPED and the head is FREE. -/

namespace Sys2Proof.Machine

/-! ### The request set -/

section Set

variable {a : Arbiter} {st other : Station} {b : Bool}

@[simp] theorem Arbiter.put_holder : (a.put st b).holder = a.holder := by cases st <;> rfl

theorem Arbiter.has_put_other (h : st ≠ other) : (a.put st b).has other = a.has other := by
  cases st <;> cases other <;> first | rfl | exact absurd rfl h

theorem Arbiter.has_put_false : (a.put st false).has st = false := by cases st <;> rfl

/-- A station that leaves the set leaves the others as they are. -/
theorem Arbiter.has_put_false_eq (h : a.has other = false) : (a.put st false).has other = false := by
  by_cases hst : st = other
  · rw [hst, Arbiter.has_put_false]
  · rw [Arbiter.has_put_other hst, h]

/-- A station that joins the set leaves its members in it. -/
theorem Arbiter.has_put_true (h : a.has other = true) : (a.put st true).has other = true := by
  by_cases hst : st = other
  · subst hst
    cases st <;> first | rfl | cases h
  · rw [Arbiter.has_put_other hst, h]

end Set

theorem OpStep.awaits_or_holds (p : OpStep) : p.awaits = none ∨ p.holds = none := by cases p <;> simp [OpStep.awaits, OpStep.holds]

theorem OpStep.holds_ne_head (p : OpStep) : p.holds ≠ some .head := by cases p <;> simp [OpStep.holds]

/-- The station a step waits for joins the set when it asks. -/
theorem OpStep.has_put_awaited {p : OpStep} {st : Station} (h : p.awaits = some st) (a : Arbiter) :
    (a.put st true).has st = true := by
  cases p <;> simp only [OpStep.awaits, Option.some.injEq, reduceCtorEq] at h <;> subst h <;> rfl

/-! ### In step -/

/-- The operation stands at a step of its kind, the station it waits for is in the set, and the station that works at it
holds the centre (spec/04, 4.2). -/
structure Operation.Fits (o : Operation) (a : Arbiter) : Prop where
  step : o.step ∈ o.kind.steps
  awaited : ∀ st, o.step.awaits = some st → a.has st = true
  holding : ∀ st, o.step.holds = some st → a.holder = st

/-- The operation stands at a step of its kind that no station works at, and the station it waits for is in the set. -/
structure Operation.Waits (o : Operation) (a : Arbiter) : Prop where
  step : o.step ∈ o.kind.steps
  awaited : ∀ st, o.step.awaits = some st → a.has st = true
  unheld : o.step.holds = none

/-- The holder is not GAUGE and not in the set. -/
def Arbiter.Sound (a : Arbiter) : Prop := a.holder ≠ .gauge ∧ a.has a.holder = false

/-- The arbiter and the engine are in step (R52, R53, spec/04, 4.2). -/
structure InStep (s : State) : Prop where
  centre : s.arbiter.Sound
  op : ∀ o, s.engine.op = some o → o.Fits s.arbiter

/-- The arbiter is sound, and no station holds the centre for the operation in flight. -/
structure Unheld (s : State) : Prop where
  centre : s.arbiter.Sound
  op : ∀ o, s.engine.op = some o → o.Waits s.arbiter

theorem engineOk_iff {s : State} : s.EngineOk ↔ ∀ o, s.engine.op = some o → o.Fits s.arbiter := by
  simp only [State.EngineOk, Option.all_eq_true, Bool.and_eq_true, List.contains_eq_mem, decide_eq_true_eq, beq_iff_eq]
  exact forall₂_congr fun o _ => ⟨fun h => ⟨h.1.1, h.1.2, h.2⟩, fun h => ⟨⟨h.step, h.awaited⟩, h.holding⟩⟩

theorem inStep_iff {s : State} : InStep s ↔ s.CentreOk ∧ s.EngineOk :=
  ⟨fun h => ⟨h.centre, engineOk_iff.2 h.op⟩, fun h => ⟨h.1, engineOk_iff.1 h.2⟩⟩

section InStep

variable {s t : State} {st : Station} {o : Operation}

theorem Unheld.inStep (h : Unheld s) : InStep s :=
  ⟨h.centre, fun o ho => by
    obtain ⟨hstep, hawaited, hunheld⟩ := h.op o ho
    exact ⟨hstep, hawaited, fun st hst => by simp [hunheld] at hst⟩⟩

/-- When the holder works for no operation, none is held. -/
theorem InStep.unheld (h : InStep s) (hno : ∀ o, s.engine.op = some o → o.step.holds ≠ some s.arbiter.holder) :
    Unheld s := by
  refine ⟨h.centre, fun o ho => ?_⟩
  obtain ⟨hstep, hawaited, hholding⟩ := h.op o ho
  refine ⟨hstep, hawaited, ?_⟩
  by_contra hne
  obtain ⟨st, hst⟩ := Option.ne_none_iff_exists'.1 hne
  exact hno o ho (by rw [hst, hholding st hst])

theorem unheld_of_idle (hc : s.arbiter.Sound) (h : s.engine.op = none) : Unheld s :=
  ⟨hc, fun o ho => by simp [h] at ho⟩

/-! ### Grants -/

/-- A step entered that its holder works at, or that waits for a station in the set. -/
theorem setStep_inStep {p : OpStep} (hc : s.arbiter.Sound) (hp : p ∈ o.kind.steps)
    (hawaited : ∀ st, p.awaits = some st → s.arbiter.has st = true)
    (hholding : ∀ st, p.holds = some st → s.arbiter.holder = st) : InStep (s.setStep p o) := by
  refine ⟨hc, fun o' ho' => ?_⟩
  obtain rfl := Option.some.inj ho'
  exact ⟨hp, hawaited, hholding⟩

/-- The step that follows a grant is one that the granted station works at. -/
theorem onGrant_awaited (hc : s.arbiter.Sound) (hholder : s.arbiter.holder = st) (ho : s.engine.op = some o)
    (hstep : o.step ∈ o.kind.steps) (hst : o.step.awaits = some st) : InStep (s.onGrant st) := by
  have held : ∀ p, p.holds = some st → p.awaits = none → p ∈ o.kind.steps → ∀ x, InStep (s.setStep p { o with tagReg := x }) :=
    fun p hp ha hk x => setStep_inStep hc hk (fun w hw => by simp [ha] at hw)
      fun w hw => by rw [hholder]; exact Option.some.inj (hp.symm.trans hw)
  obtain ⟨kind, step, rod, expected, source, dest, tagReg⟩ := o
  simp only [State.onGrant, ho, hst, ne_eq, not_true_eq_false, if_false]
  cases kind <;> cases step <;> simp only [OpKind.steps, OpStep.awaits, List.mem_cons, reduceCtorEq, List.not_mem_nil,
    or_false, or_self, Option.some.injEq] at hstep hst <;> subst hst
  case makeUp.awaitLoader =>
    split
    · exact held .awaitTag rfl rfl (by simp [OpKind.steps]) none
    · exact held .awaitPresent rfl rfl (by simp [OpKind.steps]) tagReg
    all_goals simp_all
  case breakOut.awaitWrench => exact held .awaitBreak rfl rfl (by simp [OpKind.steps]) tagReg
  case breakOut.awaitLoader => exact held .awaitTag rfl rfl (by simp [OpKind.steps]) none
  case stow.awaitLoader => exact held .awaitTag rfl rfl (by simp [OpKind.steps]) none
  case runBha.awaitTongs => exact held .awaitSet rfl rfl (by simp [OpKind.steps]) tagReg
  case pullBha.awaitTongs => exact held .awaitClear rfl rfl (by simp [OpKind.steps]) tagReg

/-- A grant that the operation does not wait for leaves the engine. -/
theorem onGrant_unawaited (h : ∀ o, s.engine.op = some o → o.step.awaits ≠ some st) : s.onGrant st = s := by
  unfold State.onGrant
  split
  · rfl
  next o ho => rw [if_pos (h o ho)]

/-- The centre passed to a station, which leaves the set (R54). -/
def State.passTo (st : Station) (s : State) : State :=
  { s with arbiter := { s.arbiter.put st false with holder := st } }

theorem State.grant_eq (st : Station) (s : State) : s.grant st = (s.passTo st).onGrant st := rfl

/-- A grant while no station works for the operation keeps arbiter and engine in step. -/
theorem grant_inStep (h : Unheld s) (hst : st ≠ .gauge) : InStep (s.grant st) := by
  have hc : (s.passTo st).arbiter.Sound := ⟨hst, Arbiter.has_put_false (a := s.arbiter)⟩
  rw [State.grant_eq]
  by_cases haw : ∃ o, s.engine.op = some o ∧ o.step.awaits = some st
  · obtain ⟨o, ho, haw⟩ := haw
    exact onGrant_awaited hc rfl ho (h.op o ho).step haw
  · have hno : ∀ o, s.engine.op = some o → o.step.awaits ≠ some st := fun o ho hw => haw ⟨o, ho, hw⟩
    rw [onGrant_unawaited (s := s.passTo st) hno]
    refine ⟨hc, fun o ho => ?_⟩
    obtain ⟨hstep, hawaited, hunheld⟩ := h.op o ho
    refine ⟨hstep, fun w hw => ?_, fun w hw => by simp [hunheld] at hw⟩
    have hne : st ≠ w := by
      rintro rfl
      exact hno o ho hw
    exact (Arbiter.has_put_other (b := false) hne).trans (hawaited w hw)

theorem nextStation_ne_gauge (h : s.nextStation = some st) : st ≠ .gauge := by
  unfold State.nextStation at h
  split_ifs at h <;> cases h <;> simp

theorem grantTest_inStep (h : InStep s) : InStep s.grantTest := by
  unfold State.grantTest
  split
  next hhead =>
    split
    next st hst =>
      refine grant_inStep (h.unheld fun o ho => ?_) (nextStation_ne_gauge hst)
      rw [hhead.1]
      exact o.step.holds_ne_head
    · exact h
  · exact h

theorem endHolding_inStep (h : Unheld s) : InStep s.endHolding := by
  have hback : InStep { s with arbiter := { s.arbiter with holder := .head } } :=
    (Unheld.inStep (s := { s with arbiter := { s.arbiter with holder := .head } })
      ⟨⟨by simp, rfl⟩, fun o ho => by
        obtain ⟨hstep, hawaited, hunheld⟩ := h.op o ho
        exact ⟨hstep, hawaited, hunheld⟩⟩)
  unfold State.endHolding
  simp only
  split
  · exact hback
  · split
    next st hst => exact grant_inStep h (nextStation_ne_gauge hst)
    · exact hback

theorem Arbiter.Sound.join {a : Arbiter} (h : a.Sound) (hst : st ≠ a.holder) : (a.put st true).Sound := by
  refine ⟨by simpa using h.1, ?_⟩
  rw [Arbiter.put_holder, Arbiter.has_put_other hst, h.2]

theorem Operation.Fits.join {a : Arbiter} (h : o.Fits a) : o.Fits (a.put st true) :=
  ⟨h.step, fun w hw => Arbiter.has_put_true (h.awaited w hw), fun w hw => by
    rw [Arbiter.put_holder]
    exact h.holding w hw⟩

theorem joinSet_inStep (h : InStep s) (hst : st ≠ s.arbiter.holder) : InStep (s.joinSet st) := by
  unfold State.joinSet
  split
  · exact h
  · exact grantTest_inStep ⟨h.centre.join hst, fun o ho => (h.op o ho).join⟩

/-- The engine's request of the station its step waits for brings arbiter and engine in step. -/
theorem engineRequest_inStep (hc : s.arbiter.Sound) (ho : s.engine.op = some o) (hstep : o.step ∈ o.kind.steps)
    (hst : o.step.awaits = some st) : InStep (s.engineRequest st) := by
  have hunheld : o.step.holds = none := by
    obtain h | h := o.step.awaits_or_holds
    · simp [h] at hst
    · exact h
  have fits : ∀ a : Arbiter, a.has st = true → o.Fits a := fun a ha =>
    ⟨hstep, fun w hw => by rw [← Option.some.inj (hst.symm.trans hw), ha], fun w hw => by simp [hunheld] at hw⟩
  unfold State.engineRequest
  split
  next hholder => exact onGrant_awaited hc hholder ho hstep hst
  next hholder =>
    unfold State.joinSet
    split
    next hhas => exact ⟨hc, fun o' ho' => Option.some.inj (ho.symm.trans ho') ▸ fits _ hhas⟩
    · refine grantTest_inStep ⟨hc.join (Ne.symm hholder), fun o' ho' => ?_⟩
      exact Option.some.inj (ho.symm.trans ho') ▸ fits _ (OpStep.has_put_awaited hst _)

theorem engineRelease_inStep (h : Unheld s) : InStep (s.engineRelease st) := by
  unfold State.engineRelease
  split
  · exact endHolding_inStep h
  · exact h.inStep

theorem stationRequest_inStep (h : InStep s) : InStep (s.stationRequest st) := by
  unfold State.stationRequest
  split
  · exact h
  next hno => exact joinSet_inStep h fun he => hno (.inr he.symm)

/-! ### The ends of an operation -/

theorem endOp_unheld (hc : s.arbiter.Sound) (o : Operation) (x : OpOutcome) (w : Option Station) (v : Nat) :
    Unheld (s.endOp o x w v) := unheld_of_idle hc rfl

theorem Arbiter.Sound.leave {a : Arbiter} (h : a.Sound) : (a.put st false).Sound := by
  refine ⟨by simpa using h.1, ?_⟩
  rw [Arbiter.put_holder]
  exact Arbiter.has_put_false_eq h.2

theorem withdraw_inStep (hc : s.arbiter.Sound) (ho : s.engine.op = none) (o : Operation) : InStep (s.withdraw o) := by
  have released : ∀ u : State, u.arbiter.Sound → u.engine.op = none →
      InStep (match o.step.holds with | some st => u.engineRelease st | none => u) := by
    intro u hu hidle
    split
    · exact engineRelease_inStep (unheld_of_idle hu hidle)
    · exact (unheld_of_idle hu hidle).inStep
  unfold State.withdraw
  refine released _ ?_ ?_
  · split
    · exact hc.leave
    · exact hc
  · split <;> exact ho

theorem abandon_inStep (hc : s.arbiter.Sound) (o : Operation) (x : OpOutcome) (w : Option Station) (v : Nat) :
    InStep (s.abandon o x w v) := withdraw_inStep (s := s.endOp o x w v) hc rfl o

theorem stationRelease_inStep (h : InStep s) : InStep (s.stationRelease st) := by
  unfold State.stationRelease
  split
  · exact h
  · split
    next hholder =>
      split
      next o ho =>
        split
        · exact endHolding_inStep (endOp_unheld h.centre o .faulted (some st) 0)
        next hno =>
          refine endHolding_inStep (h.unheld fun o' ho' => ?_)
          rw [← Option.some.inj (ho.symm.trans ho'), hholder]
          exact hno
      next ho => exact endHolding_inStep (unheld_of_idle h.centre ho)
    · split
      · simp only
        split
        next o ho =>
          split
          · exact (endOp_unheld (s := { s with arbiter := s.arbiter.put st false }) h.centre.leave o .faulted
              (some st) 0).inStep
          next hno =>
            refine ⟨h.centre.leave, fun o' ho' => ?_⟩
            obtain rfl := Option.some.inj (ho.symm.trans ho')
            obtain ⟨hstep, hawaited, hholding⟩ := h.op o ho
            refine ⟨hstep, fun w hw => ?_, fun w hw => (Arbiter.put_holder).trans (hholding w hw)⟩
            have hne : st ≠ w := by
              rintro rfl
              exact hno hw
            exact (Arbiter.has_put_other hne).trans (hawaited w hw)
        next ho =>
          exact (unheld_of_idle (s := { s with arbiter := s.arbiter.put st false }) h.centre.leave ho).inStep
      · exact h

/-! ### The invariant, command by command -/

theorem settled_inStep : Settled [.arbiter, .engine] InStep := by
  refine ⟨fun s t h hs => ?_, by simp⟩
  have ha : t.arbiter = s.arbiter := h .arbiter (by simp)
  have he : t.engine = s.engine := h .engine (by simp)
  exact ⟨ha ▸ hs.centre, fun o ho => ha ▸ hs.op o (he ▸ ho)⟩

/-- A change that leaves arbiter and engine keeps them in step. -/
theorem Frame.inStep {ps : List Part} (hf : Frame ps s t) (ha : .arbiter ∉ ps) (he : .engine ∉ ps) (h : InStep s) :
    InStep t :=
  settled_inStep.depends.frame hf (by simp [ha, he]) h

/-- The same operation at another step that the same station works at. -/
theorem InStep.advance {p : OpStep} (h : InStep s) (ho : s.engine.op = some o) (hp : p ∈ o.kind.steps)
    (ha : p.awaits = none) (hh : p.holds = o.step.holds) (x : Option Nat) : InStep (s.setStep p { o with tagReg := x }) :=
  setStep_inStep h.centre hp (fun st hst => by simp [ha] at hst) fun st hst => (h.op o ho).holding st (hh ▸ hst)

theorem takePresented_inStep (h : InStep s) (ho : s.engine.op = some o) (hstep : o.step = .awaitPresent) :
    InStep (takePresented o s) := by
  have hk := (h.op o ho).step
  rw [hstep] at hk
  refine h.advance ho (p := .awaitTag) ?_ rfl (by rw [hstep]; rfl) none
  cases hkind : o.kind <;> simp_all [OpKind.steps]

theorem State.tagMatched_rod_frame (o : Operation) (s : State) :
    Frame rosterParts s (match o.source, o.rod with
      | some .centre, _ => s
      | _, some i => s.placeRod i .centre
      | _, none => s) := by
  split
  · exact Frame.rfl' _ s
  · exact State.placeRod_frame ..
  · exact Frame.rfl' _ s

theorem tagMatched_inStep (h : InStep s) (ho : s.engine.op = some o) (hstep : o.step = .awaitTag) (x : Option Nat) :
    InStep (s.tagMatched { o with tagReg := x }) := by
  unfold State.tagMatched
  split
  next hk =>
    refine engineRelease_inStep ?_
    have hframe := State.tagMatched_rod_frame { o with tagReg := x } s
    have hc := (hframe.inStep (by simp [rosterParts]) (by simp [rosterParts]) h).centre
    refine ⟨hc, fun o' ho' => ?_⟩
    obtain rfl := Option.some.inj ho'
    have hk : o.kind = .makeUp := hk
    refine ⟨?_, fun st hst => (by cases hst), rfl⟩
    show OpStep.awaitTorque ∈ o.kind.steps
    simp [hk, OpKind.steps]
  next hk =>
    have hk : o.kind = .breakOut := hk
    exact h.advance ho (by simp [hk, OpKind.steps]) rfl (by rw [hstep]; rfl) x
  next hk =>
    have hk : o.kind = .stow := hk
    exact h.advance ho (by simp [hk, OpKind.steps]) rfl (by rw [hstep]; rfl) x
  · exact h
  · exact h

theorem takeTag_inStep (v : BitVec 32) (h : InStep s) (ho : s.engine.op = some o) (hstep : o.step = .awaitTag) :
    InStep (takeTag v o s) := by
  have waiting : ∀ x, InStep (s.setStep .awaitTag { o with tagReg := x }) := fun x =>
    h.advance ho (hstep ▸ (h.op o ho).step) rfl (by rw [hstep]) x
  unfold takeTag
  split_ifs
  · exact waiting none
  · exact waiting (some v.toNat)
  · exact tagMatched_inStep h ho hstep none
  · refine engineRelease_inStep (endOp_unheld ?_ ..)
    have hdoubt := (State.doubtRod_frame { o with tagReg := none } s).inStep (by simp [rosterParts])
      (by simp [rosterParts]) h
    exact hdoubt.centre

theorem takeStowed_inStep (h : InStep s) : InStep (takeStowed o s) :=
  engineRelease_inStep (endOp_unheld
    ((State.rackOpRod_frame o s).inStep (by simp [rosterParts]) (by simp [rosterParts]) h).centre ..)

theorem takeTorqueMade_inStep (m : Message) (h : InStep s) : InStep (takeTorqueMade m st s) := by
  unfold takeTorqueMade
  split
  · exact settled_inStep.notFitting m 6 h
  next o _ =>
    split
    · exact (endOp_unheld ((State.joinOpRod_frame o s).inStep (by simp [rosterParts]) (by simp [rosterParts])
        h).centre ..).inStep
    · exact settled_inStep.notFitting m 6 h

/-- A request of the engine's while another than HEAD holds the centre leaves the holder and the operation, the station
in the set. -/
theorem engineRequest_busy (hst : s.arbiter.holder ≠ st) (hhead : s.arbiter.holder ≠ .head) :
    (s.engineRequest st).arbiter = s.arbiter ∧ s.arbiter.has st = true ∧ (s.engineRequest st).engine = s.engine
      ∨ (s.engineRequest st).arbiter = s.arbiter.put st true ∧ (s.engineRequest st).engine = s.engine := by
  unfold State.engineRequest
  rw [if_neg hst]
  unfold State.joinSet
  split
  next hhas => exact .inl ⟨rfl, hhas, rfl⟩
  · refine .inr ?_
    have hno : ({ s with arbiter := s.arbiter.put st true } : State).grantTest
        = { s with arbiter := s.arbiter.put st true } := if_neg fun hg => hhead (Arbiter.put_holder.symm.trans hg.1)
    rw [hno]
    exact ⟨rfl, rfl⟩

theorem takeJointBroken_inStep (h : InStep s) (ho : s.engine.op = some o) (hstep : o.step = .awaitBreak) :
    InStep (takeJointBroken o s) := by
  have hfits := h.op o ho
  have hkind : o.kind = .breakOut := by
    have hk := hfits.step
    rw [hstep] at hk
    cases hkind : o.kind <;> simp_all [OpKind.steps]
  have hframe := State.unjoinOpRod_frame o s
  have harbiter : (s.unjoinOpRod o).arbiter = s.arbiter := hframe.kept .arbiter (by simp [rosterParts])
  have hholder : s.arbiter.holder = .wrench := hfits.holding .wrench (by rw [hstep]; rfl)
  refine engineRelease_inStep ?_
  have waits : ∀ a : Arbiter, a.has .loader = true → ({ o with step := .awaitLoader } : Operation).Waits a :=
    fun a ha => ⟨by simp [hkind, OpKind.steps], fun w hw => by rw [← Option.some.inj hw]; exact ha, rfl⟩
  have hbusy := engineRequest_busy (s := (s.unjoinOpRod o).setStep .awaitLoader o) (st := .loader)
    (by rw [State.setStep_arbiter, harbiter, hholder]; simp) (by rw [State.setStep_arbiter, harbiter, hholder]; simp)
  rw [State.setStep_arbiter, harbiter] at hbusy
  obtain ⟨ha, hhas, he⟩ | ⟨ha, he⟩ := hbusy
  · refine ⟨ha ▸ h.centre, fun o' ho' => ?_⟩
    rw [he] at ho'
    exact Option.some.inj ho' ▸ waits _ (ha ▸ hhas)
  · refine ⟨ha ▸ h.centre.join (by simp [hholder]), fun o' ho' => ?_⟩
    rw [he] at ho'
    exact Option.some.inj ho' ▸ waits _ (ha ▸ rfl)

theorem bhaDone_inStep (place : BhaPlace) (len : Nat → Nat → Nat) (h : InStep s) :
    InStep (((s.moveBha place len).endOp o .done none 0).engineRelease .tongs) :=
  engineRelease_inStep (endOp_unheld ((State.moveBha_frame place len s).inStep (by simp) (by simp) h).centre ..)

theorem takeFault_inStep (m : Message) (h : InStep s) : InStep (takeFault m st s) := by
  unfold takeFault
  split
  · exact settled_inStep.notFitting m 10 h
  · split
    · exact abandon_inStep h.centre ..
    · exact settled_inStep.notFitting m 10 h

theorem takeFreeReport_inStep (m : Message) (h : InStep s) : InStep (takeFreeReport m st s) := by
  unfold takeFreeReport
  split
  · unfold State.takeFree
    split
    · have hfree : InStep (s.setDepth { s.depth with coupled := false, held := none }).grantTest :=
        grantTest_inStep ((frame_depth s _).inStep (by simp) (by simp) h)
      unfold State.headFreed
      simp only
      split
      · exact hfree
      · exact (State.closeForming_frame ..).inStep (by simp [transitParts]) (by simp [transitParts]) hfree
    · exact h
  · exact settled_inStep.raise _ _ h

theorem stillExpiry_inStep (h : InStep s) : InStep s.stillExpiry := by
  unfold State.stillExpiry
  split
  · exact grantTest_inStep (settled_inStep.raise _ _ ((frame_pumps s _).inStep (by simp) (by simp) h))
  · exact (frame_pumps s _).inStep (by simp) (by simp) h

theorem stillTick_inStep (h : InStep s) : InStep s.stillTick := by
  unfold State.stillTick
  split
  · exact h
  · split
    · exact stillExpiry_inStep h
    · exact (frame_pumps s _).inStep (by simp) (by simp) h

theorem pumpSecond_inStep (h : InStep s) : InStep s.pumpSecond := by
  have hticked : InStep (s.setPumps { s.pumps with p1 := s.pumps.p1.tick, p2 := s.pumps.p2.tick }) :=
    (frame_pumps s _).inStep (by simp) (by simp) h
  unfold State.pumpSecond
  simp only
  split
  · exact (frame_pumps _ _).inStep (by simp) (by simp) hticked
  · exact stillTick_inStep hticked

theorem sheetMinute_inStep (h : InStep s) : InStep s.sheetMinute := by
  have ha : s.sheetMinute.arbiter = s.arbiter := (State.sheetMinute_frame s).kept .arbiter (by simp)
  exact ⟨ha ▸ h.centre, fun o ho => ha ▸ h.op o ((State.sheetMinute_op s) ▸ ho)⟩

theorem expiryReceiver_inStep {f : State → State} (hf : f ∈ expiryReceivers) (s : State) (h : InStep s) :
    InStep (f s) := by
  simp only [expiryReceivers, List.mem_cons, List.not_mem_nil, or_false] at hf
  obtain rfl | rfl | rfl | rfl | rfl := hf
  · exact pumpSecond_inStep h
  · exact (State.balanceSecond_frame s).inStep (by simp [balanceParts]) (by simp [balanceParts]) h
  · exact sheetMinute_inStep h
  · exact (State.mixMinute_frame s).inStep (by simp [tankParts]) (by simp [tankParts]) h
  · exact (State.windowMinute_frame s).inStep (by simp) (by simp) h

theorem execSecondExpiry_inStep (hx : execSecondExpiry s = .next t) (h : InStep s) : InStep t := by
  obtain rfl := Host.Outcome.next.inj hx
  split
  · exact (State.balanceSecond_frame _).inStep (by simp [balanceParts]) (by simp [balanceParts])
      (pumpSecond_inStep ((frame_mode s _).inStep (by simp) (by simp) h))
  · exact serve_keeps (P := InStep) (fun f hf u hu => expiryReceiver_inStep hf u hu)
      (fun _ => mem_of_mem_permuteBy) _ ((frame_mode_draws s _ _).inStep (by simp) (by simp) h)

theorem execMinuteExpiry_inStep (hx : execMinuteExpiry s = .next t) (h : InStep s) : InStep t := by
  obtain rfl := Host.Outcome.next.inj hx
  exact serve_keeps (P := InStep) (fun f hf u hu => expiryReceiver_inStep hf u hu)
    (fun _ hf => minuteReceivers_subset (mem_of_mem_permuteBy hf)) _
    ((frame_mode_draws s _ _).inStep (by simp) (by simp) h)

/-- An operation taken up with the request of its first station. -/
theorem beginOp_inStep (h : InStep s) (hstep : o.step ∈ o.kind.steps) (hst : o.step.awaits = some st) :
    InStep ((s.takeUp o).engineRequest st) :=
  engineRequest_inStep (s := s.takeUp o) h.centre rfl hstep hst

theorem arbiter_idle_sound : Arbiter.idle.Sound := ⟨by simp [Arbiter.idle], rfl⟩

theorem enterOperate_inStep (h : InStep s) : InStep s.enterOperate :=
  (State.enterOperate_frame s).inStep (by simp [operateParts]) (by simp [operateParts]) h

theorem request_inStep {code : Byte} {required : Nat} {cls : ReqClass} {body : Nat → List Word → State → Reply}
    {r : Request} (hx : takeRequest code required cls body r s = .next t)
    (hbody : ∀ l ws u, InStep u → Answers InStep (body l ws u)) (h : InStep s) : InStep t :=
  settled_inStep.of_request (fun _ => enterOperate_inStep) hbody hx h

theorem exec_inStep {c : Instr} (hx : exec c s = .next t) (h : InStep s) : InStep t := by
  cases c
  case initialise r =>
    refine request_inStep hx (fun l ws u hu => serveInitialise_answers.mono ?_) h
    rintro v ⟨_, rfl⟩
    exact (unheld_of_idle arbiter_idle_sound rfl).inStep
  case makeUp r =>
    refine request_inStep hx (fun l ws u hu => serveMakeUp_answers.mono ?_) h
    rintro v ⟨a, j, i, rod, src, _, ⟨_, rfl⟩ | rfl⟩
    · exact setStep_inStep (s := u.takeUp (makeUpOp i rod src)) (p := .awaitTorque) (o := makeUpOp i rod src) hu.centre
        (by simp [makeUpOp, OpKind.steps]) (fun st hst => by cases hst) (fun st hst => by cases hst)
    · exact beginOp_inStep hu (by simp [makeUpOp, OpKind.steps]) rfl
  case breakOut r =>
    refine request_inStep hx (fun l ws u hu => serveBreakOut_answers.mono ?_) h
    rintro v ⟨a, j, i, rod, dest, _, _, _, _, _, _, _, rfl⟩
    exact beginOp_inStep hu (by simp [stowingOp, OpKind.steps]) rfl
  case stow r =>
    refine request_inStep hx (fun l ws u hu => serveStow_answers.mono ?_) h
    rintro v ⟨a, j, i, rod, dest, _, _, _, _, _, rfl⟩
    exact beginOp_inStep hu (by simp [stowingOp, OpKind.steps]) rfl
  case runBha r =>
    refine request_inStep hx (fun l ws u hu => serveRunBha_answers.mono ?_) h
    rintro v ⟨a, j, _, _, _, rfl⟩
    exact beginOp_inStep hu (by simp [bhaOp, OpKind.steps]) rfl
  case pullBha r =>
    refine request_inStep hx (fun l ws u hu => servePullBha_answers.mono ?_) h
    rintro v ⟨a, j, _, _, _, _, rfl⟩
    exact beginOp_inStep hu (by simp [bhaOp, OpKind.steps]) rfl
  case abortOp r =>
    refine request_inStep hx (fun l ws u hu => serveAbortOp_answers.mono ?_) h
    rintro v ⟨o, _, rfl⟩
    exact abandon_inStep hu.centre ..
  case request m =>
    refine settled_inStep.of_deliver (fun st _ => ?_) hx h
    unfold takeRequestReport
    split
    · exact settled_inStep.raise _ _ h
    · exact (State.wake_frame _ _).inStep (by simp) (by simp) (stationRequest_inStep h)
  case release m =>
    refine settled_inStep.of_deliver (fun st _ => ?_) hx h
    unfold takeReleaseReport
    split
    · exact settled_inStep.raise _ _ h
    · exact stationRelease_inStep h
  case presented m =>
    exact settled_inStep.of_deliver (fun st _ => settled_inStep.of_atStep (fun o => takePresented_inStep h) h) hx h
  case tag m =>
    exact settled_inStep.of_deliver (fun st _ => settled_inStep.of_atStep (fun o => takeTag_inStep m.value h) h) hx h
  case stowed m =>
    exact settled_inStep.of_deliver
      (fun st _ => settled_inStep.of_atStep (fun o _ _ => takeStowed_inStep h) h) hx h
  case torqueMade m => exact settled_inStep.of_deliver (fun st _ => takeTorqueMade_inStep m h) hx h
  case jointBroken m =>
    exact settled_inStep.of_deliver (fun st _ => settled_inStep.of_atStep (fun o => takeJointBroken_inStep h) h) hx h
  case bhaSet m =>
    exact settled_inStep.of_deliver
      (fun st _ => settled_inStep.of_atStep (fun o _ _ => (bhaDone_inStep _ _ h : InStep (takeBhaSet o s))) h) hx h
  case bhaClear m =>
    exact settled_inStep.of_deliver
      (fun st _ => settled_inStep.of_atStep (fun o _ _ => (bhaDone_inStep _ _ h : InStep (takeBhaClear o s))) h) hx h
  case fault m => exact settled_inStep.of_deliver (fun st _ => takeFault_inStep m h) hx h
  case free m => exact settled_inStep.of_deliver (fun st _ => takeFreeReport_inStep m h) hx h
  case powerUp =>
    obtain rfl := Host.Outcome.next.inj hx
    exact (unheld_of_idle arbiter_idle_sound rfl).inStep
  case secondExpiry => exact execSecondExpiry_inStep hx h
  case minuteExpiry => exact execMinuteExpiry_inStep hx h
  case stillExpiry =>
    obtain rfl := Host.Outcome.next.inj hx
    split
    · exact h
    · exact stillExpiry_inStep h
  all_goals
    exact settled_inStep.of_untouched (fun _ => enterOperate_inStep)
      (by simp [touched, reportParts, requestParts]) hx h

end InStep

/-! ### The passing of the centre to WRENCH -/

/-- The arbiter's operations leave circulation and the head, and the centre passes to WRENCH only while circulation is
STOPPED and the head FREE. -/
structure Passes (s t : State) : Prop where
  circ : t.pumps.circ = s.pumps.circ
  head : t.depth.coupled = s.depth.coupled
  wrench : t.arbiter.holder = .wrench →
    s.arbiter.holder = .wrench ∨ (s.pumps.circ = .stopped ∧ s.depth.coupled = false)

section Passes

variable {s t u : State} {st : Station}

theorem Passes.trans (h : Passes s t) (g : Passes t u) : Passes s u := by
  refine ⟨g.circ.trans h.circ, g.head.trans h.head, fun hw => ?_⟩
  obtain hw | ⟨hc, hd⟩ := g.wrench hw
  · exact h.wrench hw
  · exact .inr ⟨h.circ ▸ hc, h.head ▸ hd⟩

/-- A change that leaves the arbiter, the pumps and the Depth Tracker. -/
theorem Frame.passes {ps : List Part} (hf : Frame ps s t)
    (hps : ∀ p ∈ [Part.arbiter, .pumps, .depth], p ∉ ps := by simp) : Passes s t := by
  have ha : t.arbiter = s.arbiter := hf.kept .arbiter (hps _ (by simp))
  have hp : t.pumps = s.pumps := hf.kept .pumps (hps _ (by simp))
  have hd : t.depth = s.depth := hf.kept .depth (hps _ (by simp))
  exact ⟨by rw [hp], by rw [hd], fun hw => .inl (ha ▸ hw)⟩

theorem Passes.refl (s : State) : Passes s s := (Frame.rfl' [] s).passes

theorem onGrant_passes (s : State) : Passes s (s.onGrant st) := by
  refine Frame.passes (ps := [.engine]) ⟨fun p hp => ?_⟩
  have hf := State.onGrant_frame st s
  by_cases ha : p = .arbiter
  · subst ha
    show (s.onGrant st).arbiter = s.arbiter
    unfold State.onGrant
    split
    · rfl
    · split
      · rfl
      · split <;> first | rfl | (split <;> rfl)
  · exact hf.kept p (by simp_all [centreParts])

/-- Another station than WRENCH takes the centre, or HEAD does. -/
theorem passes_holder {a : Arbiter} (h : a.holder ≠ .wrench) : Passes s { s with arbiter := a } :=
  ⟨rfl, rfl, fun hw => absurd hw h⟩

theorem nextStation_wrench (h : s.nextStation = some .wrench) : s.pumps.circ = .stopped := by
  unfold State.nextStation at h
  split_ifs at h with hw
  · exact hw.2
  all_goals cases h

/-- The grant of an eligible station, the head FREE. -/
theorem grant_passes (hst : s.nextStation = some st) (hfree : s.depth.coupled = false) : Passes s (s.grant st) := by
  refine Passes.trans (t := s.passTo st) ?_ (onGrant_passes _)
  refine ⟨rfl, rfl, fun hw => .inr ⟨?_, hfree⟩⟩
  have hw : st = .wrench := hw
  exact nextStation_wrench (hw ▸ hst)

theorem grantTest_passes (s : State) : Passes s s.grantTest := by
  unfold State.grantTest
  split
  next h =>
    split
    next st hst => exact grant_passes hst h.2
    · exact .refl s
  · exact .refl s

theorem endHolding_passes (s : State) : Passes s s.endHolding := by
  have back : Passes s { s with arbiter := { s.arbiter with holder := .head } } := passes_holder (by simp)
  unfold State.endHolding
  simp only
  split
  · exact back
  next h =>
    split
    next st hst => exact grant_passes hst (by simpa using h)
    · exact back

/-- A change of the request set leaves the holder. -/
theorem put_passes (b : Bool) : Passes s { s with arbiter := s.arbiter.put st b } :=
  ⟨rfl, rfl, fun hw => .inl (Arbiter.put_holder.symm.trans hw)⟩

theorem joinSet_passes (s : State) : Passes s (s.joinSet st) := by
  unfold State.joinSet
  split
  · exact .refl s
  · exact (put_passes true).trans (grantTest_passes _)

theorem engineRequest_passes (s : State) : Passes s (s.engineRequest st) := by
  unfold State.engineRequest
  split
  · exact onGrant_passes s
  · exact joinSet_passes s

theorem engineRelease_passes (s : State) : Passes s (s.engineRelease st) := by
  unfold State.engineRelease
  split
  · exact endHolding_passes s
  · exact .refl s

theorem stationRequest_passes (s : State) : Passes s (s.stationRequest st) := by
  unfold State.stationRequest
  split
  · exact .refl s
  · exact joinSet_passes s

theorem endOp_passes (o : Operation) (x : OpOutcome) (w : Option Station) (v : Nat) (s : State) :
    Passes s (s.endOp o x w v) := (State.endOp_frame o x w v s).passes

theorem withdraw_passes (o : Operation) (s : State) : Passes s (s.withdraw o) := by
  have released : ∀ u : State, Passes u (match o.step.holds with | some st => u.engineRelease st | none => u) := by
    intro u
    split
    · exact engineRelease_passes u
    · exact .refl u
  unfold State.withdraw
  refine Passes.trans ?_ (released _)
  split
  · exact put_passes false
  · exact .refl s

theorem abandon_passes (o : Operation) (x : OpOutcome) (w : Option Station) (v : Nat) (s : State) :
    Passes s (s.abandon o x w v) := (endOp_passes o x w v s).trans (withdraw_passes o _)

theorem stationRelease_passes (s : State) : Passes s (s.stationRelease st) := by
  unfold State.stationRelease
  split
  · exact .refl s
  · split
    · split
      · split
        · exact (endOp_passes ..).trans (endHolding_passes _)
        · exact endHolding_passes s
      · exact endHolding_passes s
    · split
      · simp only
        split
        · split
          · exact (put_passes false).trans (endOp_passes ..)
          · exact put_passes false
        · exact put_passes false
      · exact .refl s

theorem deliver_passes {kind : Byte} {receiver : Station → State → State} {m : Message}
    (hx : deliver kind receiver m s = .next t) (hr : ∀ st, Passes s (receiver st s)) : Passes s t := by
  unfold deliver at hx
  split at hx
  · obtain rfl := Host.Outcome.next.inj hx
    exact hr _
  all_goals
    obtain rfl := Host.Outcome.next.inj hx
    exact (State.raise_frame ..).passes

theorem atStep_passes {step : OpStep} {want : Station} {kind : Nat} {k : Operation → State → State} {m : Message}
    (hk : ∀ o, Passes s (k o s)) : Passes s (atStep step want kind k m st s) := by
  unfold atStep
  split
  · exact (State.notFitting_frame m kind s).passes
  · split
    · exact hk _
    · exact (State.notFitting_frame m kind s).passes

theorem takeTag_passes (v : BitVec 32) (o : Operation) (s : State) : Passes s (takeTag v o s) := by
  have stepped : ∀ (p : OpStep) (o : Operation) (u : State), Passes u (u.setStep p o) := fun p o u =>
    (frame_engine u _).passes
  unfold takeTag
  split_ifs
  · exact stepped ..
  · exact stepped ..
  · unfold State.tagMatched
    split
    · exact ((State.tagMatched_rod_frame _ s).passes (by simp [rosterParts])).trans
        ((stepped ..).trans (engineRelease_passes _))
    · exact stepped ..
    · exact stepped ..
    · exact .refl s
    · exact .refl s
  · exact (((State.doubtRod_frame _ s).passes (by simp [rosterParts])).trans (State.raise_frame ..).passes).trans
      ((endOp_passes ..).trans (engineRelease_passes _))

/-- The commands that touch the arbiter, but neither circulation nor the head. -/
theorem report_passes {c : Instr} (hx : exec c s = .next t)
    (hc : (∃ m, c = .request m) ∨ (∃ m, c = .release m) ∨ (∃ m, c = .tag m) ∨ (∃ m, c = .stowed m)
      ∨ (∃ m, c = .jointBroken m) ∨ (∃ m, c = .bhaSet m) ∨ (∃ m, c = .bhaClear m) ∨ ∃ m, c = .fault m) :
    Passes s t := by
  obtain ⟨m, rfl⟩ | ⟨m, rfl⟩ | ⟨m, rfl⟩ | ⟨m, rfl⟩ | ⟨m, rfl⟩ | ⟨m, rfl⟩ | ⟨m, rfl⟩ | ⟨m, rfl⟩ := hc
  · refine deliver_passes hx fun st => ?_
    unfold takeRequestReport
    split
    · exact (State.unexpected_frame ..).passes
    · exact (stationRequest_passes s).trans (State.wake_frame _ _).passes
  · refine deliver_passes hx fun st => ?_
    unfold takeReleaseReport
    split
    · exact (State.unexpected_frame ..).passes
    · exact stationRelease_passes s
  · exact deliver_passes hx fun st => atStep_passes fun o => takeTag_passes m.value o s
  · exact deliver_passes hx fun st => atStep_passes fun o =>
      ((State.rackOpRod_frame o s).passes (by simp [rosterParts])).trans
        ((endOp_passes ..).trans (engineRelease_passes _))
  · exact deliver_passes hx fun st => atStep_passes fun o =>
      (((State.unjoinOpRod_frame o s).passes (by simp [rosterParts])).trans (frame_engine _ _).passes).trans
        ((engineRequest_passes _).trans (engineRelease_passes _))
  · exact deliver_passes hx fun st => atStep_passes fun o =>
      (State.moveBha_frame _ _ s).passes.trans ((endOp_passes ..).trans (engineRelease_passes _))
  · exact deliver_passes hx fun st => atStep_passes fun o =>
      (State.moveBha_frame _ _ s).passes.trans ((endOp_passes ..).trans (engineRelease_passes _))
  · refine deliver_passes hx fun st => ?_
    unfold takeFault
    split
    · exact (State.notFitting_frame m 10 s).passes
    · split
      · exact abandon_passes ..
      · exact (State.notFitting_frame m 10 s).passes

end Passes

/-- WRENCH does not hold the centre, or circulation is STOPPED and the head FREE (R54). -/
def Interlocked (s : State) : Prop :=
  s.arbiter.holder = .wrench → s.pumps.circ = .stopped ∧ s.depth.coupled = false

section Interlocked

variable {s t : State}

theorem interlocked_of_not_wrench (h : s.arbiter.holder ≠ .wrench) : Interlocked s := fun hw => absurd hw h

theorem Passes.interlocked (h : Passes s t) (hs : Interlocked s) : Interlocked t := fun hw => by
  rw [h.circ, h.head]
  obtain hw | hfree := h.wrench hw
  · exact hs hw
  · exact hfree

/-- A change that leaves the arbiter and the head, and circulation where it is STOPPED. -/
theorem Frame.interlocked {ps : List Part} (hf : Frame ps s t) (ha : .arbiter ∉ ps) (hd : .depth ∉ ps)
    (hc : s.pumps.circ = .stopped → t.pumps.circ = .stopped) (hs : Interlocked s) : Interlocked t := fun hw => by
  have harbiter : t.arbiter = s.arbiter := hf.kept .arbiter ha
  have hdepth : t.depth = s.depth := hf.kept .depth hd
  obtain ⟨hcirc, hcoupled⟩ := hs (harbiter ▸ hw)
  exact ⟨hc hcirc, hdepth ▸ hcoupled⟩

theorem stillExpiry_interlocked (hs : Interlocked s) : Interlocked s.stillExpiry := by
  unfold State.stillExpiry
  split
  · refine (grantTest_passes _).interlocked ?_
    exact ((State.setPumps_frame _ s).trans ((State.raise_frame ..).mono (by simp))).interlocked (by simp) (by simp)
      (fun _ => rfl) hs
  · exact (State.setPumps_frame _ s).interlocked (by simp) (by simp) id hs

theorem pumpSecond_interlocked (hs : Interlocked s) : Interlocked s.pumpSecond := by
  have hticked : Interlocked (s.setPumps { s.pumps with p1 := s.pumps.p1.tick, p2 := s.pumps.p2.tick }) :=
    (State.setPumps_frame _ s).interlocked (by simp) (by simp) id hs
  unfold State.pumpSecond
  simp only
  split
  next hrun =>
    refine (State.setPumps_frame _ _).interlocked (by simp) (by simp) (fun hstop => ?_) hticked
    rw [hrun.1] at hstop
    cases hstop
  · unfold State.stillTick
    split
    · exact hticked
    · split
      · exact stillExpiry_interlocked hticked
      · exact (State.setPumps_frame _ _).interlocked (by simp) (by simp) id hticked

theorem rework_circ_stopped {c : PumpCtl} (condition : Suction) (h : c.circ = .stopped) :
    (c.rework condition).circ = .stopped := by
  unfold PumpCtl.rework
  simp only
  split
  next hrun => simp [h] at hrun
  · exact h

theorem decideSuction_circ_stopped (h : s.pumps.circ = .stopped) : s.decideSuction.pumps.circ = .stopped := by
  unfold State.decideSuction
  simp only
  split
  · exact h
  · refine rework_circ_stopped _ ?_
    split <;> exact h

/-- The suction test, the swap and the mix hold leave STOPPED circulation, the arbiter and the head. -/
theorem interlocked_mixKept : MixKept Interlocked := by
  have tanks : ∀ (s : State) (u : TankUnit), Interlocked s → Interlocked (s.setTanks u) := fun s u hs =>
    (frame_tanks s u).interlocked (by simp) (by simp) id hs
  refine { reading := fun s m hs => ?_, exchange := fun s hs => tanks s _ hs, reworked := fun s hs => tanks s _ hs
           decide := fun s hs => ?_, raise := fun s k d hs => ?_, remix := fun s n hs => tanks s _ hs
           count := fun s n m _ hs => tanks s _ hs }
  · refine (State.reading_frame m s).interlocked (by simp [balanceParts]) (by simp [balanceParts]) (fun h => ?_) hs
    rw [show (s.reading m).pumps = s.pumps from (State.reading_frame m s).kept .pumps (by simp [balanceParts])]
    exact h
  · exact (State.decideSuction_frame s).interlocked (by simp [tankParts]) (by simp [tankParts])
      decideSuction_circ_stopped hs
  · exact (State.raise_frame k d s).interlocked (by simp) (by simp) id hs

theorem expiryReceiver_interlocked {f : State → State} (hf : f ∈ expiryReceivers) (s : State) (hs : Interlocked s) :
    Interlocked (f s) := by
  simp only [expiryReceivers, List.mem_cons, List.not_mem_nil, or_false] at hf
  obtain rfl | rfl | rfl | rfl | rfl := hf
  · exact pumpSecond_interlocked hs
  · exact ((State.balanceSecond_frame s).passes (by simp [balanceParts])).interlocked hs
  · exact ((State.sheetMinute_frame s).passes).interlocked hs
  · exact interlocked_mixKept.mixMinute hs
  · exact ((State.windowMinute_frame s).passes).interlocked hs

/-- The head freed, while WRENCH does not hold the centre or circulation is STOPPED and the head was free. -/
theorem takeFree_interlocked (hs : Interlocked s) : Interlocked s.takeFree := by
  unfold State.takeFree
  split
  · have hfree : Interlocked (s.setDepth { s.depth with coupled := false, held := none }) := fun hw =>
      ⟨(hs hw).1, rfl⟩
    have hgranted := (grantTest_passes _).interlocked hfree
    unfold State.headFreed
    simp only
    split
    · exact hgranted
    · exact ((State.closeForming_frame ..).passes (by simp [transitParts])).interlocked hgranted
  · exact hs

theorem free_interlocked {m : Message} (hx : execFree m s = .next t) (hs : Interlocked s) : Interlocked t := by
  unfold execFree deliver at hx
  split at hx <;> obtain rfl := Host.Outcome.next.inj hx
  · unfold takeFreeReport
    split
    · exact takeFree_interlocked hs
    · exact (State.unexpected_frame ..).passes.interlocked hs
  all_goals exact (State.raise_frame ..).passes.interlocked hs

/-- A command that finds another station than WRENCH at the centre leaves the interlock. -/
theorem exec_interlocked {c : Instr} (hx : exec c s = .next t) (h : s.arbiter.holder ≠ .wrench) : Interlocked t := by
  have hs := interlocked_of_not_wrench h
  have untouched : .arbiter ∉ touched c → Interlocked t := fun hc => by
    refine interlocked_of_not_wrench ?_
    have hf := commandsTouchOnlyTheirOwnParts c s t hx
    have : t.arbiter = s.arbiter := hf.kept .arbiter (by
      simp only [List.mem_append, hc, false_or]
      split <;> simp [wakeEnd])
    rwa [this]
  have begun : ∀ {code : Byte} {required : Nat} {cls : ReqClass} {body : Nat → List Word → State → Reply} {r : Request},
      takeRequest code required cls body r s = .next t →
      (∀ l ws u, Interlocked u → Answers Interlocked (body l ws u)) → Interlocked t := by
    intro code required cls body r hx hbody
    have passes : ∀ {ps : List Part} {u v : State}, Frame ps u v →
        (∀ p ∈ [Part.arbiter, .pumps, .depth], p ∉ ps) → Interlocked u → Interlocked v := fun hf hps hu =>
      (hf.passes hps).interlocked hu
    have hheard := passes (State.heard_frame code r s) (by simp) hs
    cases takeRequest_outcome (fun l ws => hbody l ws _ hheard) hx with
    | linkError status _ ht =>
      exact ht ▸ passes (State.linkError_frame status _) (by simp) (passes (State.clockOut_frame _ s) (by simp) hs)
    | refused status _ _ ht => exact ht ▸ passes (State.respond_frame ..) (by simp) hheard
    | accepted status payload v _ hv ht =>
      exact ht ▸ passes (State.respond_frame ..) (by simp)
        (passes (State.endWake_frame cls v) (by simp [operateParts]) hv)
  cases c
  case initialise r =>
    refine begun hx fun l ws u hu => serveInitialise_answers.mono ?_
    rintro v ⟨_, rfl⟩
    exact interlocked_of_not_wrench (by simp [State.initialised, Arbiter.idle])
  case makeUp r =>
    refine begun hx fun l ws u hu => serveMakeUp_answers.mono ?_
    rintro v ⟨a, j, i, rod, src, _, ⟨_, rfl⟩ | rfl⟩
    · exact (frame_engine u _).passes.interlocked hu
    · exact ((frame_engine u _).passes.trans (engineRequest_passes _)).interlocked hu
  case breakOut r =>
    refine begun hx fun l ws u hu => serveBreakOut_answers.mono ?_
    rintro v ⟨a, j, i, rod, dest, _, _, _, _, _, _, _, rfl⟩
    exact ((frame_engine u _).passes.trans (engineRequest_passes _)).interlocked hu
  case stow r =>
    refine begun hx fun l ws u hu => serveStow_answers.mono ?_
    rintro v ⟨a, j, i, rod, dest, _, _, _, _, _, rfl⟩
    exact ((frame_engine u _).passes.trans (engineRequest_passes _)).interlocked hu
  case runBha r =>
    refine begun hx fun l ws u hu => serveRunBha_answers.mono ?_
    rintro v ⟨a, j, _, _, _, rfl⟩
    exact ((frame_engine u _).passes.trans (engineRequest_passes _)).interlocked hu
  case pullBha r =>
    refine begun hx fun l ws u hu => servePullBha_answers.mono ?_
    rintro v ⟨a, j, _, _, _, _, rfl⟩
    exact ((frame_engine u _).passes.trans (engineRequest_passes _)).interlocked hu
  case abortOp r =>
    refine begun hx fun l ws u hu => serveAbortOp_answers.mono ?_
    rintro v ⟨o, _, rfl⟩
    exact (abandon_passes ..).interlocked hu
  case request m => exact (report_passes hx (by simp)).interlocked hs
  case release m => exact (report_passes hx (by simp)).interlocked hs
  case tag m => exact (report_passes hx (by simp)).interlocked hs
  case stowed m => exact (report_passes hx (by simp)).interlocked hs
  case jointBroken m => exact (report_passes hx (by simp)).interlocked hs
  case bhaSet m => exact (report_passes hx (by simp)).interlocked hs
  case bhaClear m => exact (report_passes hx (by simp)).interlocked hs
  case fault m => exact (report_passes hx (by simp)).interlocked hs
  case free m =>
    exact free_interlocked hx hs
  case powerUp =>
    obtain rfl := Host.Outcome.next.inj hx
    exact interlocked_of_not_wrench (by simp [State.comeUp, State.raise, Arbiter.idle])
  case secondExpiry =>
    obtain rfl := Host.Outcome.next.inj hx
    split
    · exact ((State.balanceSecond_frame _).passes (by simp [balanceParts])).interlocked
        (pumpSecond_interlocked ((frame_mode s _).passes.interlocked hs))
    · exact serve_keeps (P := Interlocked) (fun f hf u hu => expiryReceiver_interlocked hf u hu)
        (fun _ => mem_of_mem_permuteBy) _ ((frame_mode_draws s _ _).passes.interlocked hs)
  case minuteExpiry =>
    obtain rfl := Host.Outcome.next.inj hx
    exact serve_keeps (P := Interlocked) (fun f hf u hu => expiryReceiver_interlocked hf u hu)
      (fun _ hf => minuteReceivers_subset (mem_of_mem_permuteBy hf)) _
      ((frame_mode_draws s _ _).passes.interlocked hs)
  case stillExpiry =>
    obtain rfl := Host.Outcome.next.inj hx
    split
    · exact hs
    · exact stillExpiry_interlocked hs
  all_goals exact untouched (by simp [touched, reportParts, requestParts])

end Interlocked

/-- Settles O34: arbiter and engine in step through every command, and the interlock wherever the centre passes. -/
theorem wellCentreInvariant : Obligations.WellCentreInvariant := by
  refine ⟨fun s t hc he hx => ?_, fun c s t hx hs ht => exec_interlocked hx hs ht⟩
  exact inStep_iff.1 (settled_inStep.of_step (fun c u v hx hu => exec_inStep hx hu) hx (inStep_iff.2 ⟨hc, he⟩))

end Sys2Proof.Machine
end

section
/-! PROOFS. The Pump Controller: its records, ceilings and timers stay sound, and a setpoint rises only at a ramp. -/

namespace Sys2Proof.Machine

/-! ### Pump records -/

/-- Target and setpoint stand under the ceiling in force, and the ramp timer runs exactly while they differ (R82, R84). -/
structure PumpRec.Held (r : PumpRec) : Prop where
  target : r.target ≤ r.inForce
  setpoint : r.setpoint ≤ r.inForce
  timer : r.rampTimer = none ↔ r.setpoint = r.target

theorem PumpRec.runOk_iff {condition : Suction} {hold : Nat} {r : PumpRec} :
    r.RunOk condition hold ↔ r.inForce = ceilingFor condition hold r.ceiling ∧ r.Held :=
  ⟨fun h => ⟨h.1, h.2.1, h.2.2.1, h.2.2.2⟩, fun h => ⟨h.1, h.2.target, h.2.setpoint, h.2.timer⟩⟩

/-- Two pump records with the same configuration. -/
structure PumpRec.SameConfig (r q : PumpRec) : Prop where
  displacement : q.displacement = r.displacement
  efficiency : q.efficiency = r.efficiency
  ceiling : q.ceiling = r.ceiling
  rampStep : q.rampStep = r.rampStep
  rampInterval : q.rampInterval = r.rampInterval
  vps : q.vps = r.vps

section Record

variable {r q : PumpRec}

theorem PumpRec.SameConfig.refl (r : PumpRec) : r.SameConfig r := ⟨rfl, rfl, rfl, rfl, rfl, rfl⟩

theorem PumpRec.SameConfig.configOk (h : r.SameConfig q) (hr : r.ConfigOk) : q.ConfigOk := by
  obtain ⟨h1, h2, h3, h4, h5, h6⟩ := h
  rw [PumpRec.ConfigOk, h1, h2, h3, h4, h5, h6]
  exact hr

theorem PumpRec.aim_target (n : Nat) (r : PumpRec) : (r.aim n).target = n := by
  unfold PumpRec.aim PumpRec.retime
  split_ifs <;> rfl

theorem PumpRec.aim_setpoint (n : Nat) (r : PumpRec) : (r.aim n).setpoint = r.setpoint := by
  unfold PumpRec.aim PumpRec.retime
  split_ifs <;> rfl

theorem PumpRec.aim_inForce (n : Nat) (r : PumpRec) : (r.aim n).inForce = r.inForce := by
  unfold PumpRec.aim PumpRec.retime
  split_ifs <;> rfl

theorem PumpRec.aim_config (n : Nat) (r : PumpRec) : r.SameConfig (r.aim n) := by
  unfold PumpRec.aim PumpRec.retime
  split_ifs <;> exact ⟨rfl, rfl, rfl, rfl, rfl, rfl⟩

theorem PumpRec.aim_timer (n : Nat) (r : PumpRec) : (r.aim n).rampTimer = none ↔ r.setpoint = n := by
  unfold PumpRec.aim PumpRec.retime
  split_ifs with h1 h2
  · exact iff_of_true rfl h1
  · exact iff_of_false (by simp) h1
  · exact iff_of_false h2 h1

theorem PumpRec.Held.aim (h : r.Held) {n : Nat} (hn : n ≤ r.inForce) : (r.aim n).Held := by
  refine ⟨?_, ?_, ?_⟩
  · rw [PumpRec.aim_target, PumpRec.aim_inForce]
    exact hn
  · rw [PumpRec.aim_setpoint, PumpRec.aim_inForce]
    exact h.setpoint
  · rw [PumpRec.aim_timer, PumpRec.aim_setpoint, PumpRec.aim_target]

theorem PumpRec.withCeiling_inForce (n : Nat) (r : PumpRec) : (r.withCeiling n).inForce = n := by
  unfold PumpRec.withCeiling PumpRec.clampTo
  simp only
  split_ifs <;> rfl

theorem PumpRec.withCeiling_config (n : Nat) (r : PumpRec) : r.SameConfig (r.withCeiling n) := by
  unfold PumpRec.withCeiling PumpRec.clampTo
  simp only
  split_ifs <;> exact ⟨rfl, rfl, rfl, rfl, rfl, rfl⟩

theorem PumpRec.withCeiling_setpoint_le (n : Nat) (r : PumpRec) : (r.withCeiling n).setpoint ≤ r.setpoint := by
  unfold PumpRec.withCeiling PumpRec.clampTo
  simp only
  split_ifs <;> simp

theorem PumpRec.withCeiling_target_le (n : Nat) (r : PumpRec) : (r.withCeiling n).target ≤ r.target := by
  unfold PumpRec.withCeiling PumpRec.clampTo
  simp only
  split_ifs <;> simp

theorem PumpRec.Held.withCeiling (h : r.Held) (n : Nat) : (r.withCeiling n).Held := by
  obtain ⟨ht, hs, htimer⟩ := h
  unfold PumpRec.withCeiling PumpRec.clampTo
  simp only
  split_ifs with hfall heq
  · exact ⟨min_le_right _ _, min_le_right _ _, iff_of_true rfl heq⟩
  · refine ⟨min_le_right _ _, min_le_right _ _, iff_of_false (fun hn => heq ?_) heq⟩
    show min r.setpoint n = min r.target n
    rw [htimer.1 hn]
  · exact ⟨ht.trans (not_lt.1 hfall), hs.trans (not_lt.1 hfall), htimer⟩

theorem approach_le_max (setpoint target step : Nat) : approach setpoint target step ≤ max setpoint target := by
  unfold approach
  split <;> omega

theorem approach_rises {setpoint target step : Nat} (h : setpoint < approach setpoint target step) :
    approach setpoint target step ≤ setpoint + step ∧ approach setpoint target step ≤ target := by
  unfold approach at h ⊢
  split at h <;> rename_i hle
  · rw [if_pos hle]
    omega
  · omega

theorem PumpRec.Held.ramp (h : r.Held) : r.ramp.Held := by
  obtain ⟨ht, hs, _⟩ := h
  refine ⟨ht, (approach_le_max ..).trans (max_le hs ht), ?_⟩
  unfold PumpRec.ramp
  simp only
  split_ifs with heq
  · exact iff_of_true rfl heq
  · exact iff_of_false (by simp) heq

theorem PumpRec.ramp_config (r : PumpRec) : r.SameConfig r.ramp := ⟨rfl, rfl, rfl, rfl, rfl, rfl⟩

/-- A second expiry on a pump: nothing while the ramp timer is stopped, a ramp or one count while it runs. -/
theorem PumpRec.tick_cases (r : PumpRec) :
    (r.rampTimer = none ∧ r.tick = r) ∨ (r.rampTimer ≠ none ∧ r.tick = r.ramp)
      ∨ ∃ n, r.rampTimer ≠ none ∧ r.tick = { r with rampTimer := some n } := by
  unfold PumpRec.tick
  split
  next h => exact .inl ⟨h, rfl⟩
  next n h =>
    split
    · exact .inr (.inl ⟨by simp [h], rfl⟩)
    · exact .inr (.inr ⟨_, by simp [h], rfl⟩)

theorem PumpRec.Held.tick (h : r.Held) : r.tick.Held := by
  obtain ⟨_, he⟩ | ⟨_, he⟩ | ⟨n, hn, he⟩ := r.tick_cases <;> rw [he]
  · exact h
  · exact h.ramp
  · exact ⟨h.target, h.setpoint, iff_of_false (by simp) fun heq => hn (h.timer.2 heq)⟩

theorem PumpRec.tick_config (r : PumpRec) : r.SameConfig r.tick := by
  obtain ⟨_, he⟩ | ⟨_, he⟩ | ⟨n, hn, he⟩ := r.tick_cases <;> rw [he]
  · exact .refl r
  · exact r.ramp_config
  · exact ⟨rfl, rfl, rfl, rfl, rfl, rfl⟩

theorem PumpRec.tick_target (r : PumpRec) : r.tick.target = r.target := by
  obtain ⟨_, he⟩ | ⟨_, he⟩ | ⟨n, hn, he⟩ := r.tick_cases <;> rw [he]
  rfl

theorem PumpRec.tick_inForce (r : PumpRec) : r.tick.inForce = r.inForce := by
  obtain ⟨_, he⟩ | ⟨_, he⟩ | ⟨n, hn, he⟩ := r.tick_cases <;> rw [he]
  rfl

/-- A pump at its target does not ramp. -/
theorem PumpRec.Held.tick_at_target (h : r.Held) (heq : r.setpoint = r.target) : r.tick = r := by
  have hn := h.timer.2 heq
  obtain ⟨_, he⟩ | ⟨ht, _⟩ | ⟨n, ht, _⟩ := r.tick_cases
  · exact he
  · exact absurd hn ht
  · exact absurd hn ht

end Record

/-! ### The controller -/

/-- A pump record is sound under a suction condition (R76, R78, R81, R82, R84). -/
structure PumpRec.Sound (condition : Suction) (hold : Nat) (r : PumpRec) : Prop where
  config : r.ConfigOk
  inForce : r.inForce = ceilingFor condition hold r.ceiling
  held : r.Held

/-- The still timer, the targets and the setpoints agree with the circulation state (spec/05, 5.5). -/
structure PumpCtl.Circulates (c : PumpCtl) : Prop where
  still : c.still.isSome = true ↔ c.circ = .stopping
  targets : c.circ ≠ .running → c.p1.target = 0 ∧ c.p2.target = 0
  setpoints : c.circ = .stopped → c.p1.setpoint = 0 ∧ c.p2.setpoint = 0

/-- The Pump Controller is sound under a suction condition. -/
structure PumpCtl.Sound (condition : Suction) (c : PumpCtl) : Prop where
  p1 : c.p1.Sound condition c.holdRate
  p2 : c.p2.Sound condition c.holdRate
  circulates : c.Circulates

/-- The Pump Controller is sound under the suction condition in force. -/
def PumpsSound (s : State) : Prop := s.pumps.Sound s.tanks.condition

theorem pumpsSound_iff {s : State} : PumpsSound s ↔ s.PumpsOk ∧ s.CirculationOk := by
  constructor
  · rintro ⟨⟨hc1, hi1, hh1⟩, ⟨hc2, hi2, hh2⟩, ⟨h1, h2, h3⟩⟩
    exact ⟨⟨hc1, hc2, PumpRec.runOk_iff.2 ⟨hi1, hh1⟩, PumpRec.runOk_iff.2 ⟨hi2, hh2⟩⟩, h1, h2, h3⟩
  · rintro ⟨⟨hc1, hc2, hr1, hr2⟩, h1, h2, h3⟩
    obtain ⟨hi1, hh1⟩ := PumpRec.runOk_iff.1 hr1
    obtain ⟨hi2, hh2⟩ := PumpRec.runOk_iff.1 hr2
    exact ⟨⟨hc1, hi1, hh1⟩, ⟨hc2, hi2, hh2⟩, h1, h2, h3⟩

section Controller

variable {condition : Suction} {c : PumpCtl} {hold : Nat} {r : PumpRec} {p : Pump}

theorem PumpRec.Sound.withCeiling (hc : r.ConfigOk) (hh : r.Held) :
    (r.withCeiling (ceilingFor condition hold r.ceiling)).Sound condition hold :=
  ⟨(r.withCeiling_config _).configOk hc, by rw [PumpRec.withCeiling_inForce, (r.withCeiling_config _).ceiling],
    hh.withCeiling _⟩

theorem PumpRec.Sound.aim (h : r.Sound condition hold) {n : Nat} (hn : n ≤ r.inForce) :
    (r.aim n).Sound condition hold :=
  ⟨(r.aim_config n).configOk h.config, by rw [PumpRec.aim_inForce, (r.aim_config n).ceiling, h.inForce],
    h.held.aim hn⟩

theorem PumpRec.Sound.ramp (h : r.Sound condition hold) : r.ramp.Sound condition hold :=
  ⟨r.ramp_config.configOk h.config, h.inForce, h.held.ramp⟩

theorem PumpRec.Sound.tick (h : r.Sound condition hold) : r.tick.Sound condition hold :=
  ⟨r.tick_config.configOk h.config, by rw [PumpRec.tick_inForce, r.tick_config.ceiling, h.inForce], h.held.tick⟩

theorem PumpCtl.Sound.pump (h : c.Sound condition) (p : Pump) : (c.pump p).Sound condition c.holdRate := by
  cases p
  · exact h.p1
  · exact h.p2

theorem PumpCtl.pump_setPump_same : (c.setPump p r).pump p = r := by cases p <;> rfl

theorem PumpCtl.pump_setPump_other {q : Pump} (h : p ≠ q) : (c.setPump p r).pump q = c.pump q := by
  cases p <;> cases q <;> first | rfl | exact absurd rfl h

theorem PumpCtl.setPump_rest : (c.setPump p r).holdRate = c.holdRate ∧ (c.setPump p r).stillHold = c.stillHold
    ∧ (c.setPump p r).circ = c.circ ∧ (c.setPump p r).still = c.still ∧ (c.setPump p r).total = c.total := by
  cases p <;> exact ⟨rfl, rfl, rfl, rfl, rfl⟩

/-- Begun to stop with both targets at 0. -/
theorem PumpCtl.beginStop_circulates (h : c.targetsZero = true) : c.beginStop.Circulates := by
  simp only [PumpCtl.targetsZero, Bool.and_eq_true, beq_iff_eq] at h
  exact ⟨iff_of_true rfl rfl, fun _ => h, fun h => by cases h⟩

theorem PumpCtl.run_circulates : c.run.Circulates :=
  ⟨iff_of_false (by simp [PumpCtl.run]) (by simp [PumpCtl.run]), fun h => absurd rfl h, fun h => by cases h⟩

theorem targetsZero_iff : c.targetsZero = true ↔ c.p1.target = 0 ∧ c.p2.target = 0 := by
  simp [PumpCtl.targetsZero]

/-- Targets and setpoints that only fall keep the circulation state's conditions. -/
theorem PumpCtl.Circulates.lowered {d : PumpCtl} (h : c.Circulates) (hcirc : d.circ = c.circ) (hstill : d.still = c.still)
    (ht1 : d.p1.target ≤ c.p1.target) (ht2 : d.p2.target ≤ c.p2.target) (hs1 : d.p1.setpoint ≤ c.p1.setpoint)
    (hs2 : d.p2.setpoint ≤ c.p2.setpoint) : d.Circulates := by
  refine ⟨by rw [hcirc, hstill]; exact h.still, fun hr => ?_, fun hs => ?_⟩
  · obtain ⟨h1, h2⟩ := h.targets (hcirc ▸ hr)
    exact ⟨by omega, by omega⟩
  · obtain ⟨h1, h2⟩ := h.setpoints (hcirc ▸ hs)
    exact ⟨by omega, by omega⟩

/-- The ceilings in force worked out anew leave a sound controller (R81, R82). -/
theorem PumpCtl.rework_sound (h1 : c.p1.ConfigOk ∧ c.p1.Held) (h2 : c.p2.ConfigOk ∧ c.p2.Held) (hc : c.Circulates) :
    (c.rework condition).Sound condition := by
  have hlow : ({ c with
      p1 := c.p1.withCeiling (ceilingFor condition c.holdRate c.p1.ceiling)
      p2 := c.p2.withCeiling (ceilingFor condition c.holdRate c.p2.ceiling) } : PumpCtl).Circulates :=
    hc.lowered rfl rfl (PumpRec.withCeiling_target_le ..) (PumpRec.withCeiling_target_le ..)
      (PumpRec.withCeiling_setpoint_le ..) (PumpRec.withCeiling_setpoint_le ..)
  unfold PumpCtl.rework
  simp only
  split
  next hstop => exact ⟨.withCeiling h1.1 h1.2, .withCeiling h2.1 h2.2, PumpCtl.beginStop_circulates hstop.2.1⟩
  · exact ⟨.withCeiling h1.1 h1.2, .withCeiling h2.1 h2.2, hlow⟩

theorem PumpCtl.Sound.rework (h : c.Sound condition) (other : Suction) : (c.rework other).Sound other :=
  PumpCtl.rework_sound ⟨h.p1.config, h.p1.held⟩ ⟨h.p2.config, h.p2.held⟩ h.circulates

/-- One pump's record replaced by a sound one, its target and setpoint as they were. -/
theorem PumpCtl.Sound.setPump (h : c.Sound condition) (hr : r.Sound condition c.holdRate)
    (ht : r.target ≤ (c.pump p).target) (hs : r.setpoint ≤ (c.pump p).setpoint) : (c.setPump p r).Sound condition := by
  cases p
  · exact ⟨hr, h.p2, h.circulates.lowered rfl rfl ht le_rfl hs le_rfl⟩
  · exact ⟨h.p1, hr, h.circulates.lowered rfl rfl le_rfl ht le_rfl hs⟩

theorem PumpCtl.Sound.beginStop (h : c.Sound condition) (hz : c.targetsZero = true) :
    c.beginStop.Sound condition := ⟨h.p1, h.p2, PumpCtl.beginStop_circulates hz⟩

theorem PumpCtl.Sound.run (h : c.Sound condition) : c.run.Sound condition := ⟨h.p1, h.p2, PumpCtl.run_circulates⟩

/-- The still timer restarted in STOPPING. -/
theorem PumpCtl.Sound.restill (h : c.Sound condition) (hs : c.circ = .stopping) (n : Nat) :
    ({ c with still := some n } : PumpCtl).Sound condition :=
  ⟨h.p1, h.p2, iff_of_true rfl hs, h.circulates.targets, h.circulates.setpoints⟩

/-- A new configuration of one pump and its ceiling in force (R77, R81). -/
theorem PumpCtl.Sound.configured (h : c.Sound condition) (hr : r.ConfigOk) (hheld : r.Held)
    (ht : r.target = (c.pump p).target) (hs : r.setpoint = (c.pump p).setpoint) :
    ((c.setPump p r).reworkPump condition p).Sound condition := by
  have hsound : ((c.setPump p r).setPump p
      (((c.setPump p r).pump p).withCeiling (ceilingFor condition (c.setPump p r).holdRate
        ((c.setPump p r).pump p).ceiling))).Sound condition := by
    rw [PumpCtl.pump_setPump_same, PumpCtl.setPump_rest.1]
    have hw : (r.withCeiling (ceilingFor condition c.holdRate r.ceiling)).Sound condition c.holdRate :=
      .withCeiling hr hheld
    have hset := h.setPump (p := p) hw ((r.withCeiling_target_le _).trans ht.le)
      ((r.withCeiling_setpoint_le _).trans hs.le)
    cases p <;> exact hset
  unfold PumpCtl.reworkPump
  simp only
  split
  next hstop => exact hsound.beginStop hstop.2.1
  · exact hsound

end Controller

/-! ### The invariant, operation by operation -/

section Sound

variable {s t : State} {p : Pump}

theorem settled_pumpsSound : Settled [.pumps, .tanks] PumpsSound := by
  refine ⟨fun s t h hs => ?_, by simp⟩
  have hp : t.pumps = s.pumps := h .pumps (by simp)
  have ht : t.tanks = s.tanks := h .tanks (by simp)
  rw [PumpsSound, hp, ht]
  exact hs

/-- A change that leaves the pumps and the suction condition. -/
theorem Frame.pumpsSound {ps : List Part} (hf : Frame ps s t) (hp : .pumps ∉ ps)
    (hc : t.tanks.condition = s.tanks.condition) (h : PumpsSound s) : PumpsSound t := by
  have hpumps : t.pumps = s.pumps := hf.kept .pumps hp
  rw [PumpsSound, hpumps, hc]
  exact h

theorem setPumps_sound {c : PumpCtl} (h : c.Sound s.tanks.condition) : PumpsSound (s.setPumps c) := h

theorem setTanks_sound {u : TankUnit} (hu : u.condition = s.tanks.condition) (h : PumpsSound s) :
    PumpsSound (s.setTanks u) := (State.setTanks_frame u s).pumpsSound (by simp [balanceParts]) hu h

theorem Balanced.pumpsSound (hb : Balanced s t) (h : PumpsSound s) : PumpsSound t :=
  hb.frame.pumpsSound (by simp [balanceParts]) hb.condition h

theorem decideSuction_sound (h : PumpsSound s) : PumpsSound s.decideSuction := by
  unfold State.decideSuction
  simp only
  split
  · exact h
  · refine setPumps_sound ?_
    split <;> exact PumpCtl.Sound.rework h _

theorem pumpsSound_waterKept : WaterKept PumpsSound where
  reading _ _ := (State.reading_balanced ..).pumpsSound
  exchange _ h := setTanks_sound rfl h
  reworked _ h := setTanks_sound rfl h
  decide _ := decideSuction_sound
  raise _ k d h := settled_pumpsSound.raise k d h
  remix _ _ h := setTanks_sound rfl h
  count _ _ _ _ h := setTanks_sound rfl h
  additions _ _ h := setTanks_sound rfl h
  started _ _ _ h := setTanks_sound rfl h

theorem leftStopped_sound (e : BreachEvent) (h : PumpsSound s) : PumpsSound (s.leftStopped e p) :=
  settled_pumpsSound.frame (State.leftStopped_frame e p s) (by simp) h

theorem startCirculation_sound (e : BreachEvent) (h : PumpsSound s) : PumpsSound (s.startCirculation e p) :=
  leftStopped_sound e (setPumps_sound (PumpCtl.Sound.run h))

theorem strokeCirculation_sound (h : PumpsSound s) : PumpsSound (s.strokeCirculation p) := by
  unfold State.strokeCirculation
  split
  · exact settled_pumpsSound.raise _ _ (startCirculation_sound _ h)
  · exact h
  next hc => exact setPumps_sound (PumpCtl.Sound.restill h hc _)

theorem stillExpiry_sound (hc : s.pumps.circ = .stopping) (h : PumpsSound s) : PumpsSound s.stillExpiry := by
  unfold State.stillExpiry
  split
  next hz =>
    refine (State.grantTest_frame _).pumpsSound (by simp [centreParts])
      (by rw [show State.tanks _ = _ from (State.grantTest_frame _).kept .tanks (by simp [centreParts])])
      (settled_pumpsSound.raise _ _ (setPumps_sound ⟨h.p1, h.p2, ?_⟩))
    simp only [PumpCtl.setpointsZero, Bool.and_eq_true, beq_iff_eq] at hz
    exact ⟨iff_of_false (by simp) (by simp), fun _ => h.circulates.targets (by simp [hc]), fun _ => hz⟩
  · exact setPumps_sound (PumpCtl.Sound.restill h hc _)

theorem stopping_of_still (h : PumpsSound s) (hs : s.pumps.still ≠ none) : s.pumps.circ = .stopping :=
  h.circulates.still.1 (Option.isSome_iff_ne_none.2 hs)

theorem stillTick_sound (h : PumpsSound s) : PumpsSound s.stillTick := by
  unfold State.stillTick
  split
  · exact h
  next n hn =>
    have hc := stopping_of_still h (by simp [hn])
    split
    · exact stillExpiry_sound hc h
    · exact setPumps_sound (PumpCtl.Sound.restill h hc _)

/-- The ramp timers counted keep the controller sound: STOPPED pumps stand at their targets and do not ramp. -/
theorem ticked_sound (h : PumpsSound s) :
    PumpsSound (s.setPumps { s.pumps with p1 := s.pumps.p1.tick, p2 := s.pumps.p2.tick }) := by
  refine setPumps_sound ⟨h.p1.tick, h.p2.tick, h.circulates.still, fun hr => ?_, fun hs => ?_⟩
  · show s.pumps.p1.tick.target = 0 ∧ s.pumps.p2.tick.target = 0
    rw [PumpRec.tick_target, PumpRec.tick_target]
    exact h.circulates.targets hr
  · have hstopped : s.pumps.circ = .stopped := hs
    obtain ⟨ht1, ht2⟩ := h.circulates.targets (by simp [hstopped])
    obtain ⟨hs1, hs2⟩ := h.circulates.setpoints hstopped
    show s.pumps.p1.tick.setpoint = 0 ∧ s.pumps.p2.tick.setpoint = 0
    rw [h.p1.held.tick_at_target (hs1.trans ht1.symm), h.p2.held.tick_at_target (hs2.trans ht2.symm)]
    exact ⟨hs1, hs2⟩

theorem pumpSecond_sound (h : PumpsSound s) : PumpsSound s.pumpSecond := by
  unfold State.pumpSecond
  simp only
  split
  next hz => exact setPumps_sound (PumpCtl.Sound.beginStop (ticked_sound h) hz.2)
  · exact stillTick_sound (ticked_sound h)

theorem expiryReceiver_sound {f : State → State} (hf : f ∈ expiryReceivers) (s : State) (h : PumpsSound s) :
    PumpsSound (f s) := by
  simp only [expiryReceivers, List.mem_cons, List.not_mem_nil, or_false] at hf
  obtain rfl | rfl | rfl | rfl | rfl := hf
  · exact pumpSecond_sound h
  · exact (State.balanceSecond_balanced s).pumpsSound h
  · exact settled_pumpsSound.depends.frame (State.sheetMinute_frame s) (by simp) h
  · exact pumpsSound_waterKept.mixMinute h
  · exact settled_pumpsSound.depends.frame (State.windowMinute_frame s) (by simp) h

/-- A new target of a pump, under its ceiling in force (R83). -/
theorem retarget_sound {n : Nat} (hn : n ≤ (s.pumps.pump p).inForce) (h : PumpsSound s) :
    PumpsSound (s.retarget p n) := by
  have haimed := (PumpCtl.Sound.pump h p).aim hn
  have hp1 : (s.pumps.setPump p ((s.pumps.pump p).aim n)).p1.Sound s.tanks.condition s.pumps.holdRate := by
    cases p
    · exact haimed
    · exact h.p1
  have hp2 : (s.pumps.setPump p ((s.pumps.pump p).aim n)).p2.Sound s.tanks.condition s.pumps.holdRate := by
    cases p
    · exact h.p2
    · exact haimed
  have hrun : (s.pumps.setPump p ((s.pumps.pump p).aim n)).run.Sound s.tanks.condition := by
    refine ⟨?_, ?_, PumpCtl.run_circulates⟩
    · cases p <;> exact hp1
    · cases p <;> exact hp2
  have hstop : (s.pumps.setPump p ((s.pumps.pump p).aim n)).targetsZero = true →
      (s.pumps.setPump p ((s.pumps.pump p).aim n)).beginStop.Sound s.tanks.condition := fun hz => by
    refine ⟨?_, ?_, PumpCtl.beginStop_circulates hz⟩
    · cases p <;> exact hp1
    · cases p <;> exact hp2
  have hset : (s.pumps.circ ≠ .running → n = 0) →
      (s.pumps.setPump p ((s.pumps.pump p).aim n)).Sound s.tanks.condition := fun hz => by
    refine ⟨by cases p <;> exact hp1, by cases p <;> exact hp2, ?_⟩
    obtain ⟨_, _, hcirc, hstill, _⟩ := PumpCtl.setPump_rest (c := s.pumps) (p := p) (r := (s.pumps.pump p).aim n)
    refine ⟨by rw [hcirc, hstill]; exact h.circulates.still, fun hr => ?_, fun hs => ?_⟩
    · obtain ⟨h1, h2⟩ := h.circulates.targets (hcirc ▸ hr)
      have h0 := hz (hcirc ▸ hr)
      cases p
      · exact ⟨(PumpRec.aim_target ..).trans h0, h2⟩
      · exact ⟨h1, (PumpRec.aim_target ..).trans h0⟩
    · obtain ⟨h1, h2⟩ := h.circulates.setpoints (hcirc ▸ hs)
      cases p
      · exact ⟨(PumpRec.aim_setpoint ..).trans h1, h2⟩
      · exact ⟨h1, (PumpRec.aim_setpoint ..).trans h2⟩
  have hcirc : (s.setPumps (s.pumps.setPump p ((s.pumps.pump p).aim n))).pumps.circ = s.pumps.circ :=
    (PumpCtl.setPump_rest (c := s.pumps)).2.2.1
  unfold State.retarget State.targetCirculation
  split
  next hc =>
    split
    · exact leftStopped_sound _ (setPumps_sound hrun)
    next hz => exact setPumps_sound (hset fun _ => by omega)
  next hc =>
    split
    next hz => exact setPumps_sound (hstop hz)
    · exact setPumps_sound (hset fun hr => absurd (hcirc.symm.trans hc) hr)
  next hc =>
    split
    · exact setPumps_sound hrun
    next hz => exact setPumps_sound (hset fun _ => by omega)

theorem stopCirculation_sound (h : PumpsSound s) :
    PumpsSound (s.setPumps { s.pumps with p1 := s.pumps.p1.aim 0, p2 := s.pumps.p2.aim 0 }.beginStop) :=
  setPumps_sound ⟨h.p1.aim (Nat.zero_le _), h.p2.aim (Nat.zero_le _), PumpCtl.beginStop_circulates
    (targetsZero_iff.2 ⟨PumpRec.aim_target .., PumpRec.aim_target ..⟩)⟩

/-- A stroke counted on its pump (R79). -/
theorem countStroke_sound (h : PumpsSound s) : PumpsSound (s.setPumps (s.pumps.countStroke p)) := by
  refine setPumps_sound ?_
  cases p
  · exact ⟨⟨h.p1.config, h.p1.inForce, ⟨h.p1.held.target, h.p1.held.setpoint, h.p1.held.timer⟩⟩, h.p2,
      ⟨h.circulates.still, h.circulates.targets, h.circulates.setpoints⟩⟩
  · exact ⟨h.p1, ⟨h.p2.config, h.p2.inForce, ⟨h.p2.held.target, h.p2.held.setpoint, h.p2.held.timer⟩⟩,
      ⟨h.circulates.still, h.circulates.targets, h.circulates.setpoints⟩⟩

theorem fresh_sound : (PumpRec.fresh initialCondition).Sound initialCondition 20 := by
  have hvps : PumpRec.initial.vps = vpsOf PumpRec.initial.displacement PumpRec.initial.efficiency := by decide
  refine ⟨⟨?_, ?_, ?_, ?_, ?_, ?_, ?_, ?_, ?_, ?_, hvps⟩, rfl, ⟨Nat.zero_le _, Nat.zero_le _, iff_of_true rfl rfl⟩⟩
  all_goals simp [PumpRec.fresh, PumpRec.initial]

theorem initialised_sound (h : PumpsSound s) : PumpsSound s.initialised := by
  refine ⟨fresh_sound, fresh_sound, ?_, fun _ => ⟨rfl, rfl⟩, fun _ => ⟨rfl, rfl⟩⟩
  exact h.circulates.still

/-- A pump record at power-up (R90). -/
theorem poweredUp_sound {condition : Suction} {hold : Nat} {r : PumpRec} (h : r.ConfigOk) :
    ({ r with target := 0, setpoint := 0, rampTimer := none
              inForce := ceilingFor condition hold r.ceiling } : PumpRec).Sound condition hold :=
  ⟨h, rfl, ⟨Nat.zero_le _, Nat.zero_le _, iff_of_true rfl rfl⟩⟩

theorem comeUp_sound (h : PumpsSound s) : PumpsSound s.comeUp :=
  ⟨poweredUp_sound h.p1.config, poweredUp_sound h.p2.config, iff_of_true rfl rfl, fun _ => ⟨rfl, rfl⟩,
    fun hs => by cases hs⟩

theorem takeHeight_condition (reported : Int) (s : State) :
    (s.takeHeight reported).tanks.condition = s.tanks.condition := by
  have filled : ∀ (u : State) (ss : List Section) (a b : Nat), (u.addFill ss a b).tanks.condition = u.tanks.condition := by
    intro u ss a b
    unfold State.addFill
    split <;> rfl
  have holed : ∀ (u : State) (i : Fin 4) (j : Job) (h1 : Nat), (u.newHole i j h1).tanks.condition = u.tanks.condition := by
    intro u i j h1
    refine (filled _ _ _ _).trans ?_
    have hf : Frame [.jobs, .roster, .attn, .transit] u
        ((((u.setJob i { j with holeDepth := h1, bitDepth := h1 }).creditString (h1 - j.holeDepth)).extendColumn i
          h1).growForming i) :=
      ((((State.setJob_frame ..).mono (by simp)).trans ((State.creditString_frame ..).mono (by simp [rosterParts]))).trans
        ((State.extendColumn_frame ..).mono (by simp))).trans ((State.growForming_frame ..).mono (by simp [transitParts]))
    rw [show State.tanks _ = _ from hf.kept .tanks (by simp)]
  have tested : ∀ (u : State) (i : Fin 4) (j : Job) (d : Nat),
      (u.testCandidate i j d).tanks.condition = u.tanks.condition := by
    intro u i j d
    unfold State.testCandidate
    split
    · rfl
    · split
      · exact holed ..
      · rfl
  unfold State.takeHeight
  extract_lets h read old tracked
  have hread : read.tanks = s.tanks := by
    simp only [read]
    split <;> rfl
  have htracked : tracked.tanks.condition = s.tanks.condition := by rw [← hread]; rfl
  split
  · split
    · exact htracked
    · split
      · exact htracked
      · exact (tested ..).trans htracked
  · exact htracked

theorem enterOperate_pumpsSound (h : PumpsSound s) : PumpsSound s.enterOperate :=
  settled_pumpsSound.depends.frame (State.enterOperate_frame s) (by simp [operateParts]) h

theorem request_sound {code : Byte} {required : Nat} {cls : ReqClass} {body : Nat → List Word → State → Reply}
    {r : Request} (hx : takeRequest code required cls body r s = .next t)
    (hbody : ∀ l ws u, PumpsSound u → Answers PumpsSound (body l ws u)) (h : PumpsSound s) : PumpsSound t :=
  settled_pumpsSound.of_request (fun _ => enterOperate_pumpsSound) hbody hx h

theorem setAdditive_sound (i : Fin 16) (x : Additive) (h : PumpsSound s) : PumpsSound (s.setAdditive i x) :=
  (State.setAdditive_frame i x s).pumpsSound (by simp) rfl h

theorem drawAdditive_sound (a : Fin 4) (i : Fin 16) (x : Additive) (units : Nat) (k : TankId) (h : PumpsSound s) :
    PumpsSound (s.drawAdditive a i x units k) := by
  have hbilled : PumpsSound (s.drawBilled a i x units) := by
    refine settled_pumpsSound.depends.frame (State.addUnsettled_frame a _ _ _) (by simp) ?_
    unfold State.drawDown
    split
    · exact setAdditive_sound i _ h
    · exact settled_pumpsSound.raise _ _ (setAdditive_sound i _ h)
  rw [State.drawAdditive_eq]
  split
  · exact pumpsSound_waterKept.standbyAddition hbilled
  · exact hbilled

theorem takeLevel_sound (k : TankId) (reported : Int) (h : PumpsSound s) : PumpsSound (s.takeLevel k reported) := by
  have hlevelled : PumpsSound (s.levelled k reported) :=
    (State.levelled_frame k reported s).pumpsSound (by simp) (by rw [State.levelled_tanks]; cases k <;> rfl) h
  exact pumpsSound_waterKept.takeLevel k reported hlevelled (setTanks_sound rfl hlevelled)

/-- A ramp whose timer runs, so not in STOPPED. -/
theorem rampExpiry_sound (hx : execRampExpiry p s = .next t) (h : PumpsSound s) : PumpsSound t := by
  unfold execRampExpiry at hx
  split at hx <;> obtain rfl := Host.Outcome.next.inj hx
  · exact h
  next htimer =>
    have hpump := PumpCtl.Sound.pump h p
    have hrun : s.pumps.circ ≠ .stopped := fun hs => htimer (hpump.held.timer.2 (by
      obtain ⟨hs1, hs2⟩ := h.circulates.setpoints hs
      obtain ⟨ht1, ht2⟩ := h.circulates.targets (by simp [hs])
      cases p
      · exact hs1.trans ht1.symm
      · exact hs2.trans ht2.symm))
    refine setPumps_sound ?_
    cases p
    · exact ⟨hpump.ramp, h.p2, h.circulates.still, h.circulates.targets, fun hs => absurd hs hrun⟩
    · exact ⟨h.p1, hpump.ramp, h.circulates.still, h.circulates.targets, fun hs => absurd hs hrun⟩

theorem exec_sound {c : Instr} (hx : exec c s = .next t) (h : PumpsSound s) : PumpsSound t := by
  cases c
  case initialise r =>
    refine request_sound hx (fun l ws u hu => serveInitialise_answers.mono ?_) h
    rintro v ⟨_, rfl⟩
    exact initialised_sound hu
  case setPumpConfig r =>
    refine request_sound hx (fun l ws u hu => serveSetPumpConfig_answers.mono ?_) h
    rintro v ⟨p, _, _, _, _, _, hok, rfl⟩
    have hheld := (PumpCtl.Sound.pump hu p).held
    exact setPumps_sound (PumpCtl.Sound.configured hu hok ⟨hheld.target, hheld.setpoint, hheld.timer⟩ rfl rfl)
  case setCircConfig r =>
    refine request_sound hx (fun l ws u hu => serveSetCircConfig_answers.mono ?_) h
    rintro v ⟨hold, still, rfl⟩
    exact setPumps_sound (PumpCtl.rework_sound ⟨hu.p1.config, hu.p1.held⟩ ⟨hu.p2.config, hu.p2.held⟩
      ⟨hu.circulates.still, hu.circulates.targets, hu.circulates.setpoints⟩)
  case setPumpRate r =>
    refine request_sound hx (fun l ws u hu => serveSetPumpRate_answers.mono ?_) h
    rintro v (rfl | ⟨p, n, hn, _, rfl⟩)
    · exact hu
    · exact retarget_sound hn hu
  case stopCirculation r =>
    refine request_sound hx (fun l ws u hu => serveStopCirculation_answers.mono ?_) h
    rintro v (rfl | ⟨_, rfl⟩)
    · exact hu
    · exact stopCirculation_sound hu
  case clearCircTotal r =>
    refine request_sound hx (fun l ws u hu => serveClearCircTotal_answers.mono ?_) h
    rintro v rfl
    exact setPumps_sound ⟨hu.p1, hu.p2, ⟨hu.circulates.still, hu.circulates.targets, hu.circulates.setpoints⟩⟩
  case setTankConfig r =>
    refine request_sound hx (fun l ws u hu => serveSetTankConfig_answers.mono ?_) h
    rintro v ⟨k, _, _, _, _, _, _, _, rfl⟩
    have hset : ∀ x, PumpsSound (u.setTanks (u.tanks.setTank k x)) := fun x =>
      setTanks_sound (by cases k <;> rfl) hu
    exact pumpsSound_waterKept.configured k (hset _) (setTanks_sound rfl (hset _))
  case swapTanks r =>
    refine request_sound hx (fun l ws u hu => serveSwapTanks_answers.mono ?_) h
    rintro v ⟨_, rfl⟩
    exact pumpsSound_waterKept.swap _ hu
  case addWater r =>
    refine request_sound hx (fun l ws u hu => serveAddWater_answers.mono ?_) h
    rintro v ⟨k, litres, rfl⟩
    exact pumpsSound_waterKept.addWater k litres hu
  case setBalancePeriod r =>
    refine request_sound hx (fun l ws u hu => serveSetBalancePeriod_answers.mono ?_) h
    rintro v ⟨_, _, _, _, rfl⟩
    exact setTanks_sound rfl hu
  case setLossThresholds r =>
    refine request_sound hx (fun l ws u hu => serveSetLossThresholds_answers.mono ?_) h
    rintro v ⟨_, _, _, rfl⟩
    exact setTanks_sound rfl hu
  case addAdditive r =>
    refine request_sound hx (fun l ws u hu => serveAddAdditive_answers.mono ?_) h
    rintro v ⟨i, _, _, rfl⟩
    exact setAdditive_sound i _ hu
  case setAdditivePrice r =>
    refine request_sound hx (fun l ws u hu => serveSetAdditivePrice_answers.mono ?_) h
    rintro v ⟨i, _, _, _, rfl⟩
    exact setAdditive_sound i _ hu
  case receiveAdditive r =>
    refine request_sound hx (fun l ws u hu => serveReceiveAdditive_answers.mono ?_) h
    rintro v ⟨i, _, _, _, rfl⟩
    exact setAdditive_sound i _ hu
  case stockCount r =>
    refine request_sound hx (fun l ws u hu => serveStockCount_answers.mono ?_) h
    rintro v ⟨i, _, _, _, rfl⟩
    exact setAdditive_sound i _ hu
  case drawAdditive r =>
    refine request_sound hx (fun l ws u hu => serveDrawAdditive_answers.mono ?_) h
    rintro v ⟨a, i, x, units, k, _, _, rfl⟩
    exact drawAdditive_sound a i x units k hu
  case retireAdditive r =>
    refine request_sound hx (fun l ws u hu => serveRetireAdditive_answers.mono ?_) h
    rintro v ⟨i, rfl⟩
    exact (State.removeAdditive_frame i u).pumpsSound (by simp) rfl hu
  case height m =>
    refine settled_pumpsSound.of_deliver (fun st _ => ?_) hx h
    unfold takeHeightReport
    split
    · refine (State.takeHeight_frame _ _).pumpsSound (by simp [heightParts]) (takeHeight_condition _ _) ?_
      exact settled_pumpsSound.depends.frame (State.heightWakes_frame _ s) (by simp) h
    · exact settled_pumpsSound.raise _ _ h
  case level m =>
    refine settled_pumpsSound.of_deliver (fun st _ => ?_) hx h
    unfold takeLevelReport
    split
    · split
      · exact takeLevel_sound _ _ h
      · exact settled_pumpsSound.raise _ _ h
    · exact settled_pumpsSound.raise _ _ h
  case flow m =>
    refine settled_pumpsSound.of_deliver (fun st _ => ?_) hx h
    unfold takeFlowReport
    split
    · split
      · exact (State.takeFlow_balanced ..).pumpsSound h
      · exact settled_pumpsSound.raise _ _ h
    · exact settled_pumpsSound.raise _ _ h
  case strokePulse p =>
    obtain rfl := Host.Outcome.next.inj hx
    refine strokeCirculation_sound (settled_pumpsSound.depends.frame (State.wake_frame _ _) (by simp) ?_)
    exact settled_pumpsSound.depends.frame (State.advanceParcels_frame _ _) (by simp [transitParts])
      (countStroke_sound h)
  case powerUp =>
    obtain rfl := Host.Outcome.next.inj hx
    exact settled_pumpsSound.raise _ _ (comeUp_sound h)
  case secondExpiry =>
    obtain rfl := Host.Outcome.next.inj hx
    split
    · exact (State.balanceSecond_balanced _).pumpsSound
        (pumpSecond_sound (settled_pumpsSound.depends.frame (frame_mode s _) (by simp) h))
    · exact serve_keeps (P := PumpsSound) (fun f hf u hu => expiryReceiver_sound hf u hu)
        (fun _ => mem_of_mem_permuteBy) _ (settled_pumpsSound.depends.frame (frame_mode_draws s _ _) (by simp) h)
  case minuteExpiry =>
    obtain rfl := Host.Outcome.next.inj hx
    exact serve_keeps (P := PumpsSound) (fun f hf u hu => expiryReceiver_sound hf u hu)
      (fun _ hf => minuteReceivers_subset (mem_of_mem_permuteBy hf)) _
      (settled_pumpsSound.depends.frame (frame_mode_draws s _ _) (by simp) h)
  case rampExpiry p => exact rampExpiry_sound hx h
  case stillExpiry =>
    obtain rfl := Host.Outcome.next.inj hx
    split
    · exact h
    next hs => exact stillExpiry_sound (stopping_of_still h hs) h
  case balanceExpiry => exact (execBalanceExpiry_balanced hx).pumpsSound h
  case mixHoldExpiry => exact pumpsSound_waterKept.execMixHoldExpiry hx h
  all_goals
    exact settled_pumpsSound.of_untouched (fun _ => enterOperate_pumpsSound)
      (by simp [touched, reportParts, requestParts]) hx h

end Sound

/-! ### A setpoint rises only at a ramp -/

/-- No setpoint and no target rises, and the ramp steps stay. -/
def PumpCtl.Lowers (c d : PumpCtl) : Prop := ∀ p, (d.pump p).setpoint ≤ (c.pump p).setpoint
  ∧ (d.pump p).target ≤ (c.pump p).target ∧ (d.pump p).rampStep = (c.pump p).rampStep

/-- No setpoint rises. -/
def PumpCtl.NoRise (c d : PumpCtl) : Prop := ∀ p, (d.pump p).setpoint ≤ (c.pump p).setpoint

section Rise

variable {s t u : State} {c d e : PumpCtl} {p : Pump}

theorem PumpCtl.Lowers.refl (c : PumpCtl) : c.Lowers c := fun _ => ⟨le_rfl, le_rfl, rfl⟩

theorem PumpCtl.Lowers.trans (h : c.Lowers d) (g : d.Lowers e) : c.Lowers e := fun p =>
  ⟨(g p).1.trans (h p).1, (g p).2.1.trans (h p).2.1, (g p).2.2.trans (h p).2.2⟩

theorem PumpCtl.Lowers.noRise (h : c.Lowers d) : c.NoRise d := fun p => (h p).1

theorem PumpCtl.NoRise.trans (h : c.NoRise d) (g : d.NoRise e) : c.NoRise e := fun p => (g p).trans (h p)

/-- A change that leaves the pumps. -/
theorem Frame.lowers {ps : List Part} (hf : Frame ps s t) (hp : .pumps ∉ ps) : s.pumps.Lowers t.pumps := by
  have : t.pumps = s.pumps := hf.kept .pumps hp
  rw [this]
  exact .refl _

/-- One pump's record replaced by one whose setpoint is no higher. -/
theorem PumpCtl.NoRise.setPump {r : PumpRec} (h : r.setpoint ≤ (c.pump p).setpoint) : c.NoRise (c.setPump p r) :=
  fun q => by
    by_cases hpq : p = q
    · subst hpq
      rw [PumpCtl.pump_setPump_same]
      exact h
    · rw [PumpCtl.pump_setPump_other hpq]

theorem PumpCtl.rework_lowers (condition : Suction) (c : PumpCtl) : c.Lowers (c.rework condition) := by
  unfold PumpCtl.rework
  simp only
  split <;> rintro (_ | _) <;>
    exact ⟨PumpRec.withCeiling_setpoint_le .., PumpRec.withCeiling_target_le .., (PumpRec.withCeiling_config ..).rampStep⟩

theorem PumpCtl.reworkPump_noRise (condition : Suction) (p : Pump) (c : PumpCtl) :
    c.NoRise (c.reworkPump condition p) := by
  have hset : c.NoRise (c.setPump p ((c.pump p).withCeiling (ceilingFor condition c.holdRate (c.pump p).ceiling))) :=
    .setPump (PumpRec.withCeiling_setpoint_le ..)
  unfold PumpCtl.reworkPump
  simp only
  split
  · exact fun q => by cases q; exacts [hset .p1, hset .p2]
  · exact hset

theorem decideSuction_lowers (s : State) : s.pumps.Lowers s.decideSuction.pumps := by
  unfold State.decideSuction
  simp only
  split
  · exact .refl _
  · refine PumpCtl.Lowers.trans (d := s.pumps) (.refl _) ?_
    split <;> exact PumpCtl.rework_lowers _ _

/-- The suction test, the swap and the mix hold lower setpoints and targets at most. -/
theorem lowers_waterKept (c : PumpCtl) : WaterKept fun s => c.Lowers s.pumps where
  reading _ _ h := h.trans ((State.reading_frame ..).lowers (by simp [balanceParts]))
  exchange _ h := h
  reworked _ h := h
  decide s h := h.trans (decideSuction_lowers s)
  raise _ _ _ h := h
  remix _ _ h := h
  count _ _ _ _ h := h
  additions _ _ h := h
  started _ _ _ h := h

theorem retarget_noRise (p : Pump) (n : Nat) (s : State) : s.pumps.NoRise (s.retarget p n).pumps := by
  have haimed : s.pumps.NoRise (s.pumps.setPump p ((s.pumps.pump p).aim n)) :=
    .setPump (PumpRec.aim_setpoint ..).le
  have hrun : s.pumps.NoRise (s.pumps.setPump p ((s.pumps.pump p).aim n)).run :=
    fun q => by cases q; exacts [haimed .p1, haimed .p2]
  have hstop : s.pumps.NoRise (s.pumps.setPump p ((s.pumps.pump p).aim n)).beginStop :=
    fun q => by cases q; exacts [haimed .p1, haimed .p2]
  have hstarted : ∀ v : State, s.pumps.NoRise v.pumps → s.pumps.NoRise (v.leftStopped .target p).pumps := fun v hv =>
    hv.trans ((State.leftStopped_frame ..).lowers (by simp)).noRise
  unfold State.retarget State.targetCirculation
  split <;> split
  · exact hstarted _ hrun
  · exact haimed
  · exact hstop
  · exact haimed
  · exact hrun
  · exact haimed

theorem strokeCirculation_lowers (p : Pump) (s : State) : s.pumps.Lowers (s.strokeCirculation p).pumps := by
  unfold State.strokeCirculation
  split
  · exact PumpCtl.Lowers.trans (d := s.pumps.run) (fun q => by cases q <;> exact ⟨le_rfl, le_rfl, rfl⟩)
      ((State.leftStopped_frame .stroke p (s.setPumps s.pumps.run)).lowers (by simp))
  · exact .refl _
  · exact fun q => by cases q <;> exact ⟨le_rfl, le_rfl, rfl⟩

theorem countStroke_lowers (p : Pump) (c : PumpCtl) : c.Lowers (c.countStroke p) := by
  intro q
  cases p <;> cases q <;> exact ⟨le_rfl, le_rfl, rfl⟩

theorem stillExpiry_lowers (s : State) : s.pumps.Lowers s.stillExpiry.pumps := by
  unfold State.stillExpiry
  split
  · refine PumpCtl.Lowers.trans (d := { s.pumps with circ := .stopped, still := none }) ?_
      ((State.grantTest_frame _).lowers (by simp [centreParts]))
    exact fun q => by cases q <;> exact ⟨le_rfl, le_rfl, rfl⟩
  · exact fun q => by cases q <;> exact ⟨le_rfl, le_rfl, rfl⟩

theorem stillTick_lowers (s : State) : s.pumps.Lowers s.stillTick.pumps := by
  unfold State.stillTick
  split
  · exact .refl _
  · split
    · exact stillExpiry_lowers s
    · exact fun q => by cases q <;> exact ⟨le_rfl, le_rfl, rfl⟩

/-- A setpoint that a ramp may have raised, by at most the step and to the target at most (R84). -/
def Ramped (r q : PumpRec) : Prop := q.setpoint ≤ r.setpoint ∨ (q.setpoint ≤ r.setpoint + r.rampStep ∧ q.setpoint ≤ r.target)

theorem PumpRec.ramp_ramped (r : PumpRec) : Ramped r r.ramp := by
  by_cases h : r.setpoint < approach r.setpoint r.target r.rampStep
  · exact .inr (approach_rises h)
  · exact .inl (not_lt.1 h)

theorem PumpRec.tick_ramped (r : PumpRec) : Ramped r r.tick := by
  obtain ⟨_, he⟩ | ⟨_, he⟩ | ⟨n, _, he⟩ := r.tick_cases <;> rw [he]
  · exact .inl le_rfl
  · exact r.ramp_ramped
  · exact .inl le_rfl

/-- The Pump Controller's service of a second ramps each pump at most once. -/
theorem pumpSecond_ramped (s : State) (p : Pump) : Ramped (s.pumps.pump p) (s.pumpSecond.pumps.pump p) := by
  have hticked : Ramped (s.pumps.pump p)
      (({ s.pumps with p1 := s.pumps.p1.tick, p2 := s.pumps.p2.tick } : PumpCtl).pump p) := by
    cases p <;> exact PumpRec.tick_ramped _
  have lowered : ∀ d : PumpCtl, ({ s.pumps with p1 := s.pumps.p1.tick, p2 := s.pumps.p2.tick } : PumpCtl).Lowers d →
      Ramped (s.pumps.pump p) (d.pump p) := fun d hd =>
    hticked.imp (hd p).1.trans fun h => ⟨(hd p).1.trans h.1, (hd p).1.trans h.2⟩
  unfold State.pumpSecond
  simp only
  split
  · exact lowered _ fun q => by cases q <;> exact ⟨le_rfl, le_rfl, rfl⟩
  · exact lowered _ (stillTick_lowers _)

/-- A drawn order is a permutation of the receivers. -/
theorem permuteBy_perm {α : Type} : ∀ (fuel n : Nat) (xs : List α), (permuteBy fuel n xs).Perm xs
  | 0, _, xs => .refl xs
  | fuel + 1, n, xs => by
    unfold permuteBy
    split
    · exact .refl xs
    next x hx =>
      obtain ⟨hlt, rfl⟩ := List.getElem?_eq_some_iff.1 hx
      exact ((permuteBy_perm fuel _ _).cons _).trans (List.getElem_cons_eraseIdx_perm hlt)

/-- A receiver other than the Pump Controller lowers setpoints and targets at most. -/
theorem otherReceiver_lowers {f : State → State}
    (hf : f ∈ [State.balanceSecond, State.sheetMinute, State.mixMinute, State.windowMinute]) (s : State) :
    s.pumps.Lowers (f s).pumps := by
  simp only [List.mem_cons, List.not_mem_nil, or_false] at hf
  obtain rfl | rfl | rfl | rfl := hf
  · exact (State.balanceSecond_frame s).lowers (by simp [balanceParts])
  · exact (State.sheetMinute_frame s).lowers (by simp)
  · exact (lowers_waterKept s.pumps).mixMinute (.refl _)
  · exact (State.windowMinute_frame s).lowers (by simp)

theorem serve_lowers : ∀ {fs : List (State → State)},
    (∀ f ∈ fs, f ∈ [State.balanceSecond, State.sheetMinute, State.mixMinute, State.windowMinute]) → ∀ s : State,
    s.pumps.Lowers (fs.foldl (fun s f => f s) s).pumps
  | [], _, s => .refl s.pumps
  | f :: _, h, s =>
    (otherReceiver_lowers (h f (by simp)) s).trans (serve_lowers (fun g hg => h g (List.mem_cons_of_mem _ hg)) (f s))

/-- The five receivers, once each in any order, ramp each pump at most once. -/
theorem serve_ramped {fs : List (State → State)} (h : fs.Perm expiryReceivers) (s : State) (p : Pump) :
    Ramped (s.pumps.pump p) ((fs.foldl (fun s f => f s) s).pumps.pump p) := by
  obtain ⟨before, after, rfl⟩ := List.append_of_mem (h.mem_iff.2 (show State.pumpSecond ∈ expiryReceivers by
    simp [expiryReceivers]))
  have hothers := (List.perm_middle.symm.trans h).cons_inv
  have hbefore := serve_lowers (fun f hf => hothers.mem_iff.1 (List.mem_append_left _ hf)) s p
  have hafter := serve_lowers (fun f hf => hothers.mem_iff.1 (List.mem_append_right _ hf))
    (before.foldl (fun s f => f s) s).pumpSecond p
  have hramp := pumpSecond_ramped (before.foldl (fun s f => f s) s) p
  rw [List.foldl_append, List.foldl_cons]
  obtain ⟨hs, ht, hstep⟩ := hbefore
  unfold Ramped at hramp ⊢
  obtain ⟨hs', _, _⟩ := hafter
  omega

theorem execSecondExpiry_ramped (hx : execSecondExpiry s = .next t) (p : Pump) :
    Ramped (s.pumps.pump p) (t.pumps.pump p) := by
  obtain rfl := Host.Outcome.next.inj hx
  split
  · have hb := (State.balanceSecond_frame (s.setMode { s.mode with second := s.mode.second + 1 }).pumpSecond).lowers
      (by simp [balanceParts]) p
    exact (pumpSecond_ramped (s.setMode { s.mode with second := s.mode.second + 1 }) p).imp hb.1.trans fun h =>
      ⟨hb.1.trans h.1, hb.1.trans h.2⟩
  · exact serve_ramped (permuteBy_perm _ _ _) _ p

theorem initialised_noRise (s : State) : s.pumps.NoRise s.initialised.pumps := by
  intro p
  cases p <;> exact Nat.zero_le _

theorem comeUp_noRise (s : State) : s.pumps.NoRise s.comeUp.pumps := by
  intro p
  cases p <;> exact Nat.zero_le _

theorem RequestOutcome.noRise {code : Byte} {cls : ReqClass} {r : Request} {P : State → Prop}
    (ho : RequestOutcome code cls r P s t) (hP : ∀ v, P v → (s.heard code r).pumps.NoRise v.pumps) :
    s.pumps.NoRise t.pumps := by
  cases ho with
  | linkError status _ ht =>
    rw [ht]
    exact ((State.clockOut_frame _ s).lowers (by simp) |>.trans ((State.linkError_frame ..).lowers (by simp))).noRise
  | refused status _ _ ht =>
    rw [ht]
    exact ((State.heard_frame code r s).lowers (by simp)).noRise
  | accepted status payload v _ hv ht =>
    rw [ht]
    exact (((State.heard_frame code r s).lowers (by simp)).noRise.trans (hP v hv)).trans
      ((State.endWake_frame cls v).lowers (by simp [operateParts])).noRise

theorem request_noRise {code : Byte} {required : Nat} {cls : ReqClass} {body : Nat → List Word → State → Reply}
    {r : Request} (hx : takeRequest code required cls body r s = .next t)
    (hbody : ∀ l ws u, Answers (fun v => u.pumps.NoRise v.pumps) (body l ws u)) : s.pumps.NoRise t.pumps :=
  (takeRequest_outcome (fun l ws => hbody l ws _) hx).noRise fun _ h => h

theorem drawAdditive_lowers (a : Fin 4) (i : Fin 16) (x : Additive) (units : Nat) (k : TankId) (s : State) :
    s.pumps.Lowers (s.drawAdditive a i x units k).pumps := by
  have hbilled := (State.drawBilled_frame a i x units s).lowers (by simp)
  rw [State.drawAdditive_eq]
  split
  · exact (lowers_waterKept s.pumps).standbyAddition hbilled
  · exact hbilled

theorem deliver_noRise {kind : Byte} {receiver : Station → State → State} {m : Message}
    (hx : deliver kind receiver m s = .next t) (hr : ∀ st, s.pumps.NoRise (receiver st s).pumps) :
    s.pumps.NoRise t.pumps := by
  unfold deliver at hx
  split at hx
  · obtain rfl := Host.Outcome.next.inj hx
    exact hr _
  all_goals
    obtain rfl := Host.Outcome.next.inj hx
    exact ((State.raise_frame ..).lowers (by simp)).noRise

/-- A command other than a second expiry and a ramp expiry raises no setpoint. -/
theorem exec_noRise {c : Instr} (hx : exec c s = .next t) (h2 : c ≠ .secondExpiry) (hr : ∀ p, c ≠ .rampExpiry p) :
    s.pumps.NoRise t.pumps := by
  have untouched : .pumps ∉ touched c → s.pumps.NoRise t.pumps := fun hc => by
    refine ((commandsTouchOnlyTheirOwnParts c s t hx).lowers ?_).noRise
    simp only [List.mem_append, hc, false_or]
    split <;> simp [wakeEnd]
  cases c
  case secondExpiry => exact absurd rfl h2
  case rampExpiry p => exact absurd rfl (hr p)
  case initialise r =>
    refine request_noRise hx fun l ws u => serveInitialise_answers.mono ?_
    rintro v ⟨_, rfl⟩
    exact initialised_noRise _
  case setPumpConfig r =>
    refine request_noRise hx fun l ws u => serveSetPumpConfig_answers.mono ?_
    rintro v ⟨p, d, e, ceiling, step, interval, _, rfl⟩
    exact PumpCtl.NoRise.trans (d := u.pumps.setPump p ((u.pumps.pump p).configure d e ceiling step interval))
      (.setPump le_rfl) (PumpCtl.reworkPump_noRise _ _ _)
  case setCircConfig r =>
    refine request_noRise hx fun l ws u => serveSetCircConfig_answers.mono ?_
    rintro v ⟨hold, still, rfl⟩
    exact (PumpCtl.rework_lowers _ _).noRise
  case setPumpRate r =>
    refine request_noRise hx fun l ws u => serveSetPumpRate_answers.mono ?_
    rintro v (rfl | ⟨p, n, _, _, rfl⟩)
    · exact fun _ => le_rfl
    · exact retarget_noRise p n _
  case stopCirculation r =>
    refine request_noRise hx fun l ws u => serveStopCirculation_answers.mono ?_
    rintro v (rfl | ⟨_, rfl⟩)
    · exact fun _ => le_rfl
    · exact fun p => by cases p <;> exact (PumpRec.aim_setpoint ..).le
  case clearCircTotal r =>
    refine request_noRise hx fun l ws u => serveClearCircTotal_answers.mono ?_
    rintro v rfl
    exact fun p => by cases p <;> exact le_rfl
  case setTankConfig r =>
    refine request_noRise hx fun l ws u => serveSetTankConfig_answers.mono ?_
    rintro v ⟨k, _, _, _, _, _, _, _, rfl⟩
    exact ((lowers_waterKept _).configured k (.refl _) (.refl _)).noRise
  case swapTanks r =>
    refine request_noRise hx fun l ws u => serveSwapTanks_answers.mono ?_
    rintro v ⟨_, rfl⟩
    exact ((lowers_waterKept _).swap _ (.refl _)).noRise
  case addWater r =>
    refine request_noRise hx fun l ws u => serveAddWater_answers.mono ?_
    rintro v ⟨k, litres, rfl⟩
    exact ((lowers_waterKept _).addWater k litres (.refl _)).noRise
  case drawAdditive r =>
    refine request_noRise hx fun l ws u => serveDrawAdditive_answers.mono ?_
    rintro v ⟨a, i, x, units, k, _, _, rfl⟩
    exact (drawAdditive_lowers a i x units k _).noRise
  case level m =>
    refine deliver_noRise hx fun st => ?_
    have misfit : s.pumps.NoRise (s.unexpected m 14 none).pumps :=
      ((State.unexpected_frame m 14 none s).lowers (by simp)).noRise
    unfold takeLevelReport
    split
    next k _ =>
      split
      · have hlevelled := (State.levelled_frame k (levelValue m.value) s).lowers (by simp)
        exact ((lowers_waterKept s.pumps).takeLevel k (levelValue m.value) hlevelled hlevelled).noRise
      · exact misfit
    · exact misfit
  case strokePulse p =>
    obtain rfl := Host.Outcome.next.inj hx
    refine (PumpCtl.Lowers.trans ?_ (strokeCirculation_lowers _ _)).noRise
    exact (countStroke_lowers p s.pumps).trans (((State.advanceParcels_frame _ (s.setPumps (s.pumps.countStroke p))).lowers
      (by simp [transitParts])).trans ((State.wake_frame _ _).lowers (by simp)))
  case powerUp =>
    obtain rfl := Host.Outcome.next.inj hx
    exact comeUp_noRise s
  case minuteExpiry =>
    obtain rfl := Host.Outcome.next.inj hx
    refine (serve_lowers (fun f hf => ?_) _).noRise
    have := mem_of_mem_permuteBy hf
    simp only [minuteReceivers, List.mem_cons, List.not_mem_nil, or_false] at this ⊢
    exact .inr this
  case stillExpiry =>
    obtain rfl := Host.Outcome.next.inj hx
    split
    · exact fun _ => le_rfl
    · exact (stillExpiry_lowers s).noRise
  case mixHoldExpiry =>
    exact ((lowers_waterKept s.pumps).execMixHoldExpiry hx (.refl _)).noRise
  all_goals exact untouched (by simp [touched, reportParts, requestParts])

/-- A ramp expiry leaves the other pump, and moves its own as a ramp does. -/
theorem rampExpiry_ramped {q : Pump} (hx : execRampExpiry q s = .next t) (p : Pump)
    (hrise : (s.pumps.pump p).setpoint < (t.pumps.pump p).setpoint) :
    p = q ∧ Ramped (s.pumps.pump p) (t.pumps.pump p) := by
  unfold execRampExpiry at hx
  split at hx <;> obtain rfl := Host.Outcome.next.inj hx
  · exact absurd hrise (lt_irrefl _)
  · by_cases hq : q = p
    · subst hq
      refine ⟨rfl, ?_⟩
      show Ramped _ ((s.pumps.setPump q (s.pumps.pump q).ramp).pump q)
      rw [PumpCtl.pump_setPump_same]
      exact PumpRec.ramp_ramped _
    · have hsame : ((s.setPumps (s.pumps.setPump q (s.pumps.pump q).ramp)).pumps).pump p = s.pumps.pump p :=
        PumpCtl.pump_setPump_other hq
      rw [hsame] at hrise
      exact absurd hrise (lt_irrefl _)

theorem Ramped.bounds {r q : PumpRec} (h : Ramped r q) (hrise : r.setpoint < q.setpoint) :
    q.setpoint ≤ r.setpoint + r.rampStep ∧ q.setpoint ≤ r.target := h.resolve_left (not_le.2 hrise)

end Rise

/-- Settles O39: the controller sound through every command, and setpoints raised by ramps alone. -/
theorem pumpInvariant : Obligations.PumpInvariant := by
  refine ⟨fun s t hp hc hx => ?_, fun c s t p hx hrise => ?_⟩
  · exact pumpsSound_iff.1 (settled_pumpsSound.of_step (fun c u v hx hu => exec_sound hx hu) hx
      (pumpsSound_iff.2 ⟨hp, hc⟩))
  · by_cases h2 : c = .secondExpiry
    · subst h2
      exact ⟨.inl rfl, (execSecondExpiry_ramped hx p).bounds hrise⟩
    · by_cases hr : ∃ q, c = .rampExpiry q
      · obtain ⟨q, rfl⟩ := hr
        obtain ⟨rfl, hramp⟩ := rampExpiry_ramped hx p hrise
        exact ⟨.inr rfl, hramp.bounds hrise⟩
      · exact absurd (exec_noRise hx h2 (fun q hq => hr ⟨q, hq⟩) p) (not_le.2 hrise)

end Sys2Proof.Machine
end

section
/-! PROOFS. The tanks, the additive store and the Depth Tracker stay sound through every command. -/

namespace Sys2Proof.Machine

/-! ### Expiries and height reports, for any predicate -/

section

variable {qs : List Part} {P : State → Prop} {s t : State}

/-- A predicate that every receiver of a minute's expiry keeps, and that does not speak of the Mode Controller. -/
theorem Settled.of_secondExpiry (h : Settled qs P) (hq : .mode ∉ qs) (hf : ∀ f ∈ expiryReceivers, ∀ u, P u → P (f u))
    (hx : execSecondExpiry s = .next t) (hs : P s) : P t := by
  have hclock : ∀ p ∈ qs, p ∉ [Part.mode] := fun p hp hm => hq (List.mem_singleton.1 hm ▸ hp)
  obtain rfl := Host.Outcome.next.inj hx
  split
  · exact hf State.balanceSecond (by simp [expiryReceivers]) _
      (hf State.pumpSecond (by simp [expiryReceivers]) _ (h.depends.frame (frame_mode s _) hclock hs))
  · refine serve_keeps hf (fun _ => mem_of_mem_permuteBy) _ (h.depends.frame (frame_mode_draws s _ _) (fun p hp hm => ?_) hs)
    obtain rfl | rfl : p = .mode ∨ p = .draws := by simpa using hm
    · exact hq hp
    · exact h.aside _ hp (by simp)

theorem Settled.of_minuteExpiry (h : Settled qs P) (hq : .mode ∉ qs) (hf : ∀ f ∈ expiryReceivers, ∀ u, P u → P (f u))
    (hx : execMinuteExpiry s = .next t) (hs : P s) : P t := by
  obtain rfl := Host.Outcome.next.inj hx
  refine serve_keeps hf (fun _ hg => minuteReceivers_subset (mem_of_mem_permuteBy hg)) _
    (h.depends.frame (frame_mode_draws s _ _) (fun p hp hm => ?_) hs)
  obtain rfl | rfl : p = .mode ∨ p = .draws := by simpa using hm
  · exact hq hp
  · exact h.aside _ hp (by simp)

end

/-- The state in which a HEIGHT report has been clamped, with SENSOR_RANGE where the clamp moved it, and written
(R73). -/
def State.tracked (reported : Int) (s : State) : State :=
  let u := if (s.clampHeight reported : Int) = reported then s else s.raise .sensorRange (.sensor .head none reported)
  u.setDepth { u.depth with lastHeight := s.clampHeight reported }

theorem State.tracked_frame (reported : Int) (s : State) : Frame [.depth, .attn] s (s.tracked reported) := by
  unfold State.tracked
  refine Frame.trans ?_ ((frame_depth _ _).mono (by simp))
  split
  · exact Frame.rfl' _ s
  · exact (State.raise_frame ..).mono (by simp)

theorem State.tracked_depth (reported : Int) (s : State) :
    (s.tracked reported).depth = { s.depth with lastHeight := s.clampHeight reported } := by
  unfold State.tracked
  simp only
  split <;> rfl

theorem State.takeHeight_eq (reported : Int) (s : State) : s.takeHeight reported =
    if (s.tracked reported).depth.coupled then
      match (s.tracked reported).active? with
      | none => s.tracked reported
      | some i =>
        match (s.tracked reported).job? i with
        | none => s.tracked reported
        | some j => (s.tracked reported).testCandidate i j ((s.tracked reported).roster.stringLen - s.clampHeight reported)
    else s.tracked reported := rfl

/-- A height report is written, and put as a candidate to the ACTIVE job when the head is COUPLED (R73, R74). -/
theorem State.takeHeight_cases (reported : Int) (s : State) : s.takeHeight reported = s.tracked reported
    ∨ ∃ i j, ActiveIs (s.tracked reported) i j ∧ s.takeHeight reported
      = (s.tracked reported).testCandidate i j (s.roster.stringLen - s.clampHeight reported) := by
  have hroster : (s.tracked reported).roster = s.roster := (s.tracked_frame reported).kept .roster (by simp)
  rw [State.takeHeight_eq]
  split
  · split
    · exact .inl rfl
    next i hi =>
      split
      · exact .inl rfl
      next j hj => exact .inr ⟨i, j, ⟨hi, hj⟩, by rw [hroster]⟩
  · exact .inl rfl

/-! ### The tanks and the store -/

/-- The Tank and Balance Unit as its chapter gives it: tanks, standby state, balance and additive accounts (R92, R95,
R100, R105). -/
structure TankUnit.Sound (u : TankUnit) : Prop where
  a : u.a.Ok
  b : u.b.Ok
  standby : u.standby = .ready → u.mixCount = none
  remainder : u.remainder ≤ 999
  coarse : u.coarse ≤ 6
  fine : u.fine ≤ 31
  elapsed : u.reference = none → u.elapsed = 0
  store : ∀ (i : Fin 16) (x : Additive), u.additives[i].item = some x → x.Balanced

theorem tankUnit_sound_iff {s : State} : s.tanks.Sound ↔ s.TanksOk ∧ s.StoreOk := by
  constructor
  · intro ⟨ha, hb, hst, hr, hc, hf, he, hx⟩
    refine ⟨⟨ha, hb, hst, hr, hc, hf, he⟩, fun i => (Option.all_eq_true _ _).2 fun x hi => ?_⟩
    exact decide_eq_true (hx i x hi)
  · intro ⟨⟨ha, hb, hst, hr, hc, hf, he⟩, hx⟩
    exact ⟨ha, hb, hst, hr, hc, hf, he, fun i x hi => of_decide_eq_true ((Option.all_eq_true _ _).1 (hx i) x hi)⟩

section Tanks

variable {s t : State} {u : TankUnit}

theorem settled_tanks : Settled [.tanks] fun s => s.tanks.Sound :=
  ⟨fun s t h hs => by rw [show t.tanks = s.tanks from h .tanks (by simp)]; exact hs, by simp⟩

/-- A change that leaves the Tank and Balance Unit. -/
theorem Frame.tanksSound {ps : List Part} (hf : Frame ps s t) (hp : .tanks ∉ ps) (h : s.tanks.Sound) : t.tanks.Sound :=
  settled_tanks.depends.frame hf (by simpa using hp) h

theorem Balanced.sound (hb : Balanced s t) (h : s.tanks.Sound) : t.tanks.Sound := by
  have hr := hb.remainder h.remainder
  have he := hb.elapsed h.elapsed
  obtain ⟨ha, hb', hst, -, hc, hf, -, hx⟩ := h
  rw [hb.tanks] at hr he ⊢
  exact ⟨ha, hb', hst, hr, hc, hf, he, hx⟩

theorem TankUnit.Sound.tank (h : u.Sound) (k : TankId) : (u.tank k).Ok := by
  cases k
  · exact h.a
  · exact h.b

theorem TankUnit.Sound.setTank {x : Tank} (h : u.Sound) (k : TankId) (hx : x.Ok) : (u.setTank k x).Sound := by
  cases k
  · exact ⟨hx, h.b, h.standby, h.remainder, h.coarse, h.fine, h.elapsed, h.store⟩
  · exact ⟨h.a, hx, h.standby, h.remainder, h.coarse, h.fine, h.elapsed, h.store⟩

/-- A standby state worked out READY has no mix hold running (R95). -/
theorem TankUnit.workStandby_ready (h : u.workStandby = .ready) : u.mixCount = none := by
  unfold TankUnit.workStandby at h
  simp only at h
  split_ifs at h with hfill hmix
  simpa using hmix

theorem TankUnit.Sound.remixed (h : u.Sound) (n : Option Nat) : ({ u with mixCount := n } : TankUnit).reworked.Sound :=
  ⟨h.a, h.b, TankUnit.workStandby_ready, h.remainder, h.coarse, h.fine, h.elapsed, h.store⟩

theorem TankUnit.Sound.reworked (h : u.Sound) : u.reworked.Sound := h.remixed u.mixCount

/-- A swap leaves no READY standby tank and no elapsed seconds (R97). -/
theorem TankUnit.Sound.exchange (h : u.Sound) : u.exchange.Sound :=
  ⟨h.a, h.b, TankUnit.workStandby_ready, h.remainder, h.coarse, h.fine, fun _ => rfl, h.store⟩

theorem State.decideSuction_tanksSound (h : s.tanks.Sound) : s.decideSuction.tanks.Sound := by
  have hcond : ∀ c, ({ s.tanks with condition := c } : TankUnit).Sound := fun c =>
    ⟨h.a, h.b, h.standby, h.remainder, h.coarse, h.fine, h.elapsed, h.store⟩
  unfold State.decideSuction
  simp only
  split
  · exact h
  · split <;> exact hcond _

/-- The unit's own operations keep it sound. -/
theorem tanksSound_waterKept : WaterKept fun s => s.tanks.Sound where
  reading _ _ h := (State.reading_balanced ..).sound h
  exchange _ h := h.exchange
  reworked _ h := h.reworked
  decide _ h := State.decideSuction_tanksSound h
  raise _ _ _ h := h
  remix _ n h := h.remixed n
  count s n _ hn h := by
    refine ⟨h.a, h.b, fun hready => ?_, h.remainder, h.coarse, h.fine, h.elapsed, h.store⟩
    exact absurd (hn.symm.trans (h.standby hready)) (Option.some_ne_none n)
  additions _ _ h := ⟨h.a, h.b, h.standby, h.remainder, h.coarse, h.fine, h.elapsed, h.store⟩
  started _ _ _ h := ⟨h.a, h.b, h.standby, h.remainder, h.coarse, h.fine, fun _ => rfl, h.store⟩

theorem TankUnit.Sound.rework (h : s.tanks.Sound) : (s.setTanks s.tanks.reworked).tanks.Sound := h.reworked

/-- A configuration in its ranges, with the level brought down to the new depth (R93). -/
theorem Tank.configure_ok {x : Tank} {capacity mlPerMm low empty ready mixHold : Nat}
    (h : tankConfigOk capacity mlPerMm low empty ready mixHold = true) :
    (x.configure capacity mlPerMm low empty ready mixHold).Ok := by
  simp only [tankConfigOk, Bool.and_eq_true, within_iff, decide_eq_true_eq] at h
  obtain ⟨⟨⟨⟨⟨⟨hc, hc'⟩, hm, hm'⟩, hel⟩, hlc⟩, hrc⟩, hx, hx'⟩ := h
  exact ⟨hc, hc', hm, hm', hel, hlc, hrc, hx, hx', min_le_right ..⟩

/-- A level clamped to the tank's depth (R94). -/
theorem State.levelled_tanksSound (k : TankId) (reported : Int) (h : s.tanks.Sound) :
    (s.levelled k reported).tanks.Sound := by
  rw [State.levelled_tanks]
  obtain ⟨hc, hc', hm, hm', hel, hlc, hrc, hx, hx', -⟩ := h.tank k
  exact h.setTank k ⟨hc, hc', hm, hm', hel, hlc, hrc, hx, hx', min_le_right ..⟩

/-- A slot of the store written with nothing or with an account in balance. -/
theorem TankUnit.Sound.setSlot {slot : AdditiveSlot} (h : u.Sound) (i : Fin 16)
    (hx : ∀ x, slot.item = some x → x.Balanced) : ({ u with additives := u.additives.set i slot } : TankUnit).Sound := by
  refine ⟨h.a, h.b, h.standby, h.remainder, h.coarse, h.fine, h.elapsed, fun k x hk => ?_⟩
  by_cases hik : i = k
  · subst hik
    exact hx x (by simpa using hk)
  · refine h.store k x ?_
    rwa [show (u.additives.set i slot)[k] = u.additives[k] from
      Vector.getElem_set_ne _ _ fun he => hik (Fin.ext he)] at hk

theorem State.setAdditive_tanksSound {i : Fin 16} {x : Additive} (h : s.tanks.Sound) (hx : x.Balanced) :
    (s.setAdditive i x).tanks.Sound :=
  TankUnit.Sound.setSlot h i fun y hy => by
    obtain rfl := Option.some.inj hy
    exact hx

/-- A draw moves units from the stock to what was drawn, and counts what the stock does not cover as shortfall (R102). -/
theorem Additive.draw_balanced {x : Additive} (h : x.Balanced) (units : Nat) : (x.draw units).Balanced := by
  simp only [Additive.Balanced, Additive.draw, Additive.short] at h ⊢
  omega

theorem State.drawAdditive_tanksSound {a : Fin 4} {i : Fin 16} {x : Additive} (units : Nat) (k : TankId)
    (hx : s.additive? i = some x) (h : s.tanks.Sound) : (s.drawAdditive a i x units k).tanks.Sound := by
  have hset := State.setAdditive_tanksSound (i := i) h (Additive.draw_balanced (h.store i x hx) units)
  have hdrawn : (s.drawDown i x units).tanks.Sound := by
    unfold State.drawDown
    split
    · exact hset
    · exact hset
  have hbilled : (s.drawBilled a i x units).tanks.Sound :=
    (State.addUnsettled_frame a _ _ _).tanksSound (by simp) hdrawn
  rw [State.drawAdditive_eq]
  split
  · exact tanksSound_waterKept.standbyAddition hbilled
  · exact hbilled

theorem initialised_tanksSound (s : State) : s.initialised.tanks.Sound := by
  have htank : Tank.initial.Ok := by decide
  refine ⟨htank, htank, (fun h => by cases h), ?_, ?_, ?_, fun _ => rfl, fun i x hi => ?_⟩
  case refine_4 =>
    change (Vector.ofFn fun i => (s.tanks.additives[i]).initialised)[i].item = some x at hi
    rw [Fin.getElem_fin, Vector.getElem_ofFn] at hi
    unfold AdditiveSlot.initialised at hi
    split at hi
    · cases hi
    next hnone => exact absurd (Option.isSome_iff_exists.2 ⟨x, hi⟩) hnone
  all_goals simp [State.initialised, TankUnit.initialised]

theorem comeUp_tanksSound (h : s.tanks.Sound) : s.comeUp.tanks.Sound :=
  ⟨h.a, h.b, h.standby, Nat.zero_le _, h.coarse, h.fine, fun _ => rfl, h.store⟩

theorem State.addFill_tanksSound (ss : List Section) (h0 h1 : Nat) (h : s.tanks.Sound) :
    (s.addFill ss h0 h1).tanks.Sound := by
  unfold State.addFill
  split
  · exact h
  · exact ⟨h.a, h.b, h.standby, h.remainder, h.coarse, h.fine, h.elapsed, h.store⟩

/-- New hole up to its hole-fill: the jobs, the roster and the Transit List (R75). -/
def State.drilled (i : Fin 4) (j : Job) (h1 : Nat) (s : State) : State :=
  (((s.setJob i { j with holeDepth := h1, bitDepth := h1 }).creditString (h1 - j.holeDepth)).extendColumn i
    h1).growForming i

theorem State.newHole_eq (i : Fin 4) (j : Job) (h1 : Nat) (s : State) : s.newHole i j h1
    = { (s.drilled i j h1).addFill j.sections j.holeDepth h1 with drilling := true } := rfl

theorem State.drilled_frame (i : Fin 4) (j : Job) (h1 : Nat) (s : State) :
    Frame [.jobs, .roster, .attn, .transit] s (s.drilled i j h1) :=
  ((((State.setJob_frame ..).mono (by simp)).trans ((State.creditString_frame ..).mono (by simp [rosterParts]))).trans
    ((State.extendColumn_frame ..).mono (by simp))).trans ((State.growForming_frame ..).mono (by simp [transitParts]))

theorem State.testCandidate_tanksSound (i : Fin 4) (j : Job) (d : Nat) (h : s.tanks.Sound) :
    (s.testCandidate i j d).tanks.Sound := by
  unfold State.testCandidate
  split
  · exact h
  · split
    · rw [State.newHole_eq]
      exact State.addFill_tanksSound _ _ _ ((State.drilled_frame i j d s.dropHeld).tanksSound (by simp) h)
    · exact h

theorem State.takeHeight_tanksSound (reported : Int) (h : s.tanks.Sound) : (s.takeHeight reported).tanks.Sound := by
  have htracked := (s.tracked_frame reported).tanksSound (by simp) h
  obtain he | ⟨i, j, _, he⟩ := s.takeHeight_cases reported
  · rwa [he]
  · rw [he]
    exact State.testCandidate_tanksSound i j _ htracked

theorem enterOperate_tanksSound (h : s.tanks.Sound) : s.enterOperate.tanks.Sound :=
  (State.enterOperate_frame s).tanksSound (by simp [operateParts]) h

theorem request_tanksSound {code : Byte} {required : Nat} {cls : ReqClass} {body : Nat → List Word → State → Reply}
    {r : Request} (hx : takeRequest code required cls body r s = .next t)
    (hbody : ∀ l ws u, u.tanks.Sound → Answers (fun v => v.tanks.Sound) (body l ws u)) (h : s.tanks.Sound) :
    t.tanks.Sound :=
  settled_tanks.of_request (fun _ => enterOperate_tanksSound) hbody hx h

theorem expiryReceiver_tanksSound {f : State → State} (hf : f ∈ expiryReceivers) (u : State) (h : u.tanks.Sound) :
    (f u).tanks.Sound := by
  simp only [expiryReceivers, List.mem_cons, List.not_mem_nil, or_false] at hf
  obtain rfl | rfl | rfl | rfl | rfl := hf
  · exact (State.pumpSecond_frame u).tanksSound (by simp [pumpParts]) h
  · exact (State.balanceSecond_balanced u).sound h
  · exact (State.sheetMinute_frame u).tanksSound (by simp) h
  · exact tanksSound_waterKept.mixMinute h
  · exact (State.windowMinute_frame u).tanksSound (by simp) h

theorem exec_tanksSound {c : Instr} (hx : exec c s = .next t) (h : s.tanks.Sound) : t.tanks.Sound := by
  cases c
  case initialise r =>
    refine request_tanksSound hx (fun l ws u hu => serveInitialise_answers.mono ?_) h
    rintro v ⟨_, rfl⟩
    exact initialised_tanksSound u
  case setTankConfig r =>
    refine request_tanksSound hx (fun l ws u hu => serveSetTankConfig_answers.mono ?_) h
    rintro v ⟨k, _, _, _, _, _, _, hok, rfl⟩
    have hset := hu.setTank k (Tank.configure_ok (x := u.tanks.tank k) hok)
    exact tanksSound_waterKept.configured k hset hset.reworked
  case swapTanks r =>
    refine request_tanksSound hx (fun l ws u hu => serveSwapTanks_answers.mono ?_) h
    rintro v ⟨_, rfl⟩
    exact tanksSound_waterKept.swap _ hu
  case addWater r =>
    refine request_tanksSound hx (fun l ws u hu => serveAddWater_answers.mono ?_) h
    rintro v ⟨k, litres, rfl⟩
    exact tanksSound_waterKept.addWater k litres hu
  case setBalancePeriod r =>
    refine request_tanksSound hx (fun l ws u hu => serveSetBalancePeriod_answers.mono ?_) h
    rintro v ⟨_, _, hcoarse, hfine, rfl⟩
    exact ⟨hu.a, hu.b, hu.standby, hu.remainder, hcoarse, hfine, hu.elapsed, hu.store⟩
  case setLossThresholds r =>
    refine request_tanksSound hx (fun l ws u hu => serveSetLossThresholds_answers.mono ?_) h
    rintro v ⟨_, _, _, rfl⟩
    exact ⟨hu.a, hu.b, hu.standby, hu.remainder, hu.coarse, hu.fine, hu.elapsed, hu.store⟩
  case addAdditive r =>
    refine request_tanksSound hx (fun l ws u hu => serveAddAdditive_answers.mono ?_) h
    rintro v ⟨i, _, _, rfl⟩
    exact State.setAdditive_tanksSound hu rfl
  case setAdditivePrice r =>
    refine request_tanksSound hx (fun l ws u hu => serveSetAdditivePrice_answers.mono ?_) h
    rintro v ⟨i, x, _, hi, rfl⟩
    exact State.setAdditive_tanksSound hu (hu.store i x hi)
  case receiveAdditive r =>
    refine request_tanksSound hx (fun l ws u hu => serveReceiveAdditive_answers.mono ?_) h
    rintro v ⟨i, x, units, hi, rfl⟩
    have hbal : x.onHand + x.drawn = x.received + x.shortfall := hu.store i x hi
    exact State.setAdditive_tanksSound hu (show x.onHand + units + x.drawn = x.received + units + x.shortfall by omega)
  case stockCount r =>
    refine request_tanksSound hx (fun l ws u hu => serveStockCount_answers.mono ?_) h
    rintro v ⟨i, _, _, _, rfl⟩
    exact State.setAdditive_tanksSound hu rfl
  case drawAdditive r =>
    refine request_tanksSound hx (fun l ws u hu => serveDrawAdditive_answers.mono ?_) h
    rintro v ⟨a, i, x, units, k, _, hi, rfl⟩
    exact State.drawAdditive_tanksSound units k hi hu
  case retireAdditive r =>
    refine request_tanksSound hx (fun l ws u hu => serveRetireAdditive_answers.mono ?_) h
    rintro v ⟨i, rfl⟩
    exact TankUnit.Sound.setSlot hu i fun _ hn => by cases hn
  case height m =>
    refine settled_tanks.of_deliver (fun st _ => ?_) hx h
    unfold takeHeightReport
    split
    · exact State.takeHeight_tanksSound _ ((State.heightWakes_frame _ s).tanksSound (by simp) h)
    · exact h
  case level m =>
    refine settled_tanks.of_deliver (fun st _ => ?_) hx h
    unfold takeLevelReport
    split
    next k _ =>
      split
      · have hlevelled := State.levelled_tanksSound k (levelValue m.value) h
        exact tanksSound_waterKept.takeLevel k (levelValue m.value) hlevelled hlevelled.reworked
      · exact h
    · exact h
  case flow m =>
    refine settled_tanks.of_deliver (fun st _ => ?_) hx h
    unfold takeFlowReport
    split
    · split
      · exact (State.takeFlow_balanced ..).sound h
      · exact h
    · exact h
  case powerUp =>
    obtain rfl := Host.Outcome.next.inj hx
    exact settled_tanks.raise .powerUp .none (comeUp_tanksSound h)
  case secondExpiry => exact settled_tanks.of_secondExpiry (by simp) (fun f => expiryReceiver_tanksSound) hx h
  case minuteExpiry => exact settled_tanks.of_minuteExpiry (by simp) (fun f => expiryReceiver_tanksSound) hx h
  case balanceExpiry => exact (execBalanceExpiry_balanced hx).sound h
  case mixHoldExpiry => exact tanksSound_waterKept.execMixHoldExpiry hx h
  all_goals
    exact settled_tanks.of_untouched (fun _ => enterOperate_tanksSound)
      (by simp [touched, reportParts, requestParts]) hx h

end Tanks

/-! ### The Depth Tracker -/

section Tracker

variable {s t : State}

/-- The tracker in its ranges, the last height within the head stroke (R71). -/
def DepthTracker.Sound (d : DepthTracker) : Prop :=
  d.lastHeight ≤ d.headStroke ∧ 100 ≤ d.headStroke ∧ d.headStroke ≤ 3000 ∧ 5 ≤ d.jumpLimit ∧ d.jumpLimit ≤ 100

theorem settled_depth : Settled [.depth] fun s => s.depth.Sound :=
  ⟨fun s t h hs => by rw [show t.depth = s.depth from h .depth (by simp)]; exact hs, by simp⟩

theorem Frame.depthSound {ps : List Part} (hf : Frame ps s t) (hp : .depth ∉ ps) (h : s.depth.Sound) : t.depth.Sound :=
  settled_depth.depends.frame hf (by simpa using hp) h

theorem State.dropHeld_depthSound (h : s.depth.Sound) : s.dropHeld.depth.Sound := h

theorem State.suspendJob_depthSound (i : Fin 4) (h : s.depth.Sound) : (s.suspendJob i).depth.Sound :=
  (State.giveUpParcels_frame i _).depthSound (by simp [transitParts])
    (State.dropHeld_depthSound ((State.modifyJob_frame i _ s).depthSound (by simp) h))

theorem State.loseString_depthSound (a : Fin 4) (j : Job) (h : s.depth.Sound) : (s.loseString a j).depth.Sound := by
  rw [State.loseString_eq]
  refine State.dropHeld_depthSound ?_
  refine (State.modifyJob_frame a _ _).depthSound (by simp) ((State.setStringLen_frame 0 _).depthSound (by simp [rosterParts]) ?_)
  exact (State.loseBha_frame a j _).depthSound (by simp) ((State.rodsLost_frame a s).depthSound (by simp) h)

theorem State.tracked_depthSound (reported : Int) (h : s.depth.Sound) : (s.tracked reported).depth.Sound := by
  rw [State.tracked_depth]
  exact ⟨min_le_right .., h.2⟩

theorem State.testCandidate_depthSound (i : Fin 4) (j : Job) (d : Nat) (h : s.depth.Sound) :
    (s.testCandidate i j d).depth.Sound := by
  unfold State.testCandidate
  split
  · exact h
  · split
    · refine (State.newHole_frame i j d s.dropHeld).depthSound (by simp [holeParts]) h
    · exact h

theorem State.takeHeight_depthSound (reported : Int) (h : s.depth.Sound) : (s.takeHeight reported).depth.Sound := by
  have htracked := State.tracked_depthSound reported h
  obtain he | ⟨i, j, _, he⟩ := s.takeHeight_cases reported
  · rwa [he]
  · rw [he]
    exact State.testCandidate_depthSound i j _ htracked

theorem State.takeFree_depthSound (h : s.depth.Sound) : s.takeFree.depth.Sound := by
  unfold State.takeFree
  split
  · unfold State.headFreed
    simp only
    have hgranted := (State.grantTest_frame _).depthSound (by simp [centreParts])
      (s := s.setDepth { s.depth with coupled := false, held := none }) h
    split
    · exact hgranted
    · exact (State.closeForming_frame ..).depthSound (by simp [transitParts]) hgranted
  · exact h

theorem enterOperate_depthSound (h : s.depth.Sound) : s.enterOperate.depth.Sound :=
  (State.enterOperate_frame s).depthSound (by simp [operateParts]) h

theorem request_depthSound {code : Byte} {required : Nat} {cls : ReqClass} {body : Nat → List Word → State → Reply}
    {r : Request} (hx : takeRequest code required cls body r s = .next t)
    (hbody : ∀ l ws u, u.depth.Sound → Answers (fun v => v.depth.Sound) (body l ws u)) (h : s.depth.Sound) :
    t.depth.Sound :=
  settled_depth.of_request (fun _ => enterOperate_depthSound) hbody hx h

theorem exec_depthSound {c : Instr} (hx : exec c s = .next t) (h : s.depth.Sound) : t.depth.Sound := by
  cases c
  case initialise r =>
    refine request_depthSound hx (fun l ws u hu => serveInitialise_answers.mono ?_) h
    rintro v ⟨_, rfl⟩
    refine ⟨min_le_right .., ?_, ?_, ?_, ?_⟩ <;> simp [State.initialised, DepthTracker.initialised]
  case activateJob r =>
    refine request_depthSound hx (fun l ws u hu => serveActivateJob_answers.mono ?_) h
    rintro v ⟨i, j, _, _, _, rfl⟩
    exact hu
  case suspendJob r =>
    refine request_depthSound hx (fun l ws u hu => serveSuspendJob_answers.mono ?_) h
    rintro v ⟨i, j, _, hv⟩
    rw [hv]
    exact State.suspendJob_depthSound i hu
  case closeJob r =>
    refine request_depthSound hx (fun l ws u hu => serveCloseJob_answers.mono ?_) h
    rintro v ⟨i, j, ⟨_, hv⟩ | ⟨_, _, hv⟩⟩ <;> rw [hv]
    · exact (State.closeJob_frame i _).depthSound (by simp) (State.suspendJob_depthSound i hu)
    · exact (State.closeJob_frame i _).depthSound (by simp) hu
  case declareStringLost r =>
    refine request_depthSound hx (fun l ws u hu => serveDeclareStringLost_answers.mono ?_) h
    rintro v ⟨a, j, _, _, _, hv⟩
    rw [hv]
    exact State.loseString_depthSound a j hu
  case setHeadConfig r =>
    refine request_depthSound hx (fun l ws u hu => serveSetHeadConfig_answers.mono ?_) h
    rintro v ⟨stroke, jump, hs, hs', hj, hj', rfl⟩
    exact ⟨min_le_right .., hs, hs', hj, hj'⟩
  case coupled m =>
    refine settled_depth.of_deliver (fun st _ => ?_) hx h
    unfold takeCoupledReport
    split <;> exact h
  case free m =>
    refine settled_depth.of_deliver (fun st _ => ?_) hx h
    unfold takeFreeReport
    split
    · exact State.takeFree_depthSound h
    · exact h
  case height m =>
    refine settled_depth.of_deliver (fun st _ => ?_) hx h
    unfold takeHeightReport
    split
    · exact State.takeHeight_depthSound _ ((State.heightWakes_frame _ s).depthSound (by simp) h)
    · exact h
  case powerUp =>
    obtain rfl := Host.Outcome.next.inj hx
    exact h
  all_goals
    exact settled_depth.of_untouched (fun _ => enterOperate_depthSound)
      (by simp [touched, reportParts, requestParts]) hx h

end Tracker

/-- Settles O47: the tanks and the store, and the tracker, each sound through every command. -/
theorem tanksAndStoreInvariant : Obligations.TanksAndStoreInvariant := by
  intro s t ht hs hd hx
  have htanks := settled_tanks.of_step (fun c u v hx hu => exec_tanksSound hx hu) hx (tankUnit_sound_iff.2 ⟨ht, hs⟩)
  have hdepth := settled_depth.of_step (fun c u v hx hu => exec_depthSound hx hu) hx hd
  obtain ⟨htanks', hstore⟩ := tankUnit_sound_iff.1 htanks
  exact ⟨htanks', hstore, hdepth⟩

end Sys2Proof.Machine
end

section
/-! PROOFS. Job slots and their contexts: what a write of a job, of its column or its sheet leaves, and which slot is
ACTIVE. -/

namespace Sys2Proof.Machine

/-! ### Job slots -/

section JobSlots

variable {s t u : State} {i k : Fin 4} {j : Job}

@[simp] theorem State.setJob_job?_same : (s.setJob i j).job? i = some j := by
  simp [State.job?, State.setJob]

theorem State.setJob_job?_other (h : i ≠ k) : (s.setJob i j).job? k = s.job? k := by
  have hne : i.val ≠ k.val := fun he => h (Fin.ext he)
  simp [State.job?, State.setJob, Vector.getElem_set_ne _ _ hne]

@[simp] theorem State.setJob_gen : (s.setJob i j).jobs[k].gen = s.jobs[k].gen := by
  by_cases h : i = k
  · subst h
    simp [State.setJob]
  · have hne : i.val ≠ k.val := fun he => h (Fin.ext he)
    simp [State.setJob, Vector.getElem_set_ne _ _ hne]

/-- Two states agree on their jobs when they agree on every slot. -/
theorem State.jobs_ext (h : ∀ i : Fin 4, t.jobs[i] = s.jobs[i]) : t.jobs = s.jobs :=
  Vector.ext fun n hn => h ⟨n, hn⟩

theorem State.modifyJob_some {f : Job → Job} (h : s.job? i = some j) : s.modifyJob i f = s.setJob i (f j) := by
  simp [State.modifyJob, h]

theorem State.modifyJob_none {f : Job → Job} (h : s.job? i = none) : s.modifyJob i f = s := by
  simp [State.modifyJob, h]

theorem Frame.job?_eq {ps : List Part} (hf : Frame ps s t) (hp : .jobs ∉ ps) (k : Fin 4) : t.job? k = s.job? k := by
  have : t.jobs = s.jobs := hf.kept .jobs hp
  rw [State.job?, State.job?, this]

theorem Frame.active?_eq {ps : List Part} (hf : Frame ps s t) (hp : .jobs ∉ ps) : t.active? = s.active? := by
  have hactive : t.isActive = s.isActive := funext fun k => by rw [State.isActive, State.isActive, hf.job?_eq hp]
  rw [State.active?, State.active?, hactive]

/-! ### The ACTIVE job -/

theorem State.isActive_iff : s.isActive i = true ↔ ∃ j, s.job? i = some j ∧ j.phase = .active := by
  simp [State.isActive, Option.any_eq_true]

theorem State.isActive_of_active? (h : s.active? = some i) : s.isActive i = true := List.find?_some h

/-- The slot of the ACTIVE job holds one. -/
theorem State.active?_job (h : s.active? = some i) : ∃ j, ActiveIs s i j ∧ j.phase = .active := by
  obtain ⟨j, hj, hp⟩ := State.isActive_iff.1 (State.isActive_of_active? h)
  exact ⟨j, ⟨h, hj⟩, hp⟩

theorem ActiveIs.phase (h : ActiveIs s i j) : j.phase = .active := by
  obtain ⟨j', ⟨_, hj'⟩, hp⟩ := State.active?_job h.1
  obtain rfl := Option.some.inj (h.2.symm.trans hj')
  exact hp

theorem State.active?_none_iff : s.active? = none ↔ ∀ i, s.isActive i = false := by
  simp [State.active?, List.find?_eq_none]

/-- With one job ACTIVE at most, the slot that holds it. -/
theorem State.OneActive.active? (h : s.OneActive) (hi : s.isActive i = true) : s.active? = some i := by
  obtain ⟨a, ha⟩ := Option.isSome_iff_exists.1 (List.find?_isSome.2 ⟨i, List.mem_finRange i, hi⟩)
  rw [State.active?, ha, h a i (List.find?_some ha) hi]

/-- States whose slots hold ACTIVE jobs alike have the same ACTIVE job's slot. -/
theorem State.active?_congr (h : ∀ i, t.isActive i = s.isActive i) : t.active? = s.active? := by
  rw [State.active?, State.active?, funext h]

/-- Every slot's job in the same phase. -/
def State.Staged (s t : State) : Prop := ∀ i, (t.job? i).map Job.phase = (s.job? i).map Job.phase

theorem State.Staged.refl (s : State) : s.Staged s := fun _ => rfl

theorem State.Staged.trans (h : s.Staged t) (g : t.Staged u) : s.Staged u := fun i => (g i).trans (h i)

theorem State.Staged.isActive (h : s.Staged t) (i : Fin 4) : t.isActive i = s.isActive i := by
  have active (v : State) : v.isActive i = ((v.job? i).map Job.phase).any (· == .active) := by
    cases hv : v.job? i <;> simp [State.isActive, hv]
  rw [active, active, h i]

theorem State.Staged.active? (h : s.Staged t) : t.active? = s.active? := State.active?_congr h.isActive

theorem State.Staged.setJob {j' : Job} (hj : s.job? i = some j) (h : j'.phase = j.phase) : s.Staged (s.setJob i j') := by
  intro k
  by_cases hik : i = k
  · subst hik
    simp [hj, h]
  · rw [State.setJob_job?_other hik]

theorem State.Staged.modifyJob {f : Job → Job} (h : ∀ j, (f j).phase = j.phase) : s.Staged (s.modifyJob i f) := by
  cases hj : s.job? i with
  | none => rw [State.modifyJob_none hj]; exact .refl s
  | some j => rw [State.modifyJob_some hj]; exact .setJob hj (h j)

theorem Frame.staged {ps : List Part} (hf : Frame ps s t) (hp : .jobs ∉ ps := by simp) : s.Staged t := fun i => by
  rw [hf.job?_eq hp]

theorem State.Staged.foldl {α : Type} {f : State → α → State} (hf : ∀ (s : State) a, s.Staged (f s a)) :
    ∀ (l : List α) (s : State), s.Staged (l.foldl f s)
  | [], s => .refl s
  | a :: l, s => (hf s a).trans (State.Staged.foldl hf l (f s a))

/-! ### Writes of columns and sheets -/

/-- A job of which only the column and the sheet may have changed. -/
def Job.Logged (j j' : Job) : Prop := j' = { j with column := j'.column, sheet := j'.sheet }

theorem Job.Logged.refl (j : Job) : j.Logged j := rfl

theorem Job.Logged.trans {j j' j'' : Job} (h : j.Logged j') (g : j'.Logged j'') : j.Logged j'' := by
  unfold Job.Logged at *
  rw [g, h]

/-- The job table but for columns and sheets. -/
structure State.Logged (s t : State) : Prop where
  gen : ∀ i : Fin 4, t.jobs[i].gen = s.jobs[i].gen
  some : ∀ i j, s.job? i = some j → ∃ j', t.job? i = some j' ∧ j.Logged j'
  none : ∀ i, s.job? i = none → t.job? i = none

theorem State.Logged.refl (s : State) : s.Logged s := ⟨fun _ => rfl, fun _ j h => ⟨j, h, .refl j⟩, fun _ h => h⟩

theorem State.Logged.trans (h : s.Logged t) (g : t.Logged u) : s.Logged u where
  gen i := (g.gen i).trans (h.gen i)
  some i j hj := by
    obtain ⟨j', hj', hl⟩ := h.some i j hj
    obtain ⟨j'', hj'', hl'⟩ := g.some i j' hj'
    exact ⟨j'', hj'', hl.trans hl'⟩
  none i hj := g.none i (h.none i hj)

/-- A job of a state, as the earlier state held it. -/
theorem State.Logged.back {j' : Job} (h : s.Logged t) (hj : t.job? i = Option.some j') :
    ∃ j, s.job? i = Option.some j ∧ j.Logged j' := by
  cases hs : s.job? i with
  | none => exact absurd (hj.symm.trans (h.none i hs)) (by simp)
  | some j =>
    obtain ⟨j'', hj'', hl⟩ := h.some i j hs
    obtain rfl := Option.some.inj (hj.symm.trans hj'')
    exact ⟨j, rfl, hl⟩

theorem State.Logged.isActive (h : s.Logged t) (i : Fin 4) : t.isActive i = s.isActive i := by
  cases hs : s.job? i with
  | none => rw [State.isActive, State.isActive, hs, h.none i hs]
  | some j =>
    obtain ⟨j', hj', hl⟩ := h.some i j hs
    rw [State.isActive, State.isActive, hs, hj', hl]
    rfl

theorem State.Logged.active? (h : s.Logged t) : t.active? = s.active? := State.active?_congr h.isActive

theorem Frame.logged {ps : List Part} (hf : Frame ps s t) (hp : .jobs ∉ ps := by simp) : s.Logged t := by
  have hj : t.jobs = s.jobs := hf.kept .jobs hp
  exact ⟨fun i => by rw [hj], fun i j h => ⟨j, by rw [State.job?, hj]; exact h, .refl j⟩,
    fun i h => by rw [State.job?, hj]; exact h⟩

theorem State.Logged.setJob {j' : Job} (hj : s.job? i = Option.some j) (h : j.Logged j') : s.Logged (s.setJob i j') where
  gen _ := State.setJob_gen
  some k x hx := by
    by_cases hik : i = k
    · subst hik
      obtain rfl := Option.some.inj (hj.symm.trans hx)
      exact ⟨j', State.setJob_job?_same, h⟩
    · exact ⟨x, by rw [State.setJob_job?_other hik]; exact hx, .refl x⟩
  none k hx := by
    by_cases hik : i = k
    · subst hik
      exact absurd (hj.symm.trans hx) (by simp)
    · rw [State.setJob_job?_other hik]
      exact hx

theorem State.Logged.modifyJob {f : Job → Job} (h : ∀ j : Job, j.Logged (f j)) : s.Logged (s.modifyJob i f) := by
  cases hj : s.job? i with
  | none => rw [State.modifyJob_none hj]; exact .refl s
  | some j => rw [State.modifyJob_some hj]; exact .setJob hj (h j)

theorem State.Logged.foldl {α : Type} {f : State → α → State} (hf : ∀ (s : State) a, s.Logged (f s a)) :
    ∀ (l : List α) (s : State), s.Logged (l.foldl f s)
  | [], s => .refl s
  | a :: l, s => (hf s a).trans (State.Logged.foldl hf l (f s a))

theorem State.raise_logged (k : AttnKind) (d : Detail) (s : State) : s.Logged (s.raise k d) :=
  (State.raise_frame k d s).logged

theorem State.addUnsettled_logged (i : Fin 4) (line : Fin 40) (q : Int) (s : State) :
    s.Logged (s.addUnsettled i line q) := by
  unfold State.addUnsettled
  split
  · exact .refl s
  next j hj =>
    have hset : ∀ sheet, s.Logged (s.setJob i { j with sheet := sheet }) := fun sheet => .setJob hj rfl
    simp only
    split
    · exact hset _
    · exact (hset _).trans (State.raise_logged ..)

theorem State.setColumn_logged (i : Fin 4) (col : List Interval) (s : State) : s.Logged (s.setColumn i col) :=
  .modifyJob fun _ => rfl

theorem State.accrueFootage_logged (i : Fin 4) (a b : Nat) (c : RockClass) (s : State) :
    s.Logged (s.accrueFootage i a b c) := by
  unfold State.accrueFootage
  split
  · exact .refl s
  · exact .foldl (fun s _ => State.addUnsettled_logged ..) _ s

theorem State.moveFootage_logged (i : Fin 4) (a b : Nat) (old new : RockClass) (s : State) :
    s.Logged (s.moveFootage i a b old new) := by
  unfold State.moveFootage
  split
  · exact .refl s
  · exact .foldl (fun s _ => (State.addUnsettled_logged ..).trans (State.addUnsettled_logged ..)) _ s

theorem State.moveChanges_logged (i : Fin 4) (changes : List ClassChange) (s : State) :
    s.Logged (s.moveChanges i changes) :=
  State.Logged.foldl (f := fun s (c : ClassChange) => s.moveFootage i c.top c.bottom c.old c.new)
    (fun _ _ => State.moveFootage_logged ..) changes s

theorem State.extendColumn_logged (i : Fin 4) (h1 : Nat) (s : State) : s.Logged (s.extendColumn i h1) := by
  have wrote : ∀ col a b c, s.Logged ((s.setColumn i col).accrueFootage i a b c) := fun col a b c =>
    (State.setColumn_logged ..).trans (State.accrueFootage_logged ..)
  unfold State.extendColumn
  split
  · exact .refl s
  · split
    · exact .refl s
    · simp only
      split_ifs
      · exact .refl s
      · exact wrote ..
      · exact wrote ..
      · split
        · exact wrote ..
        · exact ((State.setColumn_logged ..).trans (State.raise_logged ..)).trans (State.accrueFootage_logged ..)

theorem State.markRange_logged (i : Fin 4) (status : CutStatus) (a b : Nat) (s : State) :
    s.Logged (s.markRange i status a b) := by
  have hext := State.extendColumn_logged i b s
  unfold State.markRange
  simp only
  split
  · exact hext
  · split
    · exact hext.trans (State.setColumn_logged ..)
    · exact (hext.trans (State.setColumn_logged ..)).trans (State.raise_logged ..)

theorem State.markParcels_logged (i : Fin 4) (status : CutStatus) (ps : List Parcel) (s : State) :
    s.Logged (s.markParcels i status ps) :=
  State.Logged.foldl (f := fun s (p : Parcel) => s.markRange i status p.top p.bottom)
    (fun _ _ => State.markRange_logged ..) ps s

theorem State.bindRange_logged {c : RangeChange} {a b : Nat} (h : s.bindRange i c a b = some t) : s.Logged t := by
  unfold State.bindRange at h
  obtain ⟨j, hj, h⟩ := Option.bind_eq_some_iff.1 h
  obtain ⟨r, _, rfl⟩ := Option.map_eq_some_iff.1 h
  exact (State.setColumn_logged ..).trans (State.moveChanges_logged ..)

theorem State.markBit_logged (f : Interval → Interval) (s : State) : s.Logged (s.markBit f) := by
  unfold State.markBit
  split
  · exact .refl s
  · exact .modifyJob fun _ => rfl

/-- A change of the Transit List alone, as far as the job table goes. -/
theorem State.Logged.setParcels (ps : List Parcel) (s : State) : s.Logged (s.setParcels ps) :=
  (frame_transit s _).logged

/-- The birth counter risen and the forming top at the hole depth (R128). -/
def State.numbered (j : Job) (s : State) : State :=
  { s with transit := { s.transit with births := wrap32 (s.transit.births + 1), formingTop := Option.some j.holeDepth } }

theorem State.numbered_logged (j : Job) (s : State) : s.Logged (s.numbered j) := (frame_transit s _).logged

theorem State.birth_eq {top : Nat} (hj : s.job? i = Option.some j) (ht : s.transit.formingTop = Option.some top) :
    s.birth i =
      if s.tanks.lossClass = .total then (s.numbered j).markRange i .noReturns top j.holeDepth
      else if parcelLimit ≤ s.transit.parcels.length then
        (s.numbered j).mergeBirth j j.holeDepth (wrap32 (s.transit.births + 1))
      else
        (s.numbered j).setParcels (s.transit.parcels ++
          [{ ordinal := wrap32 (s.transit.births + 1), top := top, bottom := j.holeDepth, lag := s.lag j j.holeDepth
             advanced := 0, arrived := false, merged := false }]) := by
  simp only [State.birth, hj, ht]
  rfl

theorem State.birth_of_none (h : s.job? i = Option.none ∨ s.transit.formingTop = Option.none) : s.birth i = s := by
  obtain h | h := h
  · simp [State.birth, h]
  · cases hj : s.job? i <;> simp [State.birth, h, hj]

theorem State.mergeBirth_logged (j : Job) (bottom ordinal : Nat) (s : State) : s.Logged (s.mergeBirth j bottom ordinal) := by
  unfold State.mergeBirth
  split
  · exact .refl _
  · exact (State.Logged.setParcels ..).trans (State.raise_logged ..)

theorem State.birth_logged (i : Fin 4) (s : State) : s.Logged (s.birth i) := by
  cases hj : s.job? i with
  | none => rw [State.birth_of_none (.inl hj)]; exact .refl s
  | some j =>
    cases ht : s.transit.formingTop with
    | none => rw [State.birth_of_none (.inr ht)]; exact .refl s
    | some top =>
      rw [State.birth_eq hj ht]
      split_ifs
      · exact (State.numbered_logged j s).trans (State.markRange_logged ..)
      · exact (State.numbered_logged j s).trans (State.mergeBirth_logged ..)
      · exact (State.numbered_logged j s).trans (State.Logged.setParcels ..)

theorem State.dropOldest_logged (i : Fin 4) (s : State) : s.Logged (s.dropOldest i) := by
  unfold State.dropOldest
  split
  · exact .refl s
  · split
    · exact .refl s
    · exact ((State.Logged.setParcels ..).trans (State.markRange_logged ..)).trans (State.raise_logged ..)

theorem State.arrive_logged (i : Fin 4) (p : Parcel) (s : State) : s.Logged (s.arrive i p) :=
  ((State.dropOldest_logged i s).trans (State.Logged.setParcels ..)).trans (State.raise_logged ..)

theorem State.Logged.staged (h : s.Logged t) : s.Staged t := fun i => by
  cases hs : s.job? i with
  | none => rw [h.none i hs]
  | some j =>
    obtain ⟨j', hj', hl⟩ := h.some i j hs
    rw [hj', hl]
    rfl

theorem State.settleLine_staged (i : Fin 4) (line : Fin 40) (s : State) : s.Staged (s.settleLine i line) := by
  unfold State.settleLine
  split
  · exact .refl s
  next j hj =>
    have hset : ∀ sheet, s.Staged (s.setJob i { j with sheet := sheet }) := fun sheet => .setJob hj rfl
    simp only
    split
    · exact .refl s
    · split
      · exact (hset _).trans (State.raise_logged ..).staged
      · exact hset _

theorem State.settle_staged (i : Fin 4) (s : State) : s.Staged (s.settle i) := by
  unfold State.settle
  exact (State.Staged.foldl (fun s line => State.settleLine_staged i line s) _ s).trans (.modifyJob fun _ => rfl)

theorem State.giveUpParcels_logged (i : Fin 4) (s : State) : s.Logged (s.giveUpParcels i) := by
  have hmarked : s.Logged ((s.setParcels []).markParcels i .notSampled s.transit.parcels) :=
    (State.Logged.setParcels ..).trans (State.markParcels_logged ..)
  unfold State.giveUpParcels
  extract_lets marked formed _
  have hformed : s.Logged formed := by
    simp only [formed]
    split
    · split
      · exact hmarked.trans (State.markRange_logged ..)
      · exact hmarked
    · exact hmarked
  exact hformed.trans (frame_transit formed _).logged

/-- The job a suspension is of is ACTIVE no more (R19). -/
theorem State.suspendJob_inactive (i : Fin 4) (s : State) : (s.suspendJob i).isActive i = false := by
  rw [State.suspendJob, (State.giveUpParcels_logged i _).isActive, (State.dropHeld_frame _).logged.isActive]
  cases hj : s.job? i with
  | none => simp [State.modifyJob_none hj, State.isActive, hj]
  | some j => simp [State.modifyJob_some hj, State.isActive]

theorem State.rodsLost_staged (a : Fin 4) (s : State) : s.Staged (s.rodsLost a) :=
  (Frame.foldl _ (fun s i => State.loseRod_frame s i) _ s).staged.trans
    (.foldl (f := fun s t => s.addUnsettled a (rodsLostLine t) 1) (fun _ _ => (State.addUnsettled_logged ..).staged) _ _)

theorem State.loseBha_staged (a : Fin 4) (j : Job) (s : State) : s.Staged (s.loseBha a j) := by
  unfold State.loseBha
  split
  · refine State.Staged.trans ?_ (State.markGeometry_frame true _).staged
    refine State.Staged.trans ?_ (State.addUnsettled_logged a bhaLostLine 1 _).staged
    exact .modifyJob fun _ => rfl
  · exact .refl s

end JobSlots

end Sys2Proof.Machine
end

section
/-! PROOFS. Invariants of the job table, the columns, the sheets and the Transit List: what an invariant has to be kept by
for every command to keep it. -/

namespace Sys2Proof.Machine

/-! ### The log of cuttings, losses and minutes -/

/-- A mark that leaves an interval's range, class and minutes (R155, R156). -/
def KeepsRange (f : Interval → Interval) : Prop :=
  ∀ iv, (f iv).top = iv.top ∧ (f iv).bottom = iv.bottom ∧ (f iv).cls = iv.cls ∧ (f iv).minutes = iv.minutes

/-- A predicate of the jobs and the Transit List that is kept by the operations through which commands other than the Job
Table's own change them: billing, minutes, marks, births, arrivals and the loss of parcels. -/
structure LogKept (P : State → Prop) : Prop where
  depends : DependsOn [.jobs, .transit] P
  timing : ∀ s step line, P s → P { s with transit := { s.transit with step := step, surfaceLine := line } }
  bill : ∀ s i line q, 12 ≤ line.val → P s → P (s.addUnsettled i line q)
  credit : ∀ s i, P s → P (s.modifyJob i fun j => { j with column := creditMinute j.column })
  flag : ∀ s i j d f, s.job? i = some j → KeepsRange f → P s → P (s.setColumn i (markContaining d f j.column))
  lose : ∀ s i status qs ps, s.active? = some i → qs.Sublist s.transit.parcels → ps ⊆ s.transit.parcels → P s →
    P ((s.setParcels qs).markParcels i status ps)
  birth : ∀ s i, s.active? = some i → 1 ≤ s.formingLength i → P s → P (s.birth i)
  relist : ∀ s (f : Parcel → Parcel), (∀ p, (f p).top = p.top ∧ (f p).bottom = p.bottom ∧ (f p).arrived = p.arrived) →
    P s → P (s.setParcels (s.transit.parcels.map f))
  arrive : ∀ s i p, s.active? = some i → P s → P (s.arrive i p)

section Log

variable {P : State → Prop} {s t : State}

theorem LogKept.settled (h : LogKept P) : Settled [.jobs, .transit] P := ⟨h.depends, by simp⟩

/-- A change of neither the jobs nor the Transit List. -/
theorem LogKept.aside (h : LogKept P) {ps : List Part} (hf : Frame ps s t) (hj : .jobs ∉ ps := by simp)
    (ht : .transit ∉ ps := by simp) (hs : P s) : P t :=
  h.depends.frame hf (by simp [hj, ht]) hs

theorem LogKept.raise (h : LogKept P) (k : AttnKind) (d : Detail) (hs : P s) : P (s.raise k d) :=
  h.settled.raise k d hs

theorem LogKept.setTanks (h : LogKept P) (u : TankUnit) (hs : P s) : P (s.setTanks u) := h.aside (frame_tanks s u) (hs := hs)

theorem LogKept.setMode (h : LogKept P) (m : ModeCtl) (hs : P s) : P (s.setMode m) := h.aside (frame_mode s m) (hs := hs)

/-- The arrival of a parcel, from the loss of the oldest and the oldest in transit marked ARRIVED. -/
theorem LogKept.arrive_of (hd : DependsOn [.jobs, .transit] P)
    (hl : ∀ s i status qs ps, s.active? = some i → qs.Sublist s.transit.parcels → ps ⊆ s.transit.parcels → P s →
      P ((s.setParcels qs).markParcels i status ps))
    (ha : ∀ s, P s → P (s.setParcels (arriveFirst s.transit.parcels))) (s : State) (i : Fin 4) (p : Parcel)
    (hi : s.active? = some i) (hs : P s) : P (s.arrive i p) := by
  have hsettled : Settled [.jobs, .transit] P := ⟨hd, by simp⟩
  have hdropped : P (s.dropOldest i) := by
    unfold State.dropOldest
    split
    · exact hs
    · split
      · exact hs
      next q rest hq =>
        exact hsettled.raise _ _ (hl s i .notSampled rest [q] hi (by simp [hq]) (by simp [hq]) hs)
  exact hsettled.raise _ _ (ha _ hdropped)

theorem LogKept.arrivalTest (h : LogKept P) (i : Fin 4) : ∀ (n : Nat) (s : State), s.active? = some i → P s →
    P (State.arrivalTest i n s)
  | 0, _, _, hs => hs
  | n + 1, s, hi, hs => by
    unfold State.arrivalTest
    split
    · exact hs
    next p _ =>
      split
      · exact LogKept.arrivalTest h i n _ ((State.arrive_logged i p s).active?.trans hi) (h.arrive s i p hi hs)
      · exact hs

theorem LogKept.advanceParcels (h : LogKept P) (vps : Nat) (hs : P s) : P (s.advanceParcels vps) := by
  unfold State.advanceParcels
  split
  · exact hs
  next i hi =>
    refine h.arrivalTest i _ _ ((State.Logged.setParcels _ s).active?.trans hi) (h.relist s _ (fun p => ?_) hs)
    split
    · exact ⟨rfl, rfl, rfl⟩
    · exact ⟨rfl, rfl, rfl⟩

theorem LogKept.recompute (h : LogKept P) (hs : P s) : P s.recompute := by
  unfold State.recompute
  split
  · exact hs
  next i hi =>
    split
    · exact hs
    · refine h.arrivalTest i _ _ ((State.Logged.setParcels _ s).active?.trans hi) (h.relist s _ (fun p => ?_) hs)
      split
      · exact ⟨rfl, rfl, rfl⟩
      · exact ⟨rfl, rfl, rfl⟩

theorem LogKept.enterOperate (h : LogKept P) (hs : P s) : P s.enterOperate := by
  unfold State.enterOperate
  simp only
  split
  · exact h.recompute (h.setMode _ (h.setMode _ hs))
  · exact h.setMode _ hs

theorem LogKept.closeForming (h : LogKept P) {i : Fin 4} (hi : s.active? = some i) (hs : P s) : P (s.closeForming i) := by
  unfold State.closeForming
  split
  next hlong => exact h.birth s i hi hlong hs
  · exact hs

theorem LogKept.growForming (h : LogKept P) {i : Fin 4} (hi : s.active? = some i) (hs : P s) : P (s.growForming i) := by
  unfold State.growForming
  split
  next hlong => exact h.birth s i hi hlong.1 hs
  · exact hs

theorem LogKept.wipe (h : LogKept P) (hs : P s) : P s.wipe := by
  unfold State.wipe
  split
  · exact hs
  next i hi => exact h.lose s i .noReturns _ _ hi List.filter_sublist (List.filter_subset_self _) hs

theorem LogKept.markBit (h : LogKept P) {f : Interval → Interval} (hf : KeepsRange f) (hs : P s) : P (s.markBit f) := by
  unfold State.markBit
  split
  · exact hs
  next i hi =>
    obtain ⟨j, ⟨_, hj⟩, _⟩ := State.active?_job hi
    rw [State.modifyJob_some hj, ← State.modifyJob_some (f := fun x => { x with
      column := markContaining j.bitDepth f j.column }) hj]
    exact h.flag s i j j.bitDepth f hj hf hs

theorem lossMark_keepsRange {old new : LossClass} {y : Nat} {f : Interval → Interval} (h : lossMark old new y = some f) :
    KeepsRange f := by
  cases new
  case severe | total =>
    simp only [lossMark] at h
    split_ifs at h
    obtain rfl := Option.some.inj h
    exact fun _ => ⟨rfl, rfl, rfl, rfl⟩
  case gain =>
    obtain rfl := Option.some.inj h
    exact fun _ => ⟨rfl, rfl, rfl, rfl⟩
  case normal | seepage => cases h

theorem LogKept.changeLoss (h : LogKept P) (c : LossClass) (y : Nat) (hs : P s) : P (s.changeLoss c y) := by
  unfold State.changeLoss
  split
  · exact hs
  · extract_lets old _ raised wiped
    have hraised : P raised := h.raise _ _ (h.setTanks _ hs)
    have hwiped : P wiped := by
      simp only [wiped]
      split
      · exact h.wipe hraised
      · exact hraised
    split
    · exact hwiped
    next f hf => exact h.markBit (lossMark_keepsRange hf) hwiped

theorem LogKept.reading (h : LogKept P) (measured : Nat) (hs : P s) : P (s.reading measured) := by
  have classified : ∀ (u : State) (loss : Int), P u → P (u.classifyReading loss) := by
    intro u loss hu
    unfold State.classifyReading
    split
    · exact hu
    · exact h.changeLoss _ _ hu
  have billed : ∀ (u : State) (loss : Int), P u → P (u.billLoss loss) := by
    intro u loss hu
    unfold State.billLoss
    split
    · exact hu
    · simp only
      split
      · exact h.setTanks _ hu
      · exact h.bill _ _ _ _ (by decide) (h.setTanks _ hu)
  unfold State.reading
  split
  · exact hs
  · exact h.setTanks _ (billed _ _ (classified _ _ (h.setTanks _ hs)))

theorem LogKept.decideSuction (h : LogKept P) (hs : P s) : P s.decideSuction := by
  unfold State.decideSuction
  simp only
  split
  · exact hs
  · refine h.aside (frame_pumps _ _) (hs := ?_)
    split
    · exact h.setTanks _ hs
    · exact h.raise _ _ (h.setTanks _ hs)
    · exact h.raise _ _ (h.setTanks _ hs)

/-- The tanks' own operations keep the predicate. -/
theorem LogKept.waterKept (h : LogKept P) : WaterKept P where
  reading _ measured hs := h.reading measured hs
  exchange _ hs := h.setTanks _ hs
  reworked _ hs := h.setTanks _ hs
  decide _ hs := h.decideSuction hs
  raise _ k d hs := h.raise k d hs
  remix _ _ hs := h.setTanks _ hs
  count _ _ _ _ hs := h.setTanks _ hs
  additions _ _ hs := h.setTanks _ hs
  started _ _ _ hs := h.setTanks _ hs

theorem LogKept.balanceSecond (h : LogKept P) (hs : P s) : P s.balanceSecond := by
  unfold State.balanceSecond
  split
  · exact hs
  · simp only
    split
    · exact h.reading _ (h.setTanks _ hs)
    · exact h.setTanks _ hs

theorem LogKept.takeFlow (h : LogKept P) (v : Flow) (hs : P s) : P (s.takeFlow v) := by
  unfold State.takeFlow
  cases v
  case noFlow =>
    simp only
    split
    · exact h.changeLoss _ _ (h.setTanks _ hs)
    · exact h.setTanks _ hs
  case flow =>
    simp only
    split
    · exact h.changeLoss _ _ (h.setTanks _ hs)
    · exact h.setTanks _ hs

theorem Activity.line_ge (c : Activity) : 12 ≤ c.line.val := by cases c <;> decide

theorem LogKept.sheetMinute (h : LogKept P) (hs : P s) : P s.sheetMinute := by
  unfold State.sheetMinute
  extract_lets billed _
  have hbilled : P billed := by
    simp only [billed]
    split
    · exact hs
    · split
      · exact hs
      · split
        · exact h.credit _ _ (h.bill _ _ _ _ (Activity.line_ge _) hs)
        · exact h.bill _ _ _ _ (Activity.line_ge _) hs
  exact h.aside (ps := [.drilling, .engine]) ⟨fun p hp => by cases p <;> first | rfl | simp at hp⟩ (hs := hbilled)

theorem LogKept.expiryReceiver (h : LogKept P) {f : State → State} (hf : f ∈ expiryReceivers) (u : State) (hu : P u) :
    P (f u) := by
  simp only [expiryReceivers, List.mem_cons, List.not_mem_nil, or_false] at hf
  obtain rfl | rfl | rfl | rfl | rfl := hf
  · exact h.aside (State.pumpSecond_frame u) (by simp [pumpParts]) (by simp [pumpParts]) hu
  · exact h.balanceSecond hu
  · exact h.sheetMinute hu
  · exact h.waterKept.mixMinute hu
  · exact h.aside (State.windowMinute_frame u) (hs := hu)

theorem LogKept.drawAdditive (h : LogKept P) (a : Fin 4) (i : Fin 16) (x : Additive) (units : Nat) (k : TankId) (hs : P s) :
    P (s.drawAdditive a i x units k) := by
  have hbilled : P (s.drawBilled a i x units) :=
    h.bill _ _ _ _ (by simp [consumableLine]; omega) (h.aside (State.drawDown_frame i x units s) (hs := hs))
  rw [State.drawAdditive_eq]
  split
  · exact h.waterKept.standbyAddition hbilled
  · exact hbilled

theorem LogKept.takeFree (h : LogKept P) (hs : P s) : P s.takeFree := by
  unfold State.takeFree
  split
  · unfold State.headFreed
    have hgranted : P (s.setDepth { s.depth with coupled := false, held := none }).grantTest :=
      h.aside (State.grantTest_frame _) (by simp [centreParts]) (by simp [centreParts]) (h.aside (frame_depth s _) (hs := hs))
    simp only
    split
    · exact hgranted
    next i hi => exact h.closeForming hi hgranted
  · exact hs

/-- A request whose block keeps the predicate. -/
theorem LogKept.of_request (h : LogKept P) {code : Byte} {required : Nat} {cls : ReqClass}
    {body : Nat → List Word → State → Reply} {r : Request} (hx : takeRequest code required cls body r s = .next t)
    (hbody : ∀ l ws u, P u → Answers P (body l ws u)) (hs : P s) : P t :=
  h.settled.of_request (fun _ => h.enterOperate) hbody hx hs

theorem execBalanceExpiry_cases (hx : execBalanceExpiry s = .next t) :
    t = s ∨ t = (s.setTanks s.tanks.elapse).reading s.tanks.activeTank.volume := by
  unfold execBalanceExpiry at hx
  split at hx <;> obtain rfl := Host.Outcome.next.inj hx
  · exact .inl rfl
  · exact .inr rfl

/-- The commands of the Job Table and those that edit a job's records or end its string. -/
def editsJobs : Instr → Bool
  | .initialise _ | .openJob _ | .activateJob _ | .suspendJob _ | .closeJob _ | .releaseJob _ | .setBha _ | .setRate _
  | .setRateBands _ | .setHoleSection _ | .clearHoleSection _ | .declareDown _ | .clearDown _ | .declareStringLost _
  | .takeSample _ | .rejectSample _ | .formationChange _ | .reviseInterval _ | .noteWater _ | .settle _ | .bhaSet _
  | .bhaClear _ | .height _ => true
  | _ => false

/-- Every other command keeps the predicate. -/
theorem LogKept.exec (h : LogKept P) {c : Instr} (hc : editsJobs c = false) (hx : exec c s = .next t) (hs : P s) : P t := by
  cases c
  case initialise | openJob | activateJob | suspendJob | closeJob | releaseJob | setBha | setRate | setRateBands
      | setHoleSection | clearHoleSection | declareDown | clearDown | declareStringLost | takeSample | rejectSample
      | formationChange | reviseInterval | noteWater | settle | bhaSet | bhaClear | height => cases hc
  case setMode r =>
    refine h.of_request hx (fun l ws u hu => serveSetMode_answers.mono ?_) hs
    rintro v (rfl | rfl | ⟨m, _, rfl⟩)
    · exact hu
    · exact h.enterOperate hu
    · exact h.setMode _ hu
  case setTankConfig r =>
    refine h.of_request hx (fun l ws u hu => serveSetTankConfig_answers.mono ?_) hs
    rintro v ⟨k, _, _, _, _, _, _, _, rfl⟩
    exact h.waterKept.configured k (h.setTanks _ hu) (h.setTanks _ (h.setTanks _ hu))
  case swapTanks r =>
    refine h.of_request hx (fun l ws u hu => serveSwapTanks_answers.mono ?_) hs
    rintro v ⟨_, rfl⟩
    exact h.waterKept.swap _ hu
  case addWater r =>
    refine h.of_request hx (fun l ws u hu => serveAddWater_answers.mono ?_) hs
    rintro v ⟨k, litres, rfl⟩
    exact h.waterKept.addWater k litres hu
  case drawAdditive r =>
    refine h.of_request hx (fun l ws u hu => serveDrawAdditive_answers.mono ?_) hs
    rintro v ⟨a, i, x, units, k, _, _, rfl⟩
    exact h.drawAdditive a i x units k hu
  case setSurfaceLine r =>
    refine h.of_request hx (fun l ws u hu => serveSetSurfaceLine_answers.mono ?_) hs
    rintro v ⟨n, rfl⟩
    exact h.timing u u.transit.step n hu
  case setParcelStep r =>
    refine h.of_request hx (fun l ws u hu => serveSetParcelStep_answers.mono ?_) hs
    rintro v ⟨n, rfl⟩
    exact h.timing u n u.transit.surfaceLine hu
  case free m =>
    refine h.settled.of_deliver (fun st _ => ?_) hx hs
    unfold takeFreeReport
    split
    · exact h.takeFree hs
    · exact h.raise _ _ hs
  case level m =>
    refine h.settled.of_deliver (fun st _ => ?_) hx hs
    unfold takeLevelReport
    split
    next k _ =>
      split
      · have hlevelled := h.aside (State.levelled_frame k (levelValue m.value) s) (hs := hs)
        exact h.waterKept.takeLevel k (levelValue m.value) hlevelled (h.setTanks _ hlevelled)
      · exact h.raise _ _ hs
    · exact h.raise _ _ hs
  case flow m =>
    refine h.settled.of_deliver (fun st _ => ?_) hx hs
    unfold takeFlowReport
    split
    · split
      · exact h.takeFlow _ hs
      · exact h.raise _ _ hs
    · exact h.raise _ _ hs
  case strokePulse p =>
    obtain rfl := Host.Outcome.next.inj hx
    have hadvanced := h.advanceParcels (s.pumps.pump p).vps (h.aside (frame_pumps s (s.pumps.countStroke p)) (hs := hs))
    exact h.aside (State.strokeCirculation_frame p _) (hs := h.aside (State.wake_frame _ _) (hs := hadvanced))
  case secondExpiry => exact h.settled.of_secondExpiry (by simp) (fun f hf u hu => h.expiryReceiver hf u hu) hx hs
  case minuteExpiry => exact h.settled.of_minuteExpiry (by simp) (fun f hf u hu => h.expiryReceiver hf u hu) hx hs
  case balanceExpiry =>
    obtain he | he : t = s ∨ t = (s.setTanks s.tanks.elapse).reading s.tanks.activeTank.volume := execBalanceExpiry_cases hx
    · rwa [he]
    · rw [he]
      exact h.reading _ (h.setTanks _ hs)
  case mixHoldExpiry => exact h.waterKept.execMixHoldExpiry hx hs
  all_goals
    exact h.settled.of_untouched (fun _ => h.enterOperate) (by simp [touched, reportParts, requestParts]) hx hs

end Log

/-! ### The Job Table's own commands -/

/-- A job of which the configuration, and the bit depth while it is ACTIVE, may have changed. -/
structure Job.Edited (j j' : Job) : Prop where
  number : j'.number = j.number
  phase : j'.phase = j.phase
  startDepth : j'.startDepth = j.startDepth
  holeDepth : j'.holeDepth = j.holeDepth
  bitDepth : j.phase ≠ .active → j'.bitDepth = j.bitDepth
  b1 : j'.b1 = j.b1
  b2 : j'.b2 = j.b2
  settleMark : j'.settleMark = j.settleMark
  column : j'.column = j.column
  sheet : j'.sheet = j.sheet

/-- A range of a job's hole: a parcel's of the ACTIVE job, or one named within the hole. -/
def State.HoleRange (s : State) (i : Fin 4) (a b : Nat) : Prop :=
  (s.active? = some i ∧ ∃ p ∈ s.transit.parcels, p.top = a ∧ p.bottom = b)
    ∨ ∃ j, s.job? i = some j ∧ a < b ∧ b ≤ j.holeDepth

/-- A predicate of the jobs and the Transit List that the Job Table's commands keep too, but for INITIALISE and
RELEASE_JOB; new hole may reach to the depth `L`. -/
structure JobKept (L : Nat) (P : State → Prop) : Prop extends LogKept P where
  edit : ∀ s i j j', s.job? i = some j → j.Edited j' → P s → P (s.setJob i j')
  opened : ∀ s i number start diameter rodType b1 b2 bha, s.job? i = none → start ≤ 100000 → bandsOk b1 b2 = true →
    P s → P (s.setJob i (Job.fresh number start diameter rodType b1 b2 bha))
  activate : ∀ s i j, s.job? i = some j → s.active? = none → P s →
    P ((s.setJob i { j with phase := .active, bitDepth := 0 }).startParcels j.holeDepth)
  suspend : ∀ s i, s.isActive i = true → P s → P (s.suspendJob i)
  settle : ∀ s i, P s → P (s.settle i)
  closed : ∀ s i j, s.job? i = some j → j.phase ≠ .active → P s → P (s.setJob i { j with phase := .closed })
  reband : ∀ s i j b1 b2, s.job? i = some j → bandsOk b1 b2 = true → P s →
    P ((s.setJob i { j with b1 := b1, b2 := b2 }).rebandFootage i j b1 b2)
  bind : ∀ s i c a b t, s.HoleRange i a b → s.bindRange i c a b = some t → P s → P t
  drop : ∀ s, P s → P s.dropSample
  bed : ∀ s a j lith col, ActiveIs s a j → openBed s.lith lith j.holeDepth j.column = some col → P s →
    P (s.setJob a { j with column := col, declared := lith })
  newHole : ∀ s i j h1, ActiveIs s i j → j.holeDepth < h1 → h1 ≤ L → P s → P (s.newHole i j h1)

section Jobs

variable {L : Nat} {P : State → Prop} {s t : State} {i : Fin 4} {j : Job}

theorem removeArrived_sublist : ∀ ps : List Parcel, (removeArrived ps).Sublist ps
  | [] => .refl _
  | p :: rest => by
    unfold removeArrived
    split
    · exact List.sublist_cons_self p rest
    · exact (removeArrived_sublist rest).cons_cons p

theorem State.oldestArrived_mem {p : Parcel} (h : s.oldestArrived = some p) : p ∈ s.transit.parcels :=
  List.mem_of_find?_eq_some h

theorem JobKept.modify (h : JobKept L P) {f : Job → Job} (hj : s.job? i = some j) (hf : j.Edited (f j)) (hs : P s) :
    P (s.modifyJob i f) := by
  rw [State.modifyJob_some hj]
  exact h.edit s i j _ hj hf hs

theorem JobKept.closeJob (h : JobKept L P) (hi : s.isActive i = false) (hs : P s) : P (s.closeJob i) := by
  have hsettled := h.settle s i hs
  have hinactive : (s.settle i).isActive i = false := ((State.settle_staged i s).isActive i).trans hi
  cases hj : (s.settle i).job? i with
  | none => rwa [State.closeJob, State.modifyJob_none hj]
  | some j =>
    rw [State.closeJob, State.modifyJob_some hj]
    exact h.closed _ i j hj (fun hp => by simp [State.isActive, hj, hp] at hinactive) hsettled

theorem JobKept.moveBha (h : JobKept L P) (place : BhaPlace) (len : Nat → Nat → Nat) (hs : P s) :
    P (s.moveBha place len) := by
  unfold State.moveBha
  split
  · exact hs
  · split
    · exact hs
    next j hj =>
      exact h.aside (State.setStringLen_frame _ _) (by simp [rosterParts]) (by simp [rosterParts])
        (h.edit s _ j _ hj ⟨rfl, rfl, rfl, rfl, fun _ => rfl, rfl, rfl, rfl, rfl, rfl⟩ hs)

/-- A BHA moved, and its operation ended (R64). -/
theorem JobKept.bhaDone (h : JobKept L P) (place : BhaPlace) (len : Nat → Nat → Nat) (o : Operation) (hs : P s) :
    P (((s.moveBha place len).endOp o .done none 0).engineRelease .tongs) :=
  h.aside (State.engineRelease_frame ..) (by simp [centreParts]) (by simp [centreParts])
    (h.aside (State.endOp_frame ..) (hs := h.moveBha place len hs))

theorem JobKept.loseString (h : JobKept L P) {a : Fin 4} (ha : ActiveIs s a j) (hs : P s) : P (s.loseString a j) := by
  have hlogged : ∀ (types : List (Fin 4)) (u : State), P u → P (types.foldl (fun u t => u.addUnsettled a (rodsLostLine t) 1) u) := by
    intro types
    induction types with
    | nil => exact fun _ hu => hu
    | cons t types ih => exact fun u hu => ih _ (h.bill _ _ _ _ (by simp [rodsLostLine]; omega) hu)
  have hrods : P (s.rodsLost a) :=
    hlogged _ _ (h.aside (Frame.foldl _ (fun s i => State.loseRod_frame s i) _ s) (hs := hs))
  have edited : ∀ (f : Job → Job) (u : State), (∀ j : Job, j.phase = .active → j.Edited (f j)) → u.isActive a = true → P u →
      P (u.modifyJob a f) := by
    intro f u hf hu hP
    obtain ⟨k, hk, hphase⟩ := State.isActive_iff.1 hu
    exact h.modify hk (hf k hphase) hP
  have hactive : (s.rodsLost a).isActive a = true := ((State.rodsLost_staged a s).isActive a).trans (State.isActive_of_active? ha.1)
  have hbha : P ((s.rodsLost a).loseBha a j) := by
    unfold State.loseBha
    split
    · refine h.aside (State.markGeometry_frame _ _) (hs := h.bill _ _ _ _ (by decide) (edited _ _ (fun j _ => ?_) hactive hrods))
      exact ⟨rfl, rfl, rfl, rfl, fun _ => rfl, rfl, rfl, rfl, rfl, rfl⟩
    · exact hrods
  have hbhaActive : ((s.rodsLost a).loseBha a j).isActive a = true :=
    ((State.loseBha_staged a j _).isActive a).trans hactive
  rw [State.loseString_eq]
  refine h.aside (State.dropHeld_frame _) (hs := edited _ _ (fun k hk => ?_) ?_ ?_)
  · exact ⟨rfl, rfl, rfl, rfl, fun hne => absurd hk hne, rfl, rfl, rfl, rfl, rfl⟩
  · exact hbhaActive
  · exact h.aside (State.setStringLen_frame 0 _) (by simp [rosterParts]) (by simp [rosterParts]) hbha

theorem JobKept.testCandidate (h : JobKept L P) {d : Nat} (hj : ActiveIs s i j) (hd : d ≤ L) (hs : P s) :
    P (s.testCandidate i j d) := by
  unfold State.testCandidate
  split
  · refine h.aside (State.dropHeld_frame _) (hs := h.edit s i j _ hj.2 ?_ hs)
    exact ⟨rfl, rfl, rfl, rfl, fun hne => absurd hj.phase hne, rfl, rfl, rfl, rfl, rfl⟩
  · split
    · exact h.newHole _ i j d hj (by omega) hd (h.aside (State.dropHeld_frame _) (hs := hs))
    · exact h.raise _ _ (h.aside (frame_depth _ _) (hs := hs))

theorem JobKept.takeHeight (h : JobKept L P) (reported : Int) (hL : s.roster.stringLen ≤ L) (hs : P s) :
    P (s.takeHeight reported) := by
  have htracked : P (s.tracked reported) := h.aside (State.tracked_frame reported s) (hs := hs)
  obtain he | ⟨i, j, hj, he⟩ := s.takeHeight_cases reported
  · rwa [he]
  · rw [he]
    exact h.testCandidate hj (by omega) htracked

/-- Every command but INITIALISE and RELEASE_JOB keeps the predicate, a HEIGHT report for a string within the limit. -/
theorem JobKept.exec (h : JobKept L P) {c : Instr} (hi : ∀ r, c ≠ .initialise r) (hr : ∀ r, c ≠ .releaseJob r)
    (hL : ∀ m, c = .height m → s.roster.stringLen ≤ L) (hx : exec c s = .next t) (hs : P s) : P t := by
  have kept := h.toLogKept
  cases c
  case initialise r => exact absurd rfl (hi r)
  case releaseJob r => exact absurd rfl (hr r)
  case openJob r =>
    refine kept.of_request hx (fun l ws u hu => serveOpenJob_answers.mono ?_) hs
    rintro v ⟨i, number, start, diameter, rodType, b1, b2, bha, hfree, hstart, hbands, _, _, rfl⟩
    exact h.opened u i _ _ _ _ _ _ _ hfree hstart hbands hu
  case activateJob r =>
    refine kept.of_request hx (fun l ws u hu => serveActivateJob_answers.mono ?_) hs
    rintro v ⟨i, j, hj, _, hnone, rfl⟩
    exact kept.aside (State.dropHeld_frame _) (hs := h.activate u i j hj hnone hu)
  case suspendJob r =>
    refine kept.of_request hx (fun l ws u hu => serveSuspendJob_answers.mono ?_) hs
    rintro v ⟨i, j, hsus, hv⟩
    rw [hv]
    exact h.suspend u i (State.isActive_iff.2 ⟨j, hsus.job, hsus.active⟩) hu
  case closeJob r =>
    refine kept.of_request hx (fun l ws u hu => serveCloseJob_answers.mono ?_) hs
    rintro v ⟨i, j, ⟨hsus, hv⟩ | ⟨hj, hphase, hv⟩⟩ <;> rw [hv]
    · exact h.closeJob (State.suspendJob_inactive i u)
        (h.suspend u i (State.isActive_iff.2 ⟨j, hsus.job, hsus.active⟩) hu)
    · exact h.closeJob (by simp [State.isActive, hj, hphase]) hu
  case setBha r =>
    refine kept.of_request hx (fun l ws u hu => serveSetBha_answers.mono ?_) hs
    rintro v ⟨i, j, bha, edited, hj, _, _, _, rfl⟩
    exact kept.aside (State.markGeometry_frame _ _)
      (hs := h.edit u i j _ hj ⟨rfl, rfl, rfl, rfl, fun _ => rfl, rfl, rfl, rfl, rfl, rfl⟩ hu)
  case setRate r | setRateBands r =>
    refine kept.of_request hx (fun l ws u hu => serveSetRate_answers.mono ?_) hs
    rintro v ⟨i, j, hj, _, ⟨rates, rfl⟩ | ⟨b1, b2, hbands, hv⟩⟩
    · exact h.edit u i j _ hj ⟨rfl, rfl, rfl, rfl, fun _ => rfl, rfl, rfl, rfl, rfl, rfl⟩ hu
    · rw [hv]
      exact h.reband u i j b1 b2 hj hbands hu
  case setHoleSection r =>
    refine kept.of_request hx (fun l ws u hu => serveSetHoleSection_answers.mono ?_) hs
    rintro v ⟨i, j, sections, edited, hj, rfl⟩
    exact kept.aside (State.markGeometry_frame _ _)
      (hs := h.edit u i j _ hj ⟨rfl, rfl, rfl, rfl, fun _ => rfl, rfl, rfl, rfl, rfl, rfl⟩ hu)
  case clearHoleSection r =>
    refine kept.of_request hx (fun l ws u hu => serveClearHoleSection_answers.mono ?_) hs
    rintro v ⟨i, j, sections, edited, hj, rfl⟩
    exact kept.aside (State.markGeometry_frame _ _)
      (hs := h.edit u i j _ hj ⟨rfl, rfl, rfl, rfl, fun _ => rfl, rfl, rfl, rfl, rfl, rfl⟩ hu)
  case declareDown r | clearDown r =>
    refine kept.of_request hx (fun l ws u hu => serveDown_answers.mono ?_) hs
    rintro v ⟨i, j, hj, rfl⟩
    exact h.edit u i j _ hj ⟨rfl, rfl, rfl, rfl, fun _ => rfl, rfl, rfl, rfl, rfl, rfl⟩ hu
  case declareStringLost r =>
    refine kept.of_request hx (fun l ws u hu => serveDeclareStringLost_answers.mono ?_) hs
    rintro v ⟨a, j, ha, _, _, hv⟩
    rw [hv]
    exact h.loseString ha hu
  case takeSample r =>
    refine kept.of_request hx (fun l ws u hu => serveTakeSample_answers.mono ?_) hs
    rintro v ⟨a, p, lith, yield, w, ha, hp, hw, rfl⟩
    exact h.drop w (h.bind u a _ _ _ w (.inl ⟨ha, p, State.oldestArrived_mem hp, rfl, rfl⟩) hw hu)
  case rejectSample r =>
    refine kept.of_request hx (fun l ws u hu => serveRejectSample_answers.mono ?_) hs
    rintro v ⟨a, p, ha, hp, hv⟩
    rw [hv]
    exact h.lose u a .notSampled _ [p] ha (removeArrived_sublist _) (by simpa using State.oldestArrived_mem hp) hu
  case formationChange r =>
    refine kept.of_request hx (fun l ws u hu => serveFormationChange_answers.mono ?_) hs
    rintro v ⟨a, j, lith, col, ha, hcol, hv⟩
    rw [hv]
    have hstaged : u.Staged (u.setJob a { j with column := col, declared := lith }) := .setJob ha.2 rfl
    exact kept.closeForming (hstaged.active?.trans ha.1) (h.bed u a j lith col ha hcol hu)
  case reviseInterval r =>
    refine kept.of_request hx (fun l ws u hu => serveReviseInterval_answers.mono ?_) hs
    rintro v ⟨i, j, top, bottom, lith, hj, hlt, hle, hv⟩
    exact h.bind u i _ top bottom v (.inr ⟨j, hj, hlt, hle⟩) hv hu
  case noteWater r =>
    refine kept.of_request hx (fun l ws u hu => serveNoteWater_answers.mono ?_) hs
    rintro v ⟨i, j, d, yield, hj, rfl⟩
    exact h.flag u i j d _ hj (fun _ => ⟨rfl, rfl, rfl, rfl⟩) hu
  case settle r =>
    refine kept.of_request hx (fun l ws u hu => serveSettle_answers.mono ?_) hs
    rintro v ⟨i, j, _, hv⟩
    rw [hv]
    exact h.settle u i hu
  case bhaSet m =>
    refine kept.settled.of_deliver (fun st _ => kept.settled.of_atStep (fun o _ _ => ?_) hs) hx hs
    exact h.bhaDone .inString (· + ·) o hs
  case bhaClear m =>
    refine kept.settled.of_deliver (fun st _ => kept.settled.of_atStep (fun o _ _ => ?_) hs) hx hs
    exact h.bhaDone .stowed (· - ·) o hs
  case height m =>
    refine kept.settled.of_deliver (fun st _ => ?_) hx hs
    unfold takeHeightReport
    split
    · have hwakes := State.heightWakes_frame m.value.toInt s
      have hroster : (s.heightWakes m.value.toInt).roster = s.roster := hwakes.kept .roster (by simp)
      exact h.takeHeight _ (by rw [hroster]; exact hL m rfl) (kept.aside hwakes (hs := hs))
    · exact kept.raise _ _ hs
  all_goals exact kept.exec rfl hx hs

end Jobs

end Sys2Proof.Machine
end

section
/-! PROOFS. The job table and the Transit List through every command: one ACTIVE job, depths in order, holes that only
grow, and the order and number of the parcels. -/

namespace Sys2Proof.Machine

/-! ### New hole, suspension and settlement in their steps -/

section Steps

variable {P : State → Prop} {s t : State} {i : Fin 4} {j : Job}

/-- New hole up to its footage: the depths moved, the rods credited and the column extended (R75). -/
def State.deepened (i : Fin 4) (j : Job) (h1 : Nat) (s : State) : State :=
  ((s.setJob i { j with holeDepth := h1, bitDepth := h1 }).creditString (h1 - j.holeDepth)).extendColumn i h1

theorem State.deepened_staged (hj : s.job? i = some j) (h1 : Nat) : s.Staged (s.deepened i j h1) := by
  have hset : s.Staged (s.setJob i { j with holeDepth := h1, bitDepth := h1 }) := .setJob hj rfl
  exact (hset.trans (State.creditString_frame (h1 - j.holeDepth) _).staged).trans (State.extendColumn_logged i h1 _).staged

/-- New hole keeps a predicate that its depths and its column keep together. -/
theorem LogKept.newHole_of (h : LogKept P) {h1 : Nat} (hj : ActiveIs s i j) (hd : P (s.deepened i j h1)) :
    P (s.newHole i j h1) := by
  have hdrilled : P (s.drilled i j h1) := h.growForming (((State.deepened_staged hj.2 h1).active?).trans hj.1) hd
  have hfilled : P ((s.drilled i j h1).addFill j.sections j.holeDepth h1) := by
    unfold State.addFill
    split
    · exact hdrilled
    · exact h.setTanks _ hdrilled
  rw [State.newHole_eq]
  exact h.aside (frame_drilling _ true) (hs := hfilled)

theorem State.markParcels_transit (i : Fin 4) (status : CutStatus) (ps : List Parcel) (s : State) :
    (s.markParcels i status ps).transit = s.transit :=
  (Frame.foldl _ (fun _ _ => State.markRange_frame ..) ps s).kept .transit (by simp)

/-- A list given up leaves no parcels and no forming top (R19, R135). -/
theorem State.giveUpParcels_transit (i : Fin 4) (s : State) :
    (s.giveUpParcels i).transit = { s.transit with parcels := [], formingTop := none } := by
  have hmarked := State.markParcels_transit i .notSampled s.transit.parcels (s.setParcels [])
  unfold State.giveUpParcels
  extract_lets marked formed _
  have hformed : formed.transit = { s.transit with parcels := [] } := by
    simp only [formed]
    split
    · split
      · exact ((State.markRange_frame ..).kept .transit (by simp)).trans hmarked
      · exact hmarked
    · exact hmarked
  show ({ formed.transit with formingTop := none } : Transit) = _
  rw [hformed]

theorem State.settleLines_logged (i : Fin 4) (s : State) :
    s.Logged ((List.finRange 40).foldl (fun s line => s.settleLine i line) s) := by
  refine State.Logged.foldl (fun s line => ?_) _ s
  unfold State.settleLine
  split
  · exact .refl s
  next j hj =>
    have hset : ∀ sheet, s.Logged (s.setJob i { j with sheet := sheet }) := fun sheet => .setJob hj rfl
    simp only
    split
    · exact .refl s
    · split
      · exact (hset _).trans (State.raise_logged ..)
      · exact hset _

theorem State.settle_transit (i : Fin 4) (s : State) : (s.settle i).transit = s.transit :=
  (State.settle_frame i s).kept .transit (by simp)

theorem State.birth_formingTop {top : Nat} (hj : s.job? i = some j) (ht : s.transit.formingTop = some top) :
    (s.birth i).transit.formingTop = some j.holeDepth := by
  rw [State.birth_eq hj ht]
  split_ifs
  · rw [show (State.markRange i .noReturns top j.holeDepth (s.numbered j)).transit = (s.numbered j).transit from
      (State.markRange_frame ..).kept .transit (by simp)]
    rfl
  · unfold State.mergeBirth
    split <;> rfl
  · rfl

/-- A forming parcel of some length has a job and a top (R127). -/
theorem State.formingLength_pos (h : 1 ≤ s.formingLength i) :
    ∃ j top, s.job? i = some j ∧ s.transit.formingTop = some top ∧ top < j.holeDepth := by
  unfold State.formingLength at h
  split at h
  next j top hj ht => exact ⟨j, top, hj, ht, by omega⟩
  · omega

theorem rebandFootage_logged (i : Fin 4) (j : Job) (b1 b2 : Nat) (u : State) : u.Logged (u.rebandFootage i j b1 b2) :=
  .foldl (fun v _ => .foldl (fun _ _ => State.addUnsettled_logged ..) _ v) _ u

end Steps

/-! ### The job table -/

/-- The job table as its chapter gives it: one ACTIVE job, the list forming with it, and depths in order (R15, R16,
R18, R125, R135, R174). -/
structure State.TableOk (s : State) : Prop where
  one : s.OneActive
  idle : s.active? = none → s.transit.formingTop = none ∧ s.transit.parcels = []
  forming : s.active? ≠ none → s.transit.formingTop ≠ none
  depths : ∀ i j, s.job? i = some j →
    j.startDepth ≤ j.settleMark ∧ j.settleMark ≤ j.holeDepth ∧ (j.phase ≠ .active → j.bitDepth = 0)

theorem State.tableOk_iff {s : State} : s.TableOk ↔ s.OneActive ∧ s.FormingOk ∧ s.DepthsOk := by
  constructor
  · intro ⟨ho, hi, hf, hd⟩
    exact ⟨ho, ⟨hi, hf⟩, fun i => (Option.all_eq_true _ _).2 fun j hj => decide_eq_true (hd i j hj)⟩
  · intro ⟨ho, ⟨hi, hf⟩, hd⟩
    exact ⟨ho, hi, hf, fun i j hj => of_decide_eq_true ((Option.all_eq_true _ _).1 (hd i) j hj)⟩

section Table

variable {s t : State} {i : Fin 4} {j j' : Job}

theorem oneActive_staged (h : s.OneActive) (hst : s.Staged t) : t.OneActive := fun a b ha hb =>
  h a b ((hst.isActive a).symm.trans ha) ((hst.isActive b).symm.trans hb)

/-- The parcels and the forming top, kept or not, of a job table with the same ACTIVE job. -/
theorem State.TableOk.of_staged (h : s.TableOk) (hst : s.Staged t)
    (hi : s.active? = none → t.transit.formingTop = s.transit.formingTop ∧ (s.transit.parcels = [] → t.transit.parcels = []))
    (hf : s.transit.formingTop ≠ none → t.transit.formingTop ≠ none)
    (hd : ∀ i j, t.job? i = some j →
      j.startDepth ≤ j.settleMark ∧ j.settleMark ≤ j.holeDepth ∧ (j.phase ≠ .active → j.bitDepth = 0)) : t.TableOk where
  one := oneActive_staged h.one hst
  idle hn := by
    rw [hst.active?] at hn
    exact ⟨(hi hn).1.trans (h.idle hn).1, (hi hn).2 (h.idle hn).2⟩
  forming hn := hf (h.forming (by rwa [hst.active?] at hn))
  depths := hd

theorem State.TableOk.logged_depths (h : s.TableOk) (hl : s.Logged t) (k : Fin 4) (x : Job) (hx : t.job? k = some x) :
    x.startDepth ≤ x.settleMark ∧ x.settleMark ≤ x.holeDepth ∧ (x.phase ≠ .active → x.bitDepth = 0) := by
  obtain ⟨y, hy, hlog⟩ := hl.back hx
  rw [hlog]
  exact h.depths k y hy

/-- Writes of columns and sheets that leave the forming top, and an empty list empty. -/
theorem State.TableOk.logged (h : s.TableOk) (hl : s.Logged t) (hf : t.transit.formingTop = s.transit.formingTop)
    (hp : s.transit.parcels = [] → t.transit.parcels = []) : t.TableOk :=
  h.of_staged hl.staged (fun _ => ⟨hf, hp⟩) (fun hn => hf ▸ hn) (h.logged_depths hl)

theorem State.TableOk.logged_frame (h : s.TableOk) (hl : s.Logged t) (ht : t.transit = s.transit) : t.TableOk :=
  h.logged hl (by rw [ht]) (by rw [ht]; exact id)

/-- A job replaced by one in the same phase with its depths in order. -/
theorem State.TableOk.setJob (h : s.TableOk) (hj : s.job? i = some j) (hp : j'.phase = j.phase)
    (hd : j'.startDepth ≤ j'.settleMark ∧ j'.settleMark ≤ j'.holeDepth ∧ (j'.phase ≠ .active → j'.bitDepth = 0)) :
    (s.setJob i j').TableOk := by
  refine h.of_staged (.setJob hj hp) (fun _ => ⟨rfl, id⟩) id fun k x hx => ?_
  by_cases hik : i = k
  · subst hik
    obtain rfl := Option.some.inj (State.setJob_job?_same.symm.trans hx)
    exact hd
  · rw [State.setJob_job?_other hik] at hx
    exact h.depths k x hx

/-- An ACTIVE job suspended: it is ACTIVE no more, its bit depth 0 and the list given up (R19). -/
theorem State.TableOk.suspendJob (h : s.TableOk) (hi : s.isActive i = true) : (s.suspendJob i).TableOk := by
  obtain ⟨j, hj, hphase⟩ := State.isActive_iff.1 hi
  have hset : (s.modifyJob i fun j => { j with phase := .suspended, bitDepth := 0 })
      = s.setJob i { j with phase := .suspended, bitDepth := 0 } := State.modifyJob_some hj
  have hl : (s.setJob i { j with phase := .suspended, bitDepth := 0 }).Logged (s.suspendJob i) := by
    rw [State.suspendJob, hset]
    exact (State.dropHeld_frame _).logged.trans (State.giveUpParcels_logged i _)
  have ht : (s.suspendJob i).transit = { s.transit with parcels := [], formingTop := none } := by
    rw [State.suspendJob, hset, State.giveUpParcels_transit]
    rfl
  have hnone : ∀ k, (s.suspendJob i).isActive k = false := by
    intro k
    by_cases hik : i = k
    · subst hik
      exact State.suspendJob_inactive i s
    · rw [hl.isActive, State.isActive, State.setJob_job?_other hik]
      by_contra hk
      exact hik (h.one i k hi (by simpa [State.isActive] using hk))
  refine ⟨fun a b ha => ?_, fun _ => by rw [ht]; exact ⟨rfl, rfl⟩, fun hn => ?_, fun k x hx => ?_⟩
  · rw [hnone a] at ha
    cases ha
  · exact absurd (State.active?_none_iff.2 hnone) hn
  · obtain ⟨y, hy, hlog⟩ := hl.back hx
    rw [hlog]
    by_cases hik : i = k
    · subst hik
      obtain rfl := Option.some.inj (State.setJob_job?_same.symm.trans hy)
      exact ⟨(h.depths i j hj).1, (h.depths i j hj).2.1, fun _ => rfl⟩
    · rw [State.setJob_job?_other hik] at hy
      exact h.depths k y hy

/-- A job opened in a FREE slot (R17). -/
theorem State.TableOk.openJob (h : s.TableOk) (hfree : s.job? i = none) (hp : j.phase = .opened)
    (hd : j.startDepth ≤ j.settleMark ∧ j.settleMark ≤ j.holeDepth ∧ j.bitDepth = 0) : (s.setJob i j).TableOk := by
  have hactive : ∀ k, (s.setJob i j).isActive k = s.isActive k := by
    intro k
    by_cases hik : i = k
    · subst hik
      simp [State.isActive, hfree, hp]
    · rw [State.isActive, State.setJob_job?_other hik, State.isActive]
  have hsame : (s.setJob i j).active? = s.active? := State.active?_congr hactive
  refine ⟨fun a b ha hb => h.one a b ((hactive a).symm.trans ha) ((hactive b).symm.trans hb), fun hn => h.idle (hsame ▸ hn),
    fun hn => h.forming (hsame ▸ hn), fun k x hx => ?_⟩
  by_cases hik : i = k
  · subst hik
    obtain rfl := Option.some.inj (State.setJob_job?_same.symm.trans hx)
    exact ⟨hd.1, hd.2.1, fun _ => hd.2.2⟩
  · rw [State.setJob_job?_other hik] at hx
    exact h.depths k x hx

/-- With no job ACTIVE, one becomes so, with its list started (R18). -/
theorem State.TableOk.activate (h : s.TableOk) (hj : s.job? i = some j) (hnone : s.active? = none) :
    ((s.setJob i { j with phase := .active, bitDepth := 0 }).startParcels j.holeDepth).TableOk := by
  have hothers : ∀ k, ((s.setJob i { j with phase := .active, bitDepth := 0 }).startParcels j.holeDepth).isActive k = true →
      k = i := by
    intro k hk
    by_contra hik
    have : s.isActive k = true := by
      rw [State.isActive, ← State.setJob_job?_other (j := { j with phase := .active, bitDepth := 0 }) (Ne.symm hik)]
      exact hk
    rw [State.active?_none_iff.1 hnone k] at this
    cases this
  have hself : ((s.setJob i { j with phase := .active, bitDepth := 0 }).startParcels j.holeDepth).isActive i = true :=
    State.isActive_iff.2 ⟨_, State.setJob_job?_same, rfl⟩
  refine ⟨fun a b ha hb => (hothers a ha).trans (hothers b hb).symm, fun hn => ?_, fun _ => Option.some_ne_none _,
    fun k x hx => ?_⟩
  · rw [State.active?_none_iff.1 hn i] at hself
    cases hself
  · change (s.setJob i _).job? k = some x at hx
    by_cases hik : i = k
    · subst hik
      obtain rfl := Option.some.inj (State.setJob_job?_same.symm.trans hx)
      exact ⟨(h.depths i j hj).1, (h.depths i j hj).2.1, fun _ => rfl⟩
    · rw [State.setJob_job?_other hik] at hx
      exact h.depths k x hx

theorem tableOk_depends : DependsOn [.jobs, .transit] State.TableOk := fun s t hag h => by
  have hjobs : t.jobs = s.jobs := hag .jobs (by simp)
  have htransit : t.transit = s.transit := hag .transit (by simp)
  have hjob : ∀ k, t.job? k = s.job? k := fun k => by rw [State.job?, State.job?, hjobs]
  refine h.logged_frame ⟨fun k => by rw [hjobs], fun k x hx => ⟨x, (hjob k).trans hx, .refl x⟩, fun k hx => ?_⟩ htransit
  exact (hjob k).trans hx

theorem tableOk_lose (s : State) (i : Fin 4) (status : CutStatus) (qs ps : List Parcel) (_ : s.active? = some i)
    (hq : qs.Sublist s.transit.parcels) (_ : ps ⊆ s.transit.parcels) (h : s.TableOk) :
    ((s.setParcels qs).markParcels i status ps).TableOk := by
  have ht := State.markParcels_transit i status ps (s.setParcels qs)
  refine h.logged ((State.Logged.setParcels qs s).trans (State.markParcels_logged ..)) (by rw [ht]; rfl) fun he => ?_
  rw [ht]
  exact List.sublist_nil.1 (he ▸ hq)

theorem tableOk_logKept : LogKept State.TableOk where
  depends := tableOk_depends
  timing s _ _ h := h.logged (frame_transit s _).logged rfl id
  bill s i line q _ h :=
    h.logged_frame (State.addUnsettled_logged ..) ((State.addUnsettled_frame ..).kept .transit (by simp))
  credit s i h := h.logged_frame (.modifyJob fun _ => rfl) ((State.modifyJob_frame ..).kept .transit (by simp))
  flag s i j d f _ _ h :=
    h.logged_frame (State.setColumn_logged ..) ((State.setColumn_frame ..).kept .transit (by simp))
  lose := tableOk_lose
  birth s i hi hlong h := by
    obtain ⟨j, top, hj, ht, _⟩ := State.formingLength_pos hlong
    refine h.of_staged (State.birth_logged i s).staged (fun hn => ?_) (fun _ => ?_)
      (h.logged_depths (State.birth_logged i s))
    · exact absurd (hi.symm.trans hn) (Option.some_ne_none i)
    · rw [State.birth_formingTop hj ht]
      exact Option.some_ne_none _
  relist s f _ h := h.logged (State.Logged.setParcels ..) rfl fun he => by
    show s.transit.parcels.map f = []
    rw [he, List.map_nil]
  arrive := LogKept.arrive_of tableOk_depends tableOk_lose fun s h =>
    h.logged (State.Logged.setParcels ..) rfl fun he => by
      show arriveFirst s.transit.parcels = []
      rw [he, arriveFirst]

theorem tableOk_jobKept (L : Nat) : JobKept L State.TableOk where
  toLogKept := tableOk_logKept
  edit s i j j' hj he h := by
    obtain ⟨hstart, hmark, hbit⟩ := h.depths i j hj
    refine h.setJob hj he.phase ⟨?_, ?_, fun hp => ?_⟩
    · rw [he.startDepth, he.settleMark]
      exact hstart
    · rw [he.settleMark, he.holeDepth]
      exact hmark
    · rw [he.phase] at hp
      rw [he.bitDepth hp]
      exact hbit hp
  opened s i number start diameter rodType b1 b2 bha hfree _ _ h := h.openJob hfree rfl ⟨le_rfl, le_rfl, rfl⟩
  activate s i j hj hnone h := h.activate hj hnone
  suspend s i hi h := h.suspendJob hi
  settle s i h := by
    have hlines := h.logged_frame (State.settleLines_logged i s)
      ((Frame.foldl _ (fun s _ => State.settleLine_frame ..) _ s).kept .transit (by simp))
    unfold State.settle
    cases hj : ((List.finRange 40).foldl (fun s line => s.settleLine i line) s).job? i with
    | none => rwa [State.modifyJob_none hj]
    | some j =>
      rw [State.modifyJob_some hj]
      obtain ⟨hstart, hmark, hbit⟩ := hlines.depths i j hj
      exact hlines.setJob hj rfl ⟨hstart.trans hmark, le_rfl, hbit⟩
  closed s i j hj hp h := by
    have hactive : ∀ k, (s.setJob i { j with phase := .closed }).isActive k = s.isActive k := by
      intro k
      by_cases hik : i = k
      · subst hik
        simp [State.isActive, hj, hp]
      · rw [State.isActive, State.setJob_job?_other hik, State.isActive]
    have hsame : (s.setJob i { j with phase := .closed }).active? = s.active? := State.active?_congr hactive
    refine ⟨fun a b ha hb => h.one a b ((hactive a).symm.trans ha) ((hactive b).symm.trans hb),
      fun hn => h.idle (hsame ▸ hn), fun hn => h.forming (hsame ▸ hn), fun k x hx => ?_⟩
    by_cases hik : i = k
    · subst hik
      obtain rfl := Option.some.inj (State.setJob_job?_same.symm.trans hx)
      exact ⟨(h.depths i j hj).1, (h.depths i j hj).2.1, fun _ => (h.depths i j hj).2.2 hp⟩
    · rw [State.setJob_job?_other hik] at hx
      exact h.depths k x hx
  reband s i j b1 b2 hj _ h :=
    (h.setJob hj rfl (h.depths i j hj) : (s.setJob i { j with b1 := b1, b2 := b2 }).TableOk).logged_frame
      (rebandFootage_logged ..) ((State.rebandFootage_frame ..).kept .transit (by simp))
  bind s i c a b t _ ht h := by
    exact h.logged_frame (State.bindRange_logged ht) ((State.bindRange_frame i c a b s t ht).kept .transit (by simp))
  drop s h := h.logged (State.Logged.setParcels ..) rfl fun he => by
    show removeArrived s.transit.parcels = []
    rw [he, removeArrived]
  bed s a j lith col ha _ h := h.setJob ha.2 rfl (h.depths a j ha.2)
  newHole s i j h1 hj hlt _ h := by
    refine tableOk_logKept.newHole_of hj ?_
    obtain ⟨hstart, hmark, hbit⟩ := h.depths i j hj.2
    have hset : (s.setJob i { j with holeDepth := h1, bitDepth := h1 }).TableOk :=
      h.setJob hj.2 rfl ⟨hstart, hmark.trans hlt.le, fun hp => absurd hj.phase hp⟩
    have hcredited := tableOk_logKept.aside (State.creditString_frame (h1 - j.holeDepth) _) (by simp [rosterParts])
      (by simp [rosterParts]) hset
    exact hcredited.logged_frame (State.extendColumn_logged ..) ((State.extendColumn_frame ..).kept .transit (by simp))

/-- INITIALISE leaves no job and an empty list (R14, R15, R125). -/
theorem initialised_job? (s : State) (i : Fin 4) : s.initialised.job? i = none := by
  show (Vector.ofFn fun i => (s.jobs[i]).initialised)[i].job = none
  rw [Fin.getElem_fin, Vector.getElem_ofFn]
  unfold JobSlot.initialised
  split
  · rfl
  next hnone => exact Option.not_isSome_iff_eq_none.1 hnone

theorem initialised_gen (hj : s.job? i = some j) : s.initialised.jobs[i].gen = nextGen s.jobs[i].gen := by
  show (Vector.ofFn fun i => (s.jobs[i]).initialised)[i].gen = _
  rw [Fin.getElem_fin, Vector.getElem_ofFn]
  have hsome : s.jobs[i].job.isSome = true := Option.isSome_iff_exists.2 ⟨j, hj⟩
  unfold JobSlot.initialised
  rw [if_pos hsome]

theorem initialised_tableOk (s : State) : s.initialised.TableOk := by
  have hnone : ∀ k, s.initialised.isActive k = false := fun k => by rw [State.isActive, initialised_job?]; rfl
  refine ⟨fun a b ha => ?_, fun _ => ⟨rfl, rfl⟩, fun hn => absurd (State.active?_none_iff.2 hnone) hn, fun k x hx => ?_⟩
  · rw [hnone a] at ha
    cases ha
  · rw [initialised_job?] at hx
    cases hx

theorem State.freeJob_job?_same (i : Fin 4) (s : State) : (s.freeJob i).job? i = none := by
  simp [State.job?, State.freeJob]

theorem State.freeJob_slot_other {k : Fin 4} (h : i ≠ k) : (s.freeJob i).jobs[k] = s.jobs[k] := by
  have hne : i.val ≠ k.val := fun he => h (Fin.ext he)
  simp [State.freeJob, Vector.getElem_set_ne _ _ hne]

theorem State.freeJob_job?_other {k : Fin 4} (h : i ≠ k) : (s.freeJob i).job? k = s.job? k := by
  rw [State.job?, State.freeJob_slot_other h, State.job?]

/-- A CLOSED job leaves its slot (R21). -/
theorem State.TableOk.freeJob (h : s.TableOk) (hj : s.job? i = some j) (hp : j.phase = .closed) : (s.freeJob i).TableOk := by
  have hactive : ∀ k, (s.freeJob i).isActive k = s.isActive k := by
    intro k
    by_cases hik : i = k
    · subst hik
      simp [State.isActive, State.freeJob_job?_same, hj, hp]
    · rw [State.isActive, State.freeJob_job?_other hik, State.isActive]
  have hsame : (s.freeJob i).active? = s.active? := State.active?_congr hactive
  refine ⟨fun a b ha hb => h.one a b ((hactive a).symm.trans ha) ((hactive b).symm.trans hb),
    fun hn => h.idle (hsame ▸ hn), fun hn => h.forming (hsame ▸ hn), fun k x hx => ?_⟩
  by_cases hik : i = k
  · subst hik
    rw [State.freeJob_job?_same] at hx
    cases hx
  · rw [State.freeJob_job?_other hik] at hx
    exact h.depths k x hx

theorem exec_tableOk {c : Instr} (hx : exec c s = .next t) (h : s.TableOk) : t.TableOk := by
  by_cases hi : ∃ r, c = .initialise r
  · obtain ⟨r, rfl⟩ := hi
    refine tableOk_logKept.of_request hx (fun l ws u _ => serveInitialise_answers.mono ?_) h
    rintro v ⟨_, rfl⟩
    exact initialised_tableOk u
  · by_cases hr : ∃ r, c = .releaseJob r
    · obtain ⟨r, rfl⟩ := hr
      refine tableOk_logKept.of_request hx (fun l ws u hu => serveReleaseJob_answers.mono ?_) h
      rintro v ⟨i, j, hj, hp, rfl⟩
      exact hu.freeJob hj hp
    · exact (tableOk_jobKept s.roster.stringLen).exec (fun r he => hi ⟨r, he⟩) (fun r he => hr ⟨r, he⟩) (fun _ _ => le_rfl)
        hx h

end Table

/-- Settles O22: the three invariants of the table together, kept by every command. -/
theorem jobTableInvariant : Obligations.JobTableInvariant := by
  intro s t ho hf hd hx
  exact State.tableOk_iff.1 (tableOk_logKept.settled.of_step (fun c u v hx hu => exec_tableOk hx hu) hx
    (State.tableOk_iff.2 ⟨ho, hf, hd⟩))

/-! ### Predicates of the jobs but for columns and sheets -/

section Logged

variable {P : State → Prop}

/-- A predicate of the jobs that writes of columns and sheets keep. -/
theorem LogKept.of_logged (hd : DependsOn [.jobs] P) (h : ∀ {u v : State}, P u → u.Logged v → P v) : LogKept P where
  depends u v hag := hd u v fun p hp => hag p (List.mem_cons.2 (.inl (List.mem_singleton.1 hp)))
  timing u _ _ hu := h hu (frame_transit u _).logged
  bill u i line q _ hu := h hu (State.addUnsettled_logged ..)
  credit u i hu := h hu (.modifyJob fun _ => rfl)
  flag u i j d f _ _ hu := h hu (State.setColumn_logged ..)
  lose u i status qs ps _ _ _ hu := h hu ((State.Logged.setParcels qs u).trans (State.markParcels_logged ..))
  birth u i _ _ hu := h hu (State.birth_logged ..)
  relist u f _ hu := h hu (State.Logged.setParcels ..)
  arrive u i p _ hu := h hu (State.arrive_logged ..)

theorem logged_logKept (s : State) : LogKept s.Logged := by
  refine .of_logged (fun u v hag h => ?_) fun h hl => h.trans hl
  have hjobs : v.jobs = u.jobs := hag .jobs (by simp)
  have hjob : ∀ k, v.job? k = u.job? k := fun k => by rw [State.job?, State.job?, hjobs]
  refine ⟨fun i => by rw [hjobs]; exact h.gen i, fun i j hj => ?_, fun i hi => by rw [hjob]; exact h.none i hi⟩
  rw [hjob]
  exact h.some i j hj

theorem State.enterOperate_logged (s : State) : s.Logged s.enterOperate := (logged_logKept s).enterOperate (.refl s)

end Logged

/-! ### Holes only grow -/

/-- Every job of `s` stands in its slot of `t`, its number and start depth kept and its hole no shorter; and no deeper
when new hole may reach no depth `L`. -/
def State.Survives (L : Nat) (s t : State) : Prop :=
  ∀ i j, s.job? i = some j → ∃ j', t.job? i = some j' ∧ t.jobs[i].gen = s.jobs[i].gen ∧ j'.number = j.number
    ∧ j'.startDepth = j.startDepth ∧ j.holeDepth ≤ j'.holeDepth ∧ (L = 0 → j'.holeDepth = j.holeDepth)

section Survives

variable {L : Nat} {s t u : State} {i : Fin 4} {j j' : Job}

theorem State.Survives.logged (h : s.Survives L t) (hl : t.Logged u) : s.Survives L u := by
  intro i j hj
  obtain ⟨j', hj', hgen, hnum, hstart, hle, heq⟩ := h i j hj
  obtain ⟨j'', hj'', hlog⟩ := hl.some i j' hj'
  refine ⟨j'', hj'', (hl.gen i).trans hgen, ?_⟩
  rw [hlog]
  exact ⟨hnum, hstart, hle, heq⟩

/-- A job of the state replaced by one of its number and start depth, its hole no shorter. -/
theorem State.Survives.setJob (h : s.Survives L t) (hj : t.job? i = some j) (hn : j'.number = j.number)
    (hs : j'.startDepth = j.startDepth) (hd : j.holeDepth ≤ j'.holeDepth) (heq : L = 0 → j'.holeDepth = j.holeDepth) :
    s.Survives L (t.setJob i j') := by
  intro k x hx
  obtain ⟨y, hy, hgen, hnum, hstart, hle, hsame⟩ := h k x hx
  by_cases hik : i = k
  · subst hik
    obtain rfl := Option.some.inj (hj.symm.trans hy)
    exact ⟨j', State.setJob_job?_same, by rw [State.setJob_gen]; exact hgen, hn.trans hnum, hs.trans hstart,
      hle.trans hd, fun h0 => (heq h0).trans (hsame h0)⟩
  · exact ⟨y, by rw [State.setJob_job?_other hik]; exact hy, by rw [State.setJob_gen]; exact hgen, hnum, hstart, hle, hsame⟩

theorem State.Survives.modifyJob (h : s.Survives L t) {f : Job → Job}
    (hf : ∀ j, (f j).number = j.number ∧ (f j).startDepth = j.startDepth ∧ (f j).holeDepth = j.holeDepth) :
    s.Survives L (t.modifyJob i f) := by
  cases hj : t.job? i with
  | none => rwa [State.modifyJob_none hj]
  | some j =>
    rw [State.modifyJob_some hj]
    exact h.setJob hj (hf j).1 (hf j).2.1 (hf j).2.2.ge fun _ => (hf j).2.2

theorem survives_depends (L : Nat) (s : State) : DependsOn [.jobs] (s.Survives L) := fun u v hag h => by
  have hjobs : v.jobs = u.jobs := hag .jobs (by simp)
  intro i j hj
  rw [State.job?, hjobs]
  exact h i j hj

theorem survives_logKept (L : Nat) (s : State) : LogKept (s.Survives L) :=
  .of_logged (survives_depends L s) fun h hl => h.logged hl

theorem survives_jobKept (L : Nat) (s : State) : JobKept L (s.Survives L) where
  toLogKept := survives_logKept L s
  edit u i j j' hj he h := h.setJob hj he.number he.startDepth he.holeDepth.ge fun _ => he.holeDepth
  opened u i number start diameter rodType b1 b2 bha hfree _ _ h := by
    intro k x hx
    obtain ⟨y, hy, hrest⟩ := h k x hx
    have hik : i ≠ k := fun he => by
      subst he
      exact absurd (hfree.symm.trans hy) (by simp)
    exact ⟨y, by rw [State.setJob_job?_other hik]; exact hy, by rw [State.setJob_gen]; exact hrest⟩
  activate u i j hj _ h :=
    (h.setJob hj rfl rfl le_rfl fun _ => rfl :
      s.Survives L (u.setJob i { j with phase := .active, bitDepth := 0 })).logged (frame_transit _ _).logged
  suspend u i _ h := by
    have hset : s.Survives L (u.modifyJob i fun j => { j with phase := .suspended, bitDepth := 0 }) :=
      h.modifyJob fun _ => ⟨rfl, rfl, rfl⟩
    exact (hset.logged (State.dropHeld_frame _).logged).logged (State.giveUpParcels_logged i _)
  settle u i h := (h.logged (State.settleLines_logged i u)).modifyJob fun _ => ⟨rfl, rfl, rfl⟩
  closed u i j hj _ h := h.setJob hj rfl rfl le_rfl fun _ => rfl
  reband u i j b1 b2 hj _ h :=
    (h.setJob hj rfl rfl le_rfl fun _ => rfl :
      s.Survives L (u.setJob i { j with b1 := b1, b2 := b2 })).logged (rebandFootage_logged ..)
  bind u i c a b v _ hv h := h.logged (State.bindRange_logged hv)
  drop u h := h.logged (State.Logged.setParcels ..)
  bed u a j lith col ha _ h := h.setJob ha.2 rfl rfl le_rfl fun _ => rfl
  newHole u i j h1 hj hlt hle h := by
    refine (survives_logKept L s).newHole_of hj ?_
    have hset : s.Survives L (u.setJob i { j with holeDepth := h1, bitDepth := h1 }) :=
      h.setJob hj.2 rfl rfl hlt.le fun h0 => by omega
    exact (hset.logged (State.creditString_frame _ _).logged).logged (State.extendColumn_logged ..)

theorem State.Survives.refl (L : Nat) (s : State) : s.Survives L s := fun _ j hj => ⟨j, hj, rfl, rfl, rfl, le_rfl, fun _ => rfl⟩

/-- What a command leaves of a job: the job, its hole deeper only by a HEIGHT report, or a slot with a new generation. -/
def State.HoldsOrFrees (s t : State) : Prop :=
  ∀ i j, s.job? i = some j → (∃ j', t.job? i = some j' ∧ t.jobs[i].gen = s.jobs[i].gen ∧ j'.number = j.number
      ∧ j'.startDepth = j.startDepth ∧ j'.holeDepth = j.holeDepth)
    ∨ (t.job? i = none ∧ t.jobs[i].gen = nextGen s.jobs[i].gen)

theorem State.Survives.holds (h : s.Survives 0 t) : s.HoldsOrFrees t := fun i j hj => by
  obtain ⟨j', hj', hgen, hnum, hstart, _, heq⟩ := h i j hj
  exact .inl ⟨j', hj', hgen, hnum, hstart, heq rfl⟩

theorem State.HoldsOrFrees.logged (h : s.HoldsOrFrees t) (hl : t.Logged u) : s.HoldsOrFrees u := by
  intro i j hj
  obtain ⟨j', hj', hgen, hnum, hstart, heq⟩ | ⟨hnone, hgen⟩ := h i j hj
  · obtain ⟨j'', hj'', hlog⟩ := hl.some i j' hj'
    refine .inl ⟨j'', hj'', (hl.gen i).trans hgen, ?_⟩
    rw [hlog]
    exact ⟨hnum, hstart, heq⟩
  · exact .inr ⟨hl.none i hnone, (hl.gen i).trans hgen⟩

theorem holdsOrFrees_settled (s : State) : Settled [.jobs] s.HoldsOrFrees := by
  refine ⟨fun u v hag h => ?_, by simp⟩
  have hjobs : v.jobs = u.jobs := hag .jobs (by simp)
  intro i j hj
  rw [State.job?, hjobs]
  exact h i j hj

/-- A request that may free slots leaves of each job what its block does. -/
theorem holdsOrFrees_of_request {code : Byte} {required : Nat} {cls : ReqClass} {body : Nat → List Word → State → Reply}
    {r : Request} (hx : takeRequest code required cls body r s = .next t)
    (hbody : ∀ l ws u, Answers u.HoldsOrFrees (body l ws u)) : s.HoldsOrFrees t := by
  refine (holdsOrFrees_settled s).of_outcome (fun u hu => hu.logged (State.enterOperate_logged u))
    (takeRequest_outcome (fun l ws => hbody l ws (s.heard code r)) hx) (State.Survives.refl 0 s).holds

end Survives

/-- Settles O23: every command but INITIALISE and RELEASE_JOB keeps the jobs it finds; those two leave a new
generation. -/
theorem holeDepthNeverFalls : Obligations.HoleDepthNeverFalls := by
  intro c s t i j hx hj
  by_cases hh : ∃ m, c = .height m
  · obtain ⟨m, rfl⟩ := hh
    obtain ⟨j', hj', hgen, hnum, hstart, hle, _⟩ := (survives_jobKept s.roster.stringLen s).exec (fun _ => by simp)
      (fun _ => by simp) (fun _ _ => le_rfl) hx (.refl _ s) i j hj
    exact .inl ⟨j', hj', hgen, hnum, hstart, hle, fun _ => ⟨m, rfl⟩⟩
  · have hkept : s.HoldsOrFrees t := by
      by_cases hi : ∃ r, c = .initialise r
      · obtain ⟨r, rfl⟩ := hi
        refine holdsOrFrees_of_request hx fun l ws u => serveInitialise_answers.mono ?_
        rintro v ⟨_, rfl⟩ k x hx
        exact .inr ⟨initialised_job? u k, initialised_gen hx⟩
      · by_cases hr : ∃ r, c = .releaseJob r
        · obtain ⟨r, rfl⟩ := hr
          refine holdsOrFrees_of_request hx fun l ws u => serveReleaseJob_answers.mono ?_
          rintro v ⟨i, j, _, _, rfl⟩ k x hx
          by_cases hik : i = k
          · subst hik
            exact .inr ⟨State.freeJob_job?_same i u, by simp [State.freeJob]⟩
          · refine .inl ⟨x, by rw [State.freeJob_job?_other hik]; exact hx, ?_, rfl, rfl, rfl⟩
            rw [State.freeJob_slot_other hik]
        · exact ((survives_jobKept 0 s).exec (fun r he => hi ⟨r, he⟩) (fun r he => hr ⟨r, he⟩)
            (fun m he => absurd ⟨m, he⟩ hh) hx (.refl 0 s)).holds
    obtain ⟨j', hj', hgen, hnum, hstart, heq⟩ | hfreed := hkept i j hj
    · exact .inl ⟨j', hj', hgen, hnum, hstart, heq.ge, fun hlt => absurd heq (by omega)⟩
    · exact .inr hfreed

end Sys2Proof.Machine
end

section
/-! PROOFS. The parcels of the Transit List through every command: their number, and the ARRIVED ones the oldest. -/

namespace Sys2Proof.Machine

/-! ### Lists of parcels -/

/-- No ARRIVED parcel stands behind one in transit. -/
theorem arrivedFirst_iff : ∀ {ps : List Parcel},
    arrivedFirst ps = true ↔ ps.Pairwise fun p q => p.arrived = false → q.arrived = false
  | [] => by simp [arrivedFirst]
  | p :: rest => by
    rw [arrivedFirst, List.pairwise_cons]
    split
    next hp => simp [hp, arrivedFirst_iff]
    next hp =>
      simp only [Bool.not_eq_true] at hp
      simp only [hp, List.all_eq_true, Bool.not_eq_true', forall_const]
      exact ⟨fun h => ⟨h, List.pairwise_of_forall_mem_list fun a _ b hb _ => h b hb⟩, fun h => h.1⟩

/-- A list of parcels as the Transit List holds it (R125). -/
structure QueueOk (ps : List Parcel) : Prop where
  length : ps.length ≤ parcelLimit
  arrived : arrivedCount ps ≤ arrivedLimit
  order : ps.Pairwise fun p q => p.arrived = false → q.arrived = false

theorem queueOk_iff {s : State} : QueueOk s.transit.parcels ↔ s.TransitOk :=
  ⟨fun h => ⟨h.length, h.arrived, arrivedFirst_iff.2 h.order⟩, fun h => ⟨h.1, h.2.1, arrivedFirst_iff.1 h.2.2⟩⟩

section Queue

variable {ps qs : List Parcel}

theorem QueueOk.sublist (h : QueueOk ps) (hq : qs.Sublist ps) : QueueOk qs :=
  ⟨hq.length_le.trans h.length, (hq.filter _).length_le.trans h.arrived, h.order.sublist hq⟩

theorem arrivedCount_map (f : Parcel → Parcel) (hf : ∀ p, (f p).arrived = p.arrived) (ps : List Parcel) :
    arrivedCount (ps.map f) = arrivedCount ps := by
  induction ps with
  | nil => rfl
  | cons p ps ih =>
    simp only [arrivedCount, List.map_cons, List.filter_cons, hf] at ih ⊢
    split <;> simp [ih]

theorem QueueOk.map (h : QueueOk ps) {f : Parcel → Parcel} (hf : ∀ p, (f p).arrived = p.arrived) : QueueOk (ps.map f) :=
  ⟨by rw [List.length_map]; exact h.length, by rw [arrivedCount_map f hf]; exact h.arrived,
    List.pairwise_map.2 (h.order.imp fun hpq hp => by rw [hf] at hp ⊢; exact hpq hp)⟩

theorem arrivedCount_append (ps qs : List Parcel) : arrivedCount (ps ++ qs) = arrivedCount ps + arrivedCount qs := by
  simp [arrivedCount]

/-- A parcel in transit joins as the youngest (R128). -/
theorem QueueOk.append (h : QueueOk ps) (hl : ps.length < parcelLimit) {p : Parcel} (hp : p.arrived = false) :
    QueueOk (ps ++ [p]) := by
  refine ⟨by rw [List.length_append]; exact hl, ?_, List.pairwise_append.2 ⟨h.order, by simp, fun a _ b hb _ => ?_⟩⟩
  · rw [arrivedCount_append, show arrivedCount [p] = 0 by simp [arrivedCount, hp]]
    exact h.arrived
  · rw [List.mem_singleton.1 hb, hp]

/-- The youngest parcel replaced by one that has arrived just when it has (R129). -/
theorem QueueOk.replaceLast {y z : Parcel} (h : QueueOk (ps ++ [y])) (hz : z.arrived = y.arrived) :
    QueueOk (ps ++ [z]) := by
  obtain ⟨hl, ha, ho⟩ := h
  refine ⟨by simpa using hl, ?_, ?_⟩
  · rw [arrivedCount_append, show arrivedCount [z] = arrivedCount [y] by
      simp only [arrivedCount, List.filter_cons, hz, List.filter_nil]
      split <;> rfl]
    rwa [arrivedCount_append] at ha
  · rw [List.pairwise_append] at ho ⊢
    simp only [List.mem_singleton, forall_eq, hz] at ho ⊢
    exact ⟨ho.1, by simp, ho.2.2⟩

/-- An ordered list without a parcel ARRIVED at its head has none ARRIVED. -/
theorem arrivedCount_eq_zero {p : Parcel} (h : (p :: ps).Pairwise fun p q => p.arrived = false → q.arrived = false)
    (hp : p.arrived = false) : arrivedCount (p :: ps) = 0 := by
  rw [List.pairwise_cons] at h
  rw [arrivedCount, List.length_eq_zero_iff, List.filter_eq_nil_iff]
  intro q hq
  obtain rfl | hq := List.mem_cons.1 hq
  · simp [hp]
  · simp [h.1 q hq hp]

theorem arriveFirst_length : ∀ ps : List Parcel, (arriveFirst ps).length = ps.length
  | [] => rfl
  | p :: rest => by
    rw [arriveFirst]
    split
    · rw [List.length_cons, arriveFirst_length rest, List.length_cons]
    · rfl

theorem arriveFirst_arrivedCount : ∀ ps : List Parcel, arrivedCount (arriveFirst ps) ≤ arrivedCount ps + 1
  | [] => Nat.zero_le _
  | p :: rest => by
    rw [arriveFirst]
    have ih := arriveFirst_arrivedCount rest
    split
    next hp =>
      simp only [arrivedCount, List.filter_cons, hp, if_true, List.length_cons] at ih ⊢
      omega
    next hp => simp [arrivedCount, hp]

/-- The oldest parcel in transit ARRIVED stands behind those ARRIVED before (R131). -/
theorem arriveFirst_order : ∀ {ps : List Parcel}, ps.Pairwise (fun p q => p.arrived = false → q.arrived = false) →
    (arriveFirst ps).Pairwise fun p q => p.arrived = false → q.arrived = false
  | [], h => h
  | p :: rest, h => by
    rw [List.pairwise_cons] at h
    rw [arriveFirst]
    split
    next hp => exact List.pairwise_cons.2 ⟨fun q _ hf => absurd (hp.symm.trans hf) (by simp), arriveFirst_order h.2⟩
    next hp => exact List.pairwise_cons.2 ⟨fun q _ (hf : true = false) => absurd hf (by simp), h.2⟩

theorem QueueOk.arriveFirst (h : QueueOk ps) (hl : arrivedCount ps < arrivedLimit) : QueueOk (arriveFirst ps) :=
  ⟨by rw [arriveFirst_length]; exact h.length, (arriveFirst_arrivedCount ps).trans hl, arriveFirst_order h.order⟩

end Queue

/-! ### The Transit List -/

section Transit

variable {s t : State} {i : Fin 4} {j : Job}

/-- The list's parcels are sound. -/
def State.ParcelQueue (s : State) : Prop := QueueOk s.transit.parcels

theorem Frame.parcelQueue {ps : List Part} (hf : Frame ps s t) (hp : .transit ∉ ps := by simp) (h : s.ParcelQueue) :
    t.ParcelQueue := by
  have ht : t.transit = s.transit := hf.kept .transit hp
  rw [State.ParcelQueue, ht]
  exact h

theorem markParcels_parcelQueue (status : CutStatus) (ps : List Parcel) (h : s.ParcelQueue) :
    (s.markParcels i status ps).ParcelQueue :=
  (Frame.foldl _ (fun _ _ => State.markRange_frame ..) ps s).parcelQueue (h := h)

theorem markRange_parcelQueue (status : CutStatus) (a b : Nat) (h : s.ParcelQueue) :
    (s.markRange i status a b).ParcelQueue :=
  (State.markRange_frame ..).parcelQueue (h := h)

/-- With four ARRIVED the oldest, which is one of them, gives way (R132). -/
theorem dropOldest_parcels (h : s.ParcelQueue) :
    (s.dropOldest i).ParcelQueue ∧ arrivedCount (s.dropOldest i).transit.parcels < arrivedLimit := by
  unfold State.dropOldest
  split
  next hlt => exact ⟨h, hlt⟩
  next hge =>
    split
    next hnil => exact absurd (by rw [hnil]; decide) hge
    next p rest hcons =>
      have hq : QueueOk (p :: rest) := by rw [← hcons]; exact h
      have hmarked : ((s.setParcels rest).markRange i .notSampled p.top p.bottom).transit = (s.setParcels rest).transit :=
        (State.markRange_frame ..).kept .transit (by simp)
      rw [hcons] at hge
      constructor
      · show QueueOk ((s.setParcels rest).markRange i .notSampled p.top p.bottom).transit.parcels
        rw [hmarked]
        exact hq.sublist (List.sublist_cons_self p rest)
      · show arrivedCount ((s.setParcels rest).markRange i .notSampled p.top p.bottom).transit.parcels < _
        rw [hmarked]
        have hhead : p.arrived = true := by
          by_contra hf
          exact hge (by rw [arrivedCount_eq_zero hq.order (by simpa using hf)]; decide)
        have hcount : arrivedCount (p :: rest) = arrivedCount rest + 1 := by
          simp [arrivedCount, hhead]
        have := hq.arrived
        show arrivedCount rest < _
        omega

theorem birth_parcelQueue (h : s.ParcelQueue) : (s.birth i).ParcelQueue := by
  cases hj : s.job? i with
  | none => rwa [State.birth_of_none (.inl hj)]
  | some j =>
    cases ht : s.transit.formingTop with
    | none => rwa [State.birth_of_none (.inr ht)]
    | some top =>
      rw [State.birth_eq hj ht]
      split_ifs with htotal hfull
      · exact markRange_parcelQueue _ _ _ h
      · unfold State.mergeBirth
        split
        · exact h
        next y hy =>
          have hlist : s.transit.parcels.dropLast ++ [y] = s.transit.parcels := List.dropLast_append_getLast? y hy
          have hq : QueueOk (s.transit.parcels.dropLast ++ [y]) := by rw [hlist]; exact h
          exact hq.replaceLast rfl
      · exact QueueOk.append h (by omega) rfl

theorem parcelQueue_depends : DependsOn [.jobs, .transit] State.ParcelQueue := fun s t hag h => by
  have ht : t.transit = s.transit := hag .transit (by simp)
  rw [State.ParcelQueue, ht]
  exact h

theorem parcelQueue_logKept : LogKept State.ParcelQueue where
  depends := parcelQueue_depends
  timing _ _ _ h := h
  bill s i line q _ h := (State.addUnsettled_frame ..).parcelQueue (h := h)
  credit s i h := (State.modifyJob_frame ..).parcelQueue (h := h)
  flag s i j d f _ _ h := (State.setColumn_frame ..).parcelQueue (h := h)
  lose s i status qs ps _ hq _ h := markParcels_parcelQueue status ps (QueueOk.sublist h hq)
  birth s i _ _ h := birth_parcelQueue h
  relist s f hf h := QueueOk.map h fun p => (hf p).2.2
  arrive s i p _ h := (dropOldest_parcels h).1.arriveFirst (dropOldest_parcels h).2

theorem parcelQueue_jobKept (L : Nat) : JobKept L State.ParcelQueue where
  toLogKept := parcelQueue_logKept
  edit _ _ _ _ _ _ h := h
  opened _ _ _ _ _ _ _ _ _ _ _ _ h := h
  activate s i j _ _ _ := ⟨Nat.zero_le _, Nat.zero_le _, .nil⟩
  suspend s i _ h := by
    show QueueOk (State.giveUpParcels i _).transit.parcels
    rw [State.giveUpParcels_transit]
    exact ⟨Nat.zero_le _, Nat.zero_le _, .nil⟩
  settle s i h := (State.settle_frame i s).parcelQueue (h := h)
  closed _ _ _ _ _ h := h
  reband s i j b1 b2 _ _ h := (State.rebandFootage_frame i j b1 b2 _).parcelQueue (h := h)
  bind s i c a b t _ ht h := (State.bindRange_frame i c a b s t ht).parcelQueue (h := h)
  drop s h := QueueOk.sublist h (removeArrived_sublist _)
  bed _ _ _ _ _ _ _ h := h
  newHole s i j h1 hj _ _ h := by
    refine parcelQueue_logKept.newHole_of hj ?_
    refine (State.extendColumn_frame ..).parcelQueue (h := ?_)
    exact (State.creditString_frame ..).parcelQueue (by simp [rosterParts]) h

theorem exec_parcelQueue {c : Instr} (hx : exec c s = .next t) (h : s.ParcelQueue) : t.ParcelQueue := by
  by_cases hi : ∃ r, c = .initialise r
  · obtain ⟨r, rfl⟩ := hi
    refine parcelQueue_logKept.of_request hx (fun l ws u _ => serveInitialise_answers.mono ?_) h
    rintro v ⟨_, rfl⟩
    exact ⟨Nat.zero_le _, Nat.zero_le _, .nil⟩
  · by_cases hr : ∃ r, c = .releaseJob r
    · obtain ⟨r, rfl⟩ := hr
      refine parcelQueue_logKept.of_request hx (fun l ws u hu => serveReleaseJob_answers.mono ?_) h
      rintro v ⟨i, j, _, _, rfl⟩
      exact hu
    · exact (parcelQueue_jobKept s.roster.stringLen).exec (fun r he => hi ⟨r, he⟩) (fun r he => hr ⟨r, he⟩)
        (fun _ _ => le_rfl) hx h

end Transit

/-- Settles O52: the list's three bounds, kept by every command. -/
theorem transitInvariant : Obligations.TransitInvariant := by
  intro s t h hx
  exact queueOk_iff.1 (parcelQueue_logKept.settled.of_step (fun c u v hx hu => exec_parcelQueue hx hu) hx (queueOk_iff.2 h))

end Sys2Proof.Machine
end

section
/-! PROOFS. Columns of intervals: how they cover a hole, what splits, joins and capacity merges leave of the record at a
depth, of the thickness of a class and of the drilled minutes. -/

namespace Sys2Proof.Machine

/-! ### Covering a range -/

/-- Intervals that follow one another from `a` to `b` without a gap, each at least 1 cm thick but the last (R140). -/
def Covers : Nat → List Interval → Nat → Prop
  | _, [], _ => False
  | a, [iv], b => iv.top = a ∧ a ≤ iv.bottom ∧ iv.bottom = b
  | a, iv :: l :: rest, b => iv.top = a ∧ a < iv.bottom ∧ Covers iv.bottom (l :: rest) b

/-- An interval's record, but for its place and its minutes. -/
def Interval.record (iv : Interval) : Interval := { iv with top := 0, bottom := 0, minutes := 0 }

/-- The sum of a weight of ranges over the intervals of a class. -/
def classSum (w : Nat → Nat → Nat) (c : RockClass) (col : List Interval) : Nat :=
  (col.map fun iv => if iv.cls = c then w iv.top iv.bottom else 0).sum

/-- A weight of ranges that adds up over neighbouring ranges. -/
def AddsUp (w : Nat → Nat → Nat) : Prop := ∀ a m b, a ≤ m → m ≤ b → w a m + w m b = w a b

section Covering

variable {a b m : Nat} {iv u l : Interval} {col rest : List Interval}

theorem covers_singleton : Covers a [iv] b ↔ iv.top = a ∧ a ≤ iv.bottom ∧ iv.bottom = b := Iff.rfl

theorem covers_cons (h : rest ≠ []) : Covers a (iv :: rest) b ↔ iv.top = a ∧ a < iv.bottom ∧ Covers iv.bottom rest b := by
  cases rest with
  | nil => exact absurd rfl h
  | cons l rest => rfl

theorem Covers.ne_nil : Covers a col b → col ≠ [] := by
  cases col with
  | nil => exact fun h => h.elim
  | cons => simp

/-- The first interval of a column that covers a range. -/
theorem Covers.head (h : Covers a (iv :: rest) b) : iv.top = a ∧ a ≤ iv.bottom ∧ iv.bottom ≤ b := by
  induction rest generalizing a iv with
  | nil => exact ⟨h.1, h.2.1, h.2.2.le⟩
  | cons l rest ih =>
    obtain ⟨htop, hlt, hrest⟩ := h
    exact ⟨htop, hlt.le, (ih hrest).2.1.trans (ih hrest).2.2⟩

theorem Covers.le (h : Covers a col b) : a ≤ b := by
  cases col with
  | nil => exact h.elim
  | cons iv rest => exact h.head.2.1.trans h.head.2.2

/-- A column is chained to its bottom exactly when it covers its hole (R140). -/
theorem covers_iff : Covers a col b ↔ chained a col = true ∧ columnBottom col = b := by
  induction col generalizing a with
  | nil => simp [Covers, chained]
  | cons iv rest ih =>
    cases rest with
    | nil =>
      simp only [covers_singleton, chained, columnBottom, List.getLast?_singleton, Option.map_some, Option.getD_some,
        Bool.and_eq_true, beq_iff_eq, decide_eq_true_eq]
      constructor
      · rintro ⟨rfl, hle, hb⟩
        exact ⟨⟨rfl, hle⟩, hb⟩
      · rintro ⟨⟨rfl, hle⟩, hb⟩
        exact ⟨rfl, hle, hb⟩
    | cons l rest =>
      rw [covers_cons (by simp), ih]
      simp only [chained, columnBottom, List.getLast?_cons_cons, Bool.and_eq_true, beq_iff_eq, decide_eq_true_eq]
      constructor
      · rintro ⟨rfl, hlt, hch, hb⟩
        exact ⟨⟨⟨rfl, hlt⟩, hch⟩, hb⟩
      · rintro ⟨⟨⟨rfl, hlt⟩, hch⟩, hb⟩
        exact ⟨rfl, hlt, hch, hb⟩

theorem columnOk_iff {j : Job} : j.ColumnOk ↔ Covers 0 j.column j.holeDepth ∧ j.column.length ≤ columnLimit := by
  rw [covers_iff]
  exact ⟨fun h => ⟨⟨h.1, h.2.2⟩, h.2.1⟩, fun h => ⟨h.1.1, h.2, h.1.2⟩⟩

/-- Changes that keep every interval's range keep what is covered. -/
theorem Covers.map {f : Interval → Interval} (hf : ∀ iv, (f iv).top = iv.top ∧ (f iv).bottom = iv.bottom)
    (h : Covers a col b) : Covers a (col.map f) b := by
  induction col generalizing a with
  | nil => exact h.elim
  | cons iv rest ih =>
    cases rest with
    | nil =>
      obtain ⟨htop, hle, hb⟩ := h
      exact ⟨(hf iv).1.trans htop, (hf iv).2 ▸ hle, (hf iv).2.trans hb⟩
    | cons l rest =>
      obtain ⟨htop, hlt, hrest⟩ := h
      refine ⟨(hf iv).1.trans htop, (hf iv).2 ▸ hlt, ?_⟩
      rw [(hf iv).2]
      exact ih hrest

/-- Intervals of at least 1 cm that follow one another from `a` to `b` without a gap: a column above its deepest
interval. -/
def Tiles : Nat → List Interval → Nat → Prop
  | a, [], b => a = b
  | a, iv :: rest, b => iv.top = a ∧ a < iv.bottom ∧ Tiles iv.bottom rest b

theorem tiles_append {above below : List Interval} :
    Tiles a (above ++ below) b ↔ ∃ m, Tiles a above m ∧ Tiles m below b := by
  induction above generalizing a with
  | nil => simp [Tiles]
  | cons iv rest ih =>
    simp only [List.cons_append, Tiles, ih]
    constructor
    · rintro ⟨htop, hlt, m, hr, hb⟩
      exact ⟨m, ⟨htop, hlt, hr⟩, hb⟩
    · rintro ⟨m, ⟨htop, hlt, hr⟩, hb⟩
      exact ⟨htop, hlt, m, hr, hb⟩

theorem covers_append {above rest : List Interval} (hne : rest ≠ []) :
    Covers a (above ++ rest) b ↔ ∃ m, Tiles a above m ∧ Covers m rest b := by
  induction above generalizing a with
  | nil => simp [Tiles]
  | cons iv above ih =>
    rw [List.cons_append, covers_cons (by simp [hne]), ih]
    simp only [Tiles]
    constructor
    · rintro ⟨htop, hlt, m, hr, hb⟩
      exact ⟨m, ⟨htop, hlt, hr⟩, hb⟩
    · rintro ⟨m, ⟨htop, hlt, hr⟩, hb⟩
      exact ⟨htop, hlt, m, hr, hb⟩

/-- A column that covers a range is a run of intervals above its deepest one. -/
theorem covers_concat {above : List Interval} :
    Covers a (above ++ [iv]) b ↔ Tiles a above iv.top ∧ iv.top ≤ iv.bottom ∧ iv.bottom = b := by
  induction above generalizing a with
  | nil =>
    simp only [List.nil_append, covers_singleton, Tiles]
    constructor
    · rintro ⟨rfl, hle, hb⟩
      exact ⟨rfl, hle, hb⟩
    · rintro ⟨rfl, hle, hb⟩
      exact ⟨rfl, hle, hb⟩
  | cons u rest ih =>
    rw [List.cons_append, covers_cons (by simp), ih, Tiles]
    simp only [and_assoc]

/-- A column continued below a deepest interval of some thickness. -/
theorem Covers.concat (h : Covers a col m) (hlast : ∀ u, col.getLast? = some u → u.top < u.bottom) (htop : iv.top = m)
    (hle : m ≤ iv.bottom) : Covers a (col ++ [iv]) iv.bottom := by
  obtain ⟨above, u, rfl⟩ := (List.eq_nil_or_concat col).resolve_left h.ne_nil
  rw [List.concat_eq_append] at h hlast ⊢
  obtain ⟨ht, _, hb⟩ := covers_concat.1 h
  have hstrict := hlast u (by simp)
  refine covers_concat.2 ⟨?_, htop ▸ hle, rfl⟩
  rw [htop]
  exact tiles_append.2 ⟨u.top, ht, rfl, hstrict, hb⟩

theorem Covers.bottom_eq {last : Interval} (h : Covers a col b) (hl : col.getLast? = some last) : last.bottom = b := by
  have := (covers_iff.1 h).2
  rwa [columnBottom, hl] at this

/-- The deepest interval replaced by one from the same top. -/
theorem Covers.replaceLast {last : Interval} (h : Covers a col b) (hl : col.getLast? = some last) (htop : iv.top = last.top)
    (hle : iv.top ≤ iv.bottom) : Covers a (col.dropLast ++ [iv]) iv.bottom := by
  have hcol : col.dropLast ++ [last] = col := List.dropLast_append_getLast? last hl
  rw [← hcol, covers_concat] at h
  exact covers_concat.2 ⟨htop ▸ h.1, hle, rfl⟩

end Covering

/-! ### Splits (R147) -/

section Splits

variable {a b m s : Nat} {iv u l : Interval} {col rest : List Interval}

theorem split_of_not (h : iv.splitAt s = false) : iv.split s = [iv] := by
  rw [Interval.split, h]
  rfl

theorem splitAt_iff : iv.splitAt s = true ↔ iv.top < s ∧ s < iv.bottom := by
  simp [Interval.splitAt]

/-- The upper part of a split at `s` and its share of the minutes. -/
def Interval.upper (s : Nat) (iv : Interval) : Interval :=
  { iv with bottom := s, minutes := iv.minutes * (s - iv.top) / (iv.bottom - iv.top) }

/-- The lower part of a split at `s`, with the rest of the minutes. -/
def Interval.lower (s : Nat) (iv : Interval) : Interval :=
  { iv with top := s, minutes := iv.minutes - iv.minutes * (s - iv.top) / (iv.bottom - iv.top) }

theorem split_of_splitAt (h : iv.splitAt s = true) : iv.split s = [iv.upper s, iv.lower s] := by
  rw [Interval.split, h]
  rfl

theorem split_minutes (s : Nat) (iv : Interval) : ((iv.split s).map Interval.minutes).sum = iv.minutes := by
  cases h : iv.splitAt s with
  | false => simp [split_of_not h]
  | true =>
    obtain ⟨htop, hbot⟩ := splitAt_iff.1 h
    have hle : iv.minutes * (s - iv.top) / (iv.bottom - iv.top) ≤ iv.minutes := by
      refine Nat.div_le_of_le_mul ?_
      rw [Nat.mul_comm]
      exact Nat.mul_le_mul_right _ (by omega)
    simp only [split_of_splitAt h, List.map_cons, List.map_nil, List.sum_cons, List.sum_nil, Interval.upper, Interval.lower]
    omega

theorem splits_minutes (s : Nat) (col : List Interval) :
    ((col.flatMap (Interval.split s)).map Interval.minutes).sum = (col.map Interval.minutes).sum := by
  induction col with
  | nil => rfl
  | cons iv rest ih =>
    rw [List.flatMap_cons, List.map_append, List.sum_append, split_minutes, ih, List.map_cons, List.sum_cons]

/-- Splits of a column that covers a range cover it. -/
theorem Covers.splits (h : Covers a col b) (s : Nat) : Covers a (col.flatMap (Interval.split s)) b := by
  induction col generalizing a with
  | nil => exact h.elim
  | cons iv rest ih =>
    rw [List.flatMap_cons]
    by_cases hr : rest = []
    · subst hr
      obtain ⟨htop, hle, hb⟩ := covers_singleton.1 h
      cases hs : iv.splitAt s with
      | false => simpa [split_of_not hs] using h
      | true =>
        obtain ⟨hlt, hlt'⟩ := splitAt_iff.1 hs
        rw [split_of_splitAt hs]
        exact ⟨htop, show a < s by omega, rfl, hlt'.le, hb⟩
    · obtain ⟨htop, hlt, hrest⟩ := (covers_cons hr).1 h
      have hne : rest.flatMap (Interval.split s) ≠ [] := (ih hrest).ne_nil
      cases hs : iv.splitAt s with
      | false =>
        rw [split_of_not hs]
        exact (covers_cons hne).2 ⟨htop, hlt, ih hrest⟩
      | true =>
        obtain ⟨hlt1, hlt2⟩ := splitAt_iff.1 hs
        rw [split_of_splitAt hs]
        refine (covers_cons (by simp)).2 ⟨htop, show a < s by omega, ?_⟩
        exact (covers_cons hne).2 ⟨rfl, hlt2, ih hrest⟩

theorem Covers.splitRange (h : Covers m col b) (s e : Nat) : Covers m (splitRange s e col) b := (h.splits s).splits e

/-- A depth splits nothing of what lies below it. -/
theorem Covers.any_splitAt_of_le (h : Covers a col b) (hs : s ≤ a) : col.any (Interval.splitAt s) = false := by
  induction col generalizing a with
  | nil => rfl
  | cons iv rest ih =>
    have hiv : iv.splitAt s = false := by
      rw [← Bool.not_eq_true, splitAt_iff, h.head.1]
      omega
    rw [List.any_cons, hiv, Bool.false_or]
    by_cases hr : rest = []
    · rw [hr, List.any_nil]
    · obtain ⟨_, hlt, hrest⟩ := (covers_cons hr).1 h
      exact ih hrest (by omega)

/-- A depth splits one interval at most. -/
theorem Covers.splits_length (h : Covers a col b) (s : Nat) :
    (col.flatMap (Interval.split s)).length = col.length + (col.any (Interval.splitAt s)).toNat := by
  induction col generalizing a with
  | nil => exact h.elim
  | cons iv rest ih =>
    rw [List.flatMap_cons, List.length_append, List.any_cons, List.length_cons]
    by_cases hr : rest = []
    · subst hr
      cases hs : iv.splitAt s with
      | false => simp [split_of_not hs]
      | true => simp [split_of_splitAt hs]
    · obtain ⟨_, _, hrest⟩ := (covers_cons hr).1 h
      rw [ih hrest]
      cases hs : iv.splitAt s with
      | false =>
        simp only [split_of_not hs, List.length_singleton, Bool.false_or]
        omega
      | true =>
        have hnone := hrest.any_splitAt_of_le (splitAt_iff.1 hs).2.le
        simp [split_of_splitAt hs, hnone]
        omega

/-- A split adds no interval that another depth splits. -/
theorem any_splitAt_splits_le (s e : Nat) (col : List Interval) :
    (col.flatMap (Interval.split s)).any (Interval.splitAt e) = true → col.any (Interval.splitAt e) = true := by
  simp only [List.any_eq_true, List.mem_flatMap]
  rintro ⟨x, ⟨iv, hiv, hx⟩, he⟩
  refine ⟨iv, hiv, ?_⟩
  cases hs : iv.splitAt s with
  | false =>
    rw [split_of_not hs, List.mem_singleton] at hx
    exact hx ▸ he
  | true =>
    obtain ⟨h1, h2⟩ := splitAt_iff.1 hs
    rw [split_of_splitAt hs, List.mem_cons, List.mem_singleton] at hx
    rw [splitAt_iff] at he ⊢
    obtain rfl | rfl := hx
    · exact ⟨he.1, he.2.trans h2⟩
    · exact ⟨h1.trans he.1, he.2⟩

theorem Covers.splitRange_length_le (h : Covers a col b) (s e : Nat) :
    (Machine.splitRange s e col).length ≤ col.length + splitsNeeded s e col := by
  rw [Machine.splitRange, (h.splits s).splits_length e, h.splits_length s, splitsNeeded]
  have := any_splitAt_splits_le s e col
  cases h1 : (col.flatMap (Interval.split s)).any (Interval.splitAt e) <;> cases h2 : col.any (Interval.splitAt e) <;>
    simp_all

end Splits

/-! ### Joins (R150) -/

section Joins

variable {a b m : Nat} {u l cur : Interval} {rest : List (Interval × Bool)} {touched : Bool}

theorem identical_iff : identical u l = true ↔ u.record = l.record := by
  simp only [identical, Interval.record, Bool.and_eq_true, beq_iff_eq, Interval.mk.injEq, true_and, and_true]
  simp only [and_assoc]

/-- A property of columns kept by every join of two neighbours of one record is kept by the joins of a run. -/
theorem joinFrom_induct {P : List Interval → Prop}
    (hjoin : ∀ above u l below, u.record = l.record → P (above ++ u :: l :: below) → P (above ++ joinPair u l :: below)) :
    ∀ (rest : List (Interval × Bool)) (above : List Interval) (cur : Interval) (touched : Bool),
      P (above ++ cur :: rest.map Prod.fst) → P (above ++ joinFrom cur touched rest)
  | [], _, _, _, h => h
  | (l, t) :: rest, above, cur, touched, h => by
    rw [joinFrom]
    split
    next hid =>
      have hrec := identical_iff.1 (Bool.and_eq_true_iff.1 hid).1
      exact joinFrom_induct hjoin rest above (joinPair cur l) true (hjoin above cur l _ hrec h)
    · have hrest := joinFrom_induct hjoin rest (above ++ [cur]) l t (by simpa using h)
      simpa using hrest

/-- A property of columns kept by every join of two neighbours of one record is kept by the marked joins. -/
theorem joinMarked_induct {P : List Interval → Prop}
    (hjoin : ∀ above u l below, u.record = l.record → P (above ++ u :: l :: below) → P (above ++ joinPair u l :: below))
    {marked : List (Interval × Bool)} (h : P (marked.map Prod.fst)) : P (joinMarked marked) := by
  cases marked with
  | nil => exact h
  | cons x rest => exact joinFrom_induct hjoin rest [] x.1 x.2 h

theorem Covers.join {above below : List Interval} (h : Covers a (above ++ u :: l :: below) b) :
    Covers a (above ++ joinPair u l :: below) b := by
  obtain ⟨m, hab, hrest⟩ := (covers_append (by simp)).1 h
  obtain ⟨htop, hlt, hrest⟩ := (covers_cons (by simp)).1 hrest
  have hl : l.top = u.bottom ∧ u.bottom ≤ l.bottom ∧ l.bottom ≤ b := hrest.head
  refine (covers_append (by simp)).2 ⟨m, hab, ?_⟩
  by_cases hr : below = []
  · subst hr
    exact ⟨htop, show m ≤ l.bottom by omega, (covers_singleton.1 hrest).2.2⟩
  · obtain ⟨_, hlt', hbelow⟩ := (covers_cons hr).1 hrest
    exact (covers_cons hr).2 ⟨htop, show m < l.bottom by omega, hbelow⟩

theorem Covers.joinMarked {marked : List (Interval × Bool)} (h : Covers a (marked.map Prod.fst) b) :
    Covers a (joinMarked marked) b :=
  joinMarked_induct (P := fun col => Covers a col b) (fun _ _ _ _ _ hc => hc.join) h

theorem joinMarked_length_le (marked : List (Interval × Bool)) : (joinMarked marked).length ≤ marked.length := by
  have := joinMarked_induct (P := fun col => col.length ≤ marked.length) (fun above u l below _ hl => ?_)
    (marked := marked) (by simp)
  · exact this
  · simp at hl ⊢
    omega

theorem joinRange_marked (s e : Nat) (col : List Interval) :
    (col.map fun iv => (iv, iv.inside s e)).map Prod.fst = col := by
  rw [List.map_map, show Prod.fst ∘ (fun iv : Interval => (iv, iv.inside s e)) = id from rfl, List.map_id]

theorem Covers.joinRange {col : List Interval} (h : Covers m col b) (s e : Nat) : Covers m (joinRange s e col) b :=
  Covers.joinMarked (by rwa [joinRange_marked])

theorem joinRange_length_le (s e : Nat) (col : List Interval) : (joinRange s e col).length ≤ col.length :=
  (joinMarked_length_le _).trans (by rw [List.length_map])

end Joins

/-! ### Capacity merges (R148) -/

section Merges

variable {a b k : Nat} {u l : Interval} {col rest : List Interval} {w : Nat × Nat}

/-- Place `k` of a column has a neighbour below it of its own class, neither of them the deepest (R148). -/
def Eligible (col : List Interval) (k : Nat) (u l : Interval) : Prop :=
  k + 2 < col.length ∧ col[k]? = some u ∧ col[k + 1]? = some l ∧ u.cls = l.cls

theorem eligible_zero {below u' l' : Interval} :
    Eligible (u :: l :: below :: rest) 0 u' l' ↔ u = u' ∧ l = l' ∧ u.cls = l.cls := by
  simp only [Eligible, List.length_cons, List.getElem?_cons_zero, List.getElem?_cons_succ, Option.some.injEq]
  constructor
  · rintro ⟨_, rfl, rfl, hcls⟩
    exact ⟨rfl, rfl, hcls⟩
  · rintro ⟨rfl, rfl, hcls⟩
    exact ⟨by omega, rfl, rfl, hcls⟩

theorem eligible_succ {u' l' : Interval} : Eligible (u :: col) (k + 1) u' l' ↔ Eligible col k u' l' := by
  simp [Eligible]
  omega

theorem not_eligible_of_short (h : col.length ≤ 2) : ¬Eligible col k u l := fun he => by
  obtain ⟨hk, _⟩ := he
  omega

/-- The eligible pairs are listed with their combined thickness, counted from a place on. -/
theorem mem_eligiblePairs {n : Nat} : w ∈ eligiblePairs n col ↔
    ∃ k u l, Eligible col k u l ∧ w = (n + k, l.bottom - u.top) := by
  fun_induction eligiblePairs n col with
  | case1 n u l below rest deeper hcls ih =>
    rw [List.mem_cons, ih]
    constructor
    · rintro (rfl | ⟨k, u', l', he, rfl⟩)
      · exact ⟨0, u, l, eligible_zero.2 ⟨rfl, rfl, hcls⟩, rfl⟩
      · exact ⟨k + 1, u', l', eligible_succ.2 he, by rw [Nat.add_right_comm, Nat.add_assoc]⟩
    · rintro ⟨_ | k, u', l', he, rfl⟩
      · obtain ⟨rfl, rfl, _⟩ := eligible_zero.1 he
        exact .inl rfl
      · exact .inr ⟨k, u', l', eligible_succ.1 he, by rw [Nat.add_right_comm, Nat.add_assoc]⟩
  | case2 n u l below rest deeper hcls ih =>
    rw [ih]
    constructor
    · rintro ⟨k, u', l', he, rfl⟩
      exact ⟨k + 1, u', l', eligible_succ.2 he, by rw [Nat.add_right_comm, Nat.add_assoc]⟩
    · rintro ⟨_ | k, u', l', he, rfl⟩
      · exact absurd (eligible_zero.1 he).2.2 hcls
      · exact ⟨k, u', l', eligible_succ.1 he, by rw [Nat.add_right_comm, Nat.add_assoc]⟩
  | case3 col n hshort =>
    have hlen : col.length ≤ 2 := by
      match col, hshort with
      | [], _ | [_], _ | [_, _], _ => simp
      | u :: l :: below :: rest, h => exact (h u l below rest rfl).elim
    simp [not_eligible_of_short hlen]

/-- The pairs are listed from the shallowest down. -/
theorem eligiblePairs_ordered (n : Nat) (col : List Interval) :
    (eligiblePairs n col).Pairwise fun p q => p.1 < q.1 := by
  fun_induction eligiblePairs n col with
  | case1 n u l below rest deeper hcls ih =>
    refine List.pairwise_cons.2 ⟨fun q hq => ?_, ih⟩
    obtain ⟨k, _, _, _, rfl⟩ := mem_eligiblePairs.1 hq
    show n < n + 1 + k
    omega
  | case2 n u l below rest deeper hcls ih => exact ih
  | case3 col n hshort => exact .nil

/-- The best pair is thinner than every one above it, and as thin as every one below. -/
theorem bestPair_some {p : Nat × Nat} : ∀ {ps : List (Nat × Nat)}, bestPair ps = some p →
    ∃ above below, ps = above ++ p :: below ∧ (∀ q ∈ above, p.2 < q.2) ∧ ∀ q ∈ below, p.2 ≤ q.2
  | [], h => by cases h
  | q :: rest, h => by
    rw [bestPair] at h
    split at h
    next hnone =>
      obtain rfl := Option.some.inj h
      cases rest with
      | nil => exact ⟨[], [], rfl, by simp, by simp⟩
      | cons r rest =>
        rw [bestPair] at hnone
        split at hnone
        · cases hnone
        · split at hnone <;> cases hnone
    next r hr =>
      obtain ⟨above, below, hrest, habove, hbelow⟩ := bestPair_some hr
      split at h
      next hlt =>
        obtain rfl := Option.some.inj h
        exact ⟨q :: above, below, by rw [hrest, List.cons_append], by simpa [hlt] using habove, hbelow⟩
      next hge =>
        obtain rfl := Option.some.inj h
        refine ⟨[], rest, rfl, by simp, fun x hx => ?_⟩
        rw [hrest] at hx
        obtain hx | rfl | hx := by simpa using hx
        · exact (not_lt.1 hge).trans (habove x hx).le
        · exact not_lt.1 hge
        · exact (not_lt.1 hge).trans (hbelow x hx)

theorem bestPair_none {ps : List (Nat × Nat)} (h : bestPair ps = none) : ps = [] := by
  cases ps with
  | nil => rfl
  | cons p rest =>
    rw [bestPair] at h
    split at h
    · cases h
    · split at h <;> cases h

theorem mergeAt_eq : ∀ {k : Nat} {col : List Interval}, col[k]? = some u → col[k + 1]? = some l →
    mergeAt k col = col.take k ++ mergeIntervals u l :: col.drop (k + 2)
  | _, [], h, _ => by simp at h
  | 0, [x], _, h => by simp at h
  | 0, x :: y :: rest, h, h' => by
    obtain rfl : x = u := by simpa using h
    obtain rfl : y = l := by simpa using h'
    rfl
  | k + 1, x :: rest, h, h' => by
    rw [mergeAt, mergeAt_eq (k := k) (by simpa using h) (by simpa using h')]
    rfl

/-- A column cut at an eligible pair. -/
theorem Eligible.eq_append (h : Eligible col k u l) : col = col.take k ++ u :: l :: col.drop (k + 2)
    ∧ col.drop (k + 2) ≠ [] := by
  obtain ⟨hlen, hu, hl, _⟩ := h
  obtain ⟨hk, rfl⟩ := List.getElem?_eq_some_iff.1 hu
  obtain ⟨hk', rfl⟩ := List.getElem?_eq_some_iff.1 hl
  refine ⟨?_, fun he => ?_⟩
  · rw [← List.drop_eq_getElem_cons hk', ← List.drop_eq_getElem_cons hk, List.take_append_drop]
  · rw [List.drop_eq_nil_iff] at he
    omega

/-- What a capacity merge makes of a column: two neighbours of one class, above the deepest interval, merged (R148). -/
theorem capacityMerge_some {col' : List Interval} (h : capacityMerge col = some col') :
    ∃ above u l below, below ≠ [] ∧ u.cls = l.cls ∧ col = above ++ u :: l :: below
      ∧ col' = above ++ mergeIntervals u l :: below := by
  obtain ⟨p, hp, rfl⟩ := Option.map_eq_some_iff.1 h
  obtain ⟨above, below, hpairs, _⟩ := bestPair_some hp
  obtain ⟨k, u, l, he, hk⟩ := mem_eligiblePairs.1 (show p ∈ eligiblePairs 0 col by simp [hpairs])
  obtain ⟨hcol, hne⟩ := he.eq_append
  refine ⟨col.take k, u, l, col.drop (k + 2), hne, he.2.2.2, hcol, ?_⟩
  rw [hk, Nat.zero_add]
  exact mergeAt_eq he.2.1 he.2.2.1

theorem capacityMerge_length {col' : List Interval} (h : capacityMerge col = some col') :
    col.length = col'.length + 1 := by
  obtain ⟨above, u, l, below, _, _, rfl, rfl⟩ := capacityMerge_some h
  simp
  omega

theorem capacityMerge_getLast? {col' : List Interval} (h : capacityMerge col = some col') :
    col'.getLast? = col.getLast? := by
  obtain ⟨above, u, l, below, hne, _, rfl, rfl⟩ := capacityMerge_some h
  obtain ⟨below, x, rfl⟩ := (List.eq_nil_or_concat below).resolve_left hne
  simp [List.getLast?_append, List.getLast?_cons]

theorem Covers.capacityMerge {col' : List Interval} (h : Covers a col b) (hm : capacityMerge col = some col') :
    Covers a col' b := by
  obtain ⟨above, u, l, below, hne, _, rfl, rfl⟩ := capacityMerge_some hm
  obtain ⟨m, hab, hrest⟩ := (covers_append (by simp)).1 h
  obtain ⟨htop, hlt, hrest⟩ := (covers_cons (by simp)).1 hrest
  obtain ⟨htop', hlt', hbelow⟩ := (covers_cons hne).1 hrest
  exact (covers_append (by simp)).2 ⟨m, hab, (covers_cons hne).2 ⟨htop, hlt.trans hlt', hbelow⟩⟩

/-- Room found is room in the column or in one merged further (R148). -/
theorem seekRoom_induct {need : List Interval → Nat} {P : List Interval → Prop}
    (hmerge : ∀ {c c'}, Machine.capacityMerge c = some c' → P c → P c') :
    ∀ {fuel : Nat} {col roomy : List Interval}, seekRoom need fuel col = some roomy → P col →
      P roomy ∧ need roomy ≤ columnLimit - roomy.length
  | 0, col, roomy, h, hcol => by
    rw [seekRoom] at h
    split at h
    next hroom =>
      obtain rfl := Option.some.inj h
      exact ⟨hcol, hroom⟩
    · cases h
  | fuel + 1, col, roomy, h, hcol => by
    rw [seekRoom] at h
    split at h
    next hroom =>
      obtain rfl := Option.some.inj h
      exact ⟨hcol, hroom⟩
    · obtain ⟨col', hm, hs⟩ := Option.bind_eq_some_iff.1 h
      exact seekRoom_induct hmerge hs (hmerge hm hcol)

end Merges

/-! ### Range changes and marks on covering columns -/

section Changes

variable {a b m h : Nat} {col : List Interval} {table : Vector LithEntry 64} {c : RangeChange}

theorem RangeChange.set_range (iv : Interval) : (c.set table iv).top = iv.top ∧ (c.set table iv).bottom = iv.bottom := by
  rcases c with ⟨_, _ | _⟩ | _ | _ <;> exact ⟨rfl, rfl⟩

theorem Covers.mapIdx {g : Nat → Interval → Interval} (hg : ∀ n iv, (g n iv).top = iv.top ∧ (g n iv).bottom = iv.bottom)
    (hc : Covers m col h) : Covers m (col.mapIdx g) h := by
  induction col generalizing m g with
  | nil => exact hc.elim
  | cons iv rest ih =>
    rw [List.mapIdx_cons]
    by_cases hr : rest = []
    · subst hr
      obtain ⟨htop, hle, hb⟩ := covers_singleton.1 hc
      exact ⟨(hg 0 iv).1.trans htop, (hg 0 iv).2 ▸ hle, (hg 0 iv).2.trans hb⟩
    · obtain ⟨htop, hlt, hrest⟩ := (covers_cons hr).1 hc
      have hmapped := ih (fun n iv => hg (n + 1) iv) hrest
      refine (covers_cons hmapped.ne_nil).2 ⟨(hg 0 iv).1.trans htop, (hg 0 iv).2 ▸ hlt, ?_⟩
      rw [(hg 0 iv).2]
      exact hmapped

theorem Covers.setAndJoin (hc : Covers m col h) (sets : Interval → Bool) (a b : Nat) :
    Covers m (setAndJoin table c sets a b col) h := by
  refine Covers.joinRange (hc.map fun iv => ?_) a b
  split
  · exact RangeChange.set_range iv
  · exact ⟨rfl, rfl⟩

theorem setAndJoin_length_le (sets : Interval → Bool) (a b : Nat) (col : List Interval) :
    (setAndJoin table c sets a b col).length ≤ col.length :=
  (joinRange_length_le ..).trans (by rw [List.length_map])

/-- A column within its limit that covers its hole. -/
def ColumnSound (h : Nat) (col : List Interval) : Prop := Covers 0 col h ∧ col.length ≤ columnLimit

theorem ColumnSound.capacityMerge {col' : List Interval} (hs : ColumnSound h col)
    (hm : Machine.capacityMerge col = some col') : ColumnSound h col' := by
  have := capacityMerge_length hm
  exact ⟨hs.1.capacityMerge hm, by have := hs.2; omega⟩

theorem ColumnSound.applyRange {r : List Interval × List ClassChange} (hs : ColumnSound h col)
    (hr : applyRange table c a b col = some r) : ColumnSound h r.1 := by
  obtain ⟨roomy, hroomy, rfl⟩ := Option.map_eq_some_iff.1 hr
  obtain ⟨⟨hcov, hlen⟩, hroom⟩ := seekRoom_induct (P := ColumnSound h) (fun hm hc => hc.capacityMerge hm) hroomy hs
  refine ⟨(hcov.splitRange a b).setAndJoin .., (setAndJoin_length_le ..).trans ?_⟩
  have := hcov.splitRange_length_le a b
  omega

theorem ColumnSound.setAndJoin (hs : ColumnSound h col) (sets : Interval → Bool) (a b : Nat) :
    ColumnSound h (setAndJoin table c sets a b col) :=
  ⟨hs.1.setAndJoin .., (setAndJoin_length_le ..).trans hs.2⟩

/-- The intervals that a flag mark joins: those of the column, the containing one marked. -/
theorem markContaining_marked (d : Nat) (f : Interval → Interval) (col : List Interval) :
    (col.mapIdx fun n iv => if n = containing d col then (f iv, true) else (iv, false)).map Prod.fst
      = col.mapIdx fun n iv => if n = containing d col then f iv else iv := by
  refine List.ext_getElem? fun n => ?_
  simp only [List.getElem?_map, List.getElem?_mapIdx, Option.map_map]
  congr 1
  funext iv
  simp only [Function.comp]
  split <;> rfl

theorem ColumnSound.markContaining (hs : ColumnSound h col) (d : Nat) {f : Interval → Interval}
    (hf : ∀ iv, (f iv).top = iv.top ∧ (f iv).bottom = iv.bottom) : ColumnSound h (markContaining d f col) := by
  refine ⟨Covers.joinMarked ?_, (joinMarked_length_le _).trans (by rw [List.length_mapIdx]; exact hs.2)⟩
  rw [markContaining_marked]
  refine Covers.mapIdx (fun n iv => ?_) hs.1
  split
  · exact hf iv
  · exact ⟨rfl, rfl⟩

end Changes

end Sys2Proof.Machine
end

section
/-! PROOFS. Writes of one job: what an operation leaves of its column and its sheet, with the postings of footage. -/

namespace Sys2Proof.Machine

/-! ### One job written -/

/-- `t` holds the job `j'` in slot `i`, its generation kept, and every other slot as `s` does. -/
def State.Wrote (i : Fin 4) (j' : Job) (s t : State) : Prop := t.jobs = s.jobs.set i ⟨s.jobs[i].gen, some j'⟩

section Wrote

variable {s t u : State} {i k : Fin 4} {j j' j'' : Job}

theorem State.Wrote.setJob : s.Wrote i j' (s.setJob i j') := rfl

theorem State.Wrote.jobs (h : s.Wrote i j' t) : t.jobs = (s.setJob i j').jobs := h

theorem State.Wrote.job? (h : s.Wrote i j' t) : t.job? i = some j' := by
  rw [State.job?, h.jobs]
  exact State.setJob_job?_same

theorem State.Wrote.job?_other (h : s.Wrote i j' t) (hk : i ≠ k) : t.job? k = s.job? k := by
  rw [State.job?, h.jobs]
  exact State.setJob_job?_other hk

theorem State.Wrote.gen (h : s.Wrote i j' t) (k : Fin 4) : t.jobs[k].gen = s.jobs[k].gen := by
  rw [h.jobs]
  exact State.setJob_gen

theorem State.Wrote.slot_other (h : s.Wrote i j' t) (hk : i ≠ k) : t.jobs[k] = s.jobs[k] := by
  have hne : i.val ≠ k.val := fun he => hk (Fin.ext he)
  simp [h.jobs, State.setJob, Vector.getElem_set_ne _ _ hne]

theorem State.Wrote.refl (h : s.job? i = some j) : s.Wrote i j s := by
  have hset : (s.setJob i j).jobs = s.jobs := by
    refine State.jobs_ext fun k => ?_
    by_cases hk : i = k
    · subst hk
      have hslot : s.jobs[i] = ⟨s.jobs[i].gen, some j⟩ := by
        rw [← h]
        rfl
      simpa [State.setJob] using hslot.symm
    · have hne : i.val ≠ k.val := fun he => hk (Fin.ext he)
      simp [State.setJob, Vector.getElem_set_ne _ _ hne]
  exact hset.symm

theorem State.Wrote.trans (h : s.Wrote i j' t) (g : t.Wrote i j'' u) : s.Wrote i j'' u := by
  rw [State.Wrote] at *
  rw [g, h]
  simp

theorem State.Wrote.frame {ps : List Part} (h : s.Wrote i j' t) (hf : Frame ps t u) (hp : .jobs ∉ ps := by simp) :
    s.Wrote i j' u :=
  (hf.kept .jobs hp : u.jobs = t.jobs).trans h

theorem State.Wrote.of_frame {ps : List Part} (h : s.job? i = some j) (hf : Frame ps s t) (hp : .jobs ∉ ps := by simp) :
    s.Wrote i j t :=
  (State.Wrote.refl h).frame hf hp

theorem State.Wrote.frame_left {ps : List Part} (hf : Frame ps s t) (h : t.Wrote i j' u) (hp : .jobs ∉ ps := by simp) :
    s.Wrote i j' u := by
  have hj : t.jobs = s.jobs := hf.kept .jobs hp
  rw [State.Wrote] at *
  rw [h, hj]

theorem State.Wrote.staged (h : s.Wrote i j' t) (hj : s.job? i = some j) (hp : j'.phase = j.phase) : s.Staged t := by
  intro k
  by_cases hk : i = k
  · subst hk
    rw [h.job?, hj]
    simp [hp]
  · rw [h.job?_other hk]

theorem State.Wrote.modifyJob {f : Job → Job} (hj : s.job? i = some j) : s.Wrote i (f j) (s.modifyJob i f) := by
  rw [State.modifyJob_some hj]
  exact .setJob

theorem State.setColumn_wrote (hj : s.job? i = some j) (col : List Interval) :
    s.Wrote i { j with column := col } (s.setColumn i col) :=
  .modifyJob (f := fun j => { j with column := col }) hj

end Wrote

/-! ### Postings (R158) -/

/-- A quantity posted to a line of a job's sheet. -/
def Job.post (j : Job) (p : Fin 40 × Int) : Job :=
  { j with sheet := j.sheet.set p.1 { j.sheet[p.1] with unsettled := clampLine (j.sheet[p.1].unsettled + p.2) } }

/-- Postings made one after another. -/
def Job.posts (j : Job) (ps : List (Fin 40 × Int)) : Job := ps.foldl Job.post j

/-- The postings made on the job in a slot. -/
def State.posts (i : Fin 4) (ps : List (Fin 40 × Int)) (s : State) : State :=
  ps.foldl (fun s p => s.addUnsettled i p.1 p.2) s

/-- What postings bring to a line. -/
def lineTotal (line : Fin 40) (ps : List (Fin 40 × Int)) : Int := (ps.map fun p => if p.1 = line then p.2 else 0).sum

/-- What postings can move a line by, at most. -/
def lineLoad (line : Fin 40) (ps : List (Fin 40 × Int)) : Nat := (ps.map fun p => if p.1 = line then p.2.natAbs else 0).sum

section Posts

variable {s t : State} {i : Fin 4} {j : Job} {line : Fin 40} {ps qs : List (Fin 40 × Int)} {p : Fin 40 × Int}

theorem State.addUnsettled_wrote (hj : s.job? i = some j) (line : Fin 40) (q : Int) :
    s.Wrote i (j.post (line, q)) (s.addUnsettled i line q) := by
  unfold State.addUnsettled
  rw [hj]
  simp only
  split
  · exact .setJob
  · exact State.Wrote.setJob.frame (State.raise_frame ..)

theorem State.posts_wrote (hj : s.job? i = some j) (ps : List (Fin 40 × Int)) : s.Wrote i (j.posts ps) (s.posts i ps) := by
  induction ps generalizing s j with
  | nil => exact .refl hj
  | cons p ps ih =>
    have hp := State.addUnsettled_wrote hj p.1 p.2
    exact hp.trans (ih hp.job?)

theorem State.posts_append (i : Fin 4) (ps qs : List (Fin 40 × Int)) (s : State) :
    s.posts i (ps ++ qs) = (s.posts i ps).posts i qs := List.foldl_append ..

theorem State.posts_frame (i : Fin 4) (ps : List (Fin 40 × Int)) (s : State) : Frame [.jobs, .attn] s (s.posts i ps) :=
  Frame.foldl _ (fun _ _ => State.addUnsettled_frame ..) ps s

/-- Postings change the sheet alone. -/
theorem Job.posts_eq (j : Job) (ps : List (Fin 40 × Int)) : j.posts ps = { j with sheet := (j.posts ps).sheet } := by
  induction ps generalizing j with
  | nil => rfl
  | cons p ps ih =>
    rw [Job.posts, List.foldl_cons, ← Job.posts, ih]
    rfl

@[simp] theorem Job.post_sheet_same : (j.post p).sheet[p.1] =
    { j.sheet[p.1] with unsettled := clampLine (j.sheet[p.1].unsettled + p.2) } := by
  simp [Job.post]

theorem Job.post_sheet_other (h : p.1 ≠ line) : (j.post p).sheet[line] = j.sheet[line] := by
  have hne : p.1.val ≠ line.val := fun he => h (Fin.ext he)
  simp [Job.post, Vector.getElem_set_ne _ _ hne]

theorem Job.posts_cons (j : Job) (p : Fin 40 × Int) (ps : List (Fin 40 × Int)) : j.posts (p :: ps) = (j.post p).posts ps := rfl

/-- A line that no posting names keeps its figures. -/
theorem Job.posts_sheet_other (h : ∀ p ∈ ps, p.1 ≠ line) : (j.posts ps).sheet[line] = j.sheet[line] := by
  induction ps generalizing j with
  | nil => rfl
  | cons p ps ih =>
    rw [Job.posts_cons, ih fun q hq => h q (List.mem_cons_of_mem _ hq), Job.post_sheet_other (h p List.mem_cons_self)]

/-- Postings leave the settled quantity and the amount of every line. -/
theorem Job.posts_settled (j : Job) (ps : List (Fin 40 × Int)) (line : Fin 40) :
    (j.posts ps).sheet[line].settled = j.sheet[line].settled ∧ (j.posts ps).sheet[line].amount = j.sheet[line].amount := by
  induction ps generalizing j with
  | nil => exact ⟨rfl, rfl⟩
  | cons p ps ih =>
    rw [Job.posts_cons, (ih _).1, (ih _).2]
    by_cases hp : p.1 = line
    · subst hp
      rw [Job.post_sheet_same]
      exact ⟨rfl, rfl⟩
    · rw [Job.post_sheet_other hp]
      exact ⟨rfl, rfl⟩

theorem clampLine_of_abs_le {z : Int} (h : z.natAbs ≤ 2147483647) : clampLine z = z := by
  simp only [clampLine, lineLimit]
  omega

/-- Postings that stay within a line's limits add up. -/
theorem Job.posts_unsettled (h : j.sheet[line].unsettled.natAbs + lineLoad line ps ≤ 2147483647) :
    (j.posts ps).sheet[line].unsettled = j.sheet[line].unsettled + lineTotal line ps := by
  induction ps generalizing j with
  | nil => simp [Job.posts, lineTotal]
  | cons p ps ih =>
    simp only [lineLoad, lineTotal, List.map_cons, List.sum_cons] at h ih ⊢
    rw [Job.posts_cons]
    by_cases hp : p.1 = line
    · subst hp
      simp only [if_true] at h ⊢
      have hclamp : clampLine (j.sheet[p.1].unsettled + p.2) = j.sheet[p.1].unsettled + p.2 :=
        clampLine_of_abs_le (by omega)
      have hpost : (j.post p).sheet[p.1].unsettled = j.sheet[p.1].unsettled + p.2 := by
        rw [Job.post_sheet_same]
        exact hclamp
      rw [ih (by rw [hpost]; omega), hpost]
      omega
    · simp only [hp, if_false] at h ⊢
      have hpost := Job.post_sheet_other (j := j) hp
      rw [ih (by rw [hpost]; omega), hpost]
      omega

theorem lineTotal_append (line : Fin 40) (ps qs : List (Fin 40 × Int)) :
    lineTotal line (ps ++ qs) = lineTotal line ps + lineTotal line qs := by
  simp [lineTotal]

theorem lineLoad_append (line : Fin 40) (ps qs : List (Fin 40 × Int)) :
    lineLoad line (ps ++ qs) = lineLoad line ps + lineLoad line qs := by
  simp [lineLoad]

end Posts

/-! ### Footage as postings (R161, R162, R25) -/

/-- The postings of new footage of a range in a class. -/
def Job.accruals (j : Job) (top bottom : Nat) (c : RockClass) : List (Fin 40 × Int) :=
  (List.finRange 3).map fun band => (footageLine c band, (bandOverlap j.b1 j.b2 (max top j.startDepth) bottom band : Int))

/-- The thickness of a range that a class change of it moves, in a band. -/
def Job.moved (j : Job) (top bottom : Nat) (band : Fin 3) : Nat :=
  bandOverlap j.b1 j.b2 (max top j.startDepth) (min bottom j.holeDepth) band

/-- The postings of a class change. -/
def Job.moves (j : Job) (c : ClassChange) : List (Fin 40 × Int) :=
  (List.finRange 3).flatMap fun band =>
    [(footageLine c.old band, -(j.moved c.top c.bottom band : Int)), (footageLine c.new band, (j.moved c.top c.bottom band : Int))]

/-- The postings of a change of the band boundaries. -/
def Job.rebands (j : Job) (b1 b2 : Nat) : List (Fin 40 × Int) :=
  RockClass.all.flatMap fun c => (List.finRange 3).map fun band =>
    (footageLine c band, (j.thickness b1 b2 c band : Int) - (j.thickness j.b1 j.b2 c band : Int))

section Footage

variable {s t : State} {i : Fin 4} {j : Job}

theorem State.accrueFootage_eq (hj : s.job? i = some j) (top bottom : Nat) (c : RockClass) :
    s.accrueFootage i top bottom c = s.posts i (j.accruals top bottom c) := by
  rw [State.accrueFootage, hj, State.posts, Job.accruals, List.foldl_map]

theorem State.moveFootage_eq (hj : s.job? i = some j) (c : ClassChange) :
    s.moveFootage i c.top c.bottom c.old c.new = s.posts i (j.moves c) := by
  rw [State.moveFootage, hj, State.posts, Job.moves, List.foldl_flatMap]
  rfl

theorem State.rebandFootage_eq (j : Job) (b1 b2 : Nat) (s : State) :
    s.rebandFootage i j b1 b2 = s.posts i (j.rebands b1 b2) := by
  rw [State.rebandFootage, State.posts, Job.rebands, List.foldl_flatMap]
  simp only [List.foldl_map]

/-- A job's postings do not move the postings of a class change. -/
theorem Job.posts_moves (j : Job) (ps : List (Fin 40 × Int)) (c : ClassChange) : (j.posts ps).moves c = j.moves c := by
  rw [Job.posts_eq]
  rfl

theorem State.moveChanges_eq (hj : s.job? i = some j) (changes : List ClassChange) :
    s.moveChanges i changes = s.posts i (changes.flatMap j.moves) := by
  induction changes generalizing s j with
  | nil => rfl
  | cons c changes ih =>
    have hrest := ih (State.posts_wrote hj (j.moves c)).job?
    rw [show (j.posts (j.moves c)).moves = j.moves from funext (Job.posts_moves j _)] at hrest
    rw [List.flatMap_cons, State.posts_append, ← hrest, ← State.moveFootage_eq hj]
    rfl

/-- A range change binds the new column and posts its class changes (R146, R151). -/
theorem State.bindRange_some {c : RangeChange} {a b : Nat} (hj : s.job? i = some j) :
    s.bindRange i c a b = some t ↔ ∃ r, applyRange s.lith c a b j.column = some r
      ∧ t = (s.setColumn i r.1).posts i (r.2.flatMap j.moves) := by
  rw [State.bindRange, hj, Option.bind_some, Option.map_eq_some_iff]
  refine exists_congr fun r => and_congr_right fun _ => ?_
  rw [State.moveChanges_eq (State.setColumn_wrote hj r.1).job?]
  exact eq_comm

theorem State.bindRange_wrote {c : RangeChange} {a b : Nat} (hj : s.job? i = some j) (ht : s.bindRange i c a b = some t) :
    ∃ r, applyRange s.lith c a b j.column = some r
      ∧ s.Wrote i (({ j with column := r.1 } : Job).posts (r.2.flatMap j.moves)) t := by
  obtain ⟨r, hr, rfl⟩ := (State.bindRange_some hj).1 ht
  have hcol := State.setColumn_wrote hj r.1
  exact ⟨r, hr, hcol.trans (State.posts_wrote hcol.job? _)⟩

end Footage

end Sys2Proof.Machine
end

section
/-! PROOFS. The thickness of a class in a column through splits, joins, merges and marks; extensions, marks and range
changes of a job's column; and the columns through every command. -/

namespace Sys2Proof.Machine

/-! ### Thickness by class -/

section ClassSums

variable {w : Nat → Nat → Nat} {c : RockClass} {a b h m s : Nat} {u l iv cur : Interval} {col col' : List Interval}

/-- An interval's own part of the sum. -/
def Interval.part (w : Nat → Nat → Nat) (c : RockClass) (iv : Interval) : Nat := if iv.cls = c then w iv.top iv.bottom else 0

theorem classSum_cons : classSum w c (iv :: col) = iv.part w c + classSum w c col := by simp [classSum, Interval.part]

@[simp] theorem classSum_nil : classSum w c [] = 0 := rfl

theorem classSum_append : classSum w c (col ++ col') = classSum w c col + classSum w c col' := by simp [classSum]

theorem AddsUp.self (hw : AddsUp w) (a : Nat) : w a a = 0 := by
  have := hw a a a le_rfl le_rfl
  omega

/-- Two neighbouring parts of one class add up to the part between them. -/
theorem AddsUp.parts (hw : AddsUp w) (hu : u.cls = iv.cls) (hl : l.cls = iv.cls) (htop : u.top = iv.top)
    (hmid : u.bottom = l.top) (hbot : l.bottom = iv.bottom) (h1 : u.top ≤ u.bottom) (h2 : l.top ≤ l.bottom) :
    u.part w c + l.part w c = iv.part w c := by
  simp only [Interval.part, hu, hl]
  split
  · rw [← htop, ← hbot, ← hmid]
    exact hw _ _ _ h1 (hmid ▸ h2)
  · rfl

theorem classSum_split (hw : AddsUp w) (s : Nat) (iv : Interval) : classSum w c (iv.split s) = iv.part w c := by
  cases hs : iv.splitAt s with
  | false => rw [split_of_not hs, classSum_cons, classSum_nil, Nat.add_zero]
  | true =>
    obtain ⟨h1, h2⟩ := splitAt_iff.1 hs
    rw [split_of_splitAt hs, classSum_cons, classSum_cons, classSum_nil, Nat.add_zero]
    exact hw.parts rfl rfl rfl rfl rfl h1.le h2.le

theorem classSum_splits (hw : AddsUp w) (s : Nat) (col : List Interval) :
    classSum w c (col.flatMap (Interval.split s)) = classSum w c col := by
  induction col with
  | nil => rfl
  | cons iv col ih => rw [List.flatMap_cons, classSum_append, classSum_split hw, ih, classSum_cons]

theorem classSum_splitRange (hw : AddsUp w) (a b : Nat) (col : List Interval) :
    classSum w c (splitRange a b col) = classSum w c col := by
  rw [splitRange, classSum_splits hw, classSum_splits hw]

/-- A join of two neighbours of one record keeps the thickness of every class. -/
theorem classSum_join (hw : AddsUp w) {above below : List Interval} (hr : u.record = l.record)
    (hc : Covers a (above ++ u :: l :: below) b) :
    classSum w c (above ++ joinPair u l :: below) = classSum w c (above ++ u :: l :: below) := by
  obtain ⟨m, _, hrest⟩ := (covers_append (by simp)).1 hc
  obtain ⟨htop, hlt, hrest⟩ := (covers_cons (by simp)).1 hrest
  have hl : l.top = u.bottom ∧ u.bottom ≤ l.bottom ∧ l.bottom ≤ b := hrest.head
  have hcls : u.cls = l.cls := (Interval.mk.injEq .. ▸ hr : _ ∧ _).2.2.2.1
  have hparts := hw.parts (c := c) (iv := joinPair u l) (u := u) (l := l) rfl hcls.symm rfl hl.1.symm rfl (by omega)
    (by omega)
  simp only [classSum_append, classSum_cons, ← hparts, Nat.add_assoc]

theorem classSum_joinMarked (hw : AddsUp w) {marked : List (Interval × Bool)} (hc : Covers a (marked.map Prod.fst) b) :
    classSum w c (joinMarked marked) = classSum w c (marked.map Prod.fst) := by
  have := joinMarked_induct (P := fun col => Covers a col b ∧ classSum w c col = classSum w c (marked.map Prod.fst))
    (fun above u l below hr h => ⟨h.1.join, (classSum_join hw hr h.1).trans h.2⟩) (marked := marked) ⟨hc, rfl⟩
  exact this.2

theorem classSum_joinRange (hw : AddsUp w) (hc : Covers m col h) (s e : Nat) :
    classSum w c (joinRange s e col) = classSum w c col := by
  have := classSum_joinMarked (c := c) hw (a := m) (b := h) (marked := col.map fun iv => (iv, iv.inside s e))
    (by rwa [joinRange_marked])
  rwa [joinRange_marked] at this

theorem classSum_capacityMerge (hw : AddsUp w) (hc : Covers a col b) (hm : capacityMerge col = some col') :
    classSum w c col' = classSum w c col := by
  obtain ⟨above, u, l, below, hne, hcls, rfl, rfl⟩ := capacityMerge_some hm
  obtain ⟨m, _, hrest⟩ := (covers_append (by simp)).1 hc
  obtain ⟨htop, hlt, hrest⟩ := (covers_cons (by simp)).1 hrest
  have hl : l.top = u.bottom ∧ u.bottom ≤ l.bottom ∧ l.bottom ≤ b := hrest.head
  have hparts := hw.parts (c := c) (iv := mergeIntervals u l) (u := u) (l := l) rfl hcls.symm rfl hl.1.symm rfl
    (by omega) (by omega)
  simp only [classSum_append, classSum_cons, ← hparts, Nat.add_assoc]

/-- Changes that keep every interval's range and class keep the thickness of every class. -/
theorem classSum_mapIdx {g : Nat → Interval → Interval}
    (hg : ∀ n iv, (g n iv).top = iv.top ∧ (g n iv).bottom = iv.bottom ∧ (g n iv).cls = iv.cls) :
    classSum w c (col.mapIdx g) = classSum w c col := by
  induction col generalizing g with
  | nil => rfl
  | cons iv col ih =>
    obtain ⟨ht, hb, hcls⟩ := hg 0 iv
    rw [List.mapIdx_cons, classSum_cons, classSum_cons, ih fun n iv => hg (n + 1) iv, Interval.part, Interval.part, ht, hb,
      hcls]

theorem classSum_map {g : Interval → Interval}
    (hg : ∀ iv, (g iv).top = iv.top ∧ (g iv).bottom = iv.bottom ∧ (g iv).cls = iv.cls) :
    classSum w c (col.map g) = classSum w c col := by
  induction col with
  | nil => rfl
  | cons iv col ih =>
    obtain ⟨ht, hb, hcls⟩ := hg iv
    rw [List.map_cons, classSum_cons, classSum_cons, ih, Interval.part, Interval.part, ht, hb, hcls]

end ClassSums

/-! ### Regrouped columns -/

/-- `col'` covers the hole within the limit as `col` does, every class as thick as in it. -/
structure Regrouped (h : Nat) (col col' : List Interval) : Prop where
  sound : ColumnSound h col'
  sums : ∀ w c, AddsUp w → classSum w c col' = classSum w c col

section Regroup

variable {h a b : Nat} {col col' col'' : List Interval} {table : Vector LithEntry 64} {c : RangeChange}

theorem Regrouped.refl (hs : ColumnSound h col) : Regrouped h col col := ⟨hs, fun _ _ _ => rfl⟩

theorem Regrouped.trans (hr : Regrouped h col col') (hg : Regrouped h col' col'') : Regrouped h col col'' :=
  ⟨hg.sound, fun w c hw => (hg.sums w c hw).trans (hr.sums w c hw)⟩

theorem ColumnSound.regrouped_merge (hs : ColumnSound h col) (hm : Machine.capacityMerge col = some col') : Regrouped h col col' :=
  ⟨hs.capacityMerge hm, fun _ _ hw => classSum_capacityMerge hw hs.1 hm⟩

/-- Room found by merges regroups the column, and leaves its deepest interval. -/
theorem ColumnSound.seekRoom {need : List Interval → Nat} {fuel : Nat} {roomy : List Interval} (hs : ColumnSound h col)
    (hr : Machine.seekRoom need fuel col = some roomy) :
    Regrouped h col roomy ∧ roomy.getLast? = col.getLast? ∧ need roomy ≤ columnLimit - roomy.length := by
  obtain ⟨⟨hg, hl⟩, hroom⟩ := seekRoom_induct
    (P := fun x => Regrouped h col x ∧ x.getLast? = col.getLast?)
    (fun hm hx => ⟨hx.1.trans (hx.1.sound.regrouped_merge hm), (capacityMerge_getLast? hm).trans hx.2⟩) hr ⟨.refl hs, rfl⟩
  exact ⟨hg, hl, hroom⟩

/-- A status set on some intervals, with the joins after it (R146, R149). -/
theorem ColumnSound.markSet (hs : ColumnSound h col) (status : CutStatus) (sets : Interval → Bool) (a b : Nat) :
    Regrouped h col (Machine.setAndJoin table (.mark status) sets a b col) := by
  refine ⟨hs.setAndJoin sets a b, fun w cls hw => ?_⟩
  have hset : ∀ iv : Interval, (if sets iv = true then RangeChange.set table iv (.mark status) else iv).top = iv.top
      ∧ (if sets iv = true then RangeChange.set table iv (.mark status) else iv).bottom = iv.bottom
      ∧ (if sets iv = true then RangeChange.set table iv (.mark status) else iv).cls = iv.cls := by
    intro iv
    split <;> exact ⟨rfl, rfl, rfl⟩
  have hcov := hs.1.map fun iv => ⟨(hset iv).1, (hset iv).2.1⟩
  exact (classSum_joinRange hw hcov a b).trans (classSum_map hset)

/-- A status mark made in full regroups the column. -/
theorem ColumnSound.markApplied (hs : ColumnSound h col) {status : CutStatus} {r : List Interval × List ClassChange}
    (hr : Machine.applyRange table (.mark status) a b col = some r) : Regrouped h col r.1 := by
  have hsound := hs.applyRange hr
  obtain ⟨roomy, hroomy, rfl⟩ := Option.map_eq_some_iff.1 hr
  obtain ⟨hg, _, hroom⟩ := hs.seekRoom hroomy
  refine ⟨hsound, fun w cls hw => ?_⟩
  have hset : ∀ iv : Interval,
      (if Interval.inside a b iv = true then RangeChange.set table iv (.mark status) else iv).top = iv.top
      ∧ (if Interval.inside a b iv = true then RangeChange.set table iv (.mark status) else iv).bottom = iv.bottom
      ∧ (if Interval.inside a b iv = true then RangeChange.set table iv (.mark status) else iv).cls = iv.cls := by
    intro iv
    split <;> exact ⟨rfl, rfl, rfl⟩
  have hcov := (hg.sound.1.splitRange a b).map fun iv => ⟨(hset iv).1, (hset iv).2.1⟩
  calc classSum w cls (Machine.setAndJoin table (.mark status) (Interval.inside a b) a b (splitRange a b roomy))
      = classSum w cls ((splitRange a b roomy).map fun iv =>
          if Interval.inside a b iv = true then RangeChange.set table iv (.mark status) else iv) :=
        classSum_joinRange hw hcov a b
    _ = classSum w cls (splitRange a b roomy) := classSum_map hset
    _ = classSum w cls roomy := classSum_splitRange hw a b roomy
    _ = classSum w cls col := hg.sums w cls hw

theorem ColumnSound.flagged (hs : ColumnSound h col) (d : Nat) {f : Interval → Interval} (hf : KeepsRange f) :
    Regrouped h col (Machine.markContaining d f col) := by
  refine ⟨hs.markContaining d fun iv => ⟨(hf iv).1, (hf iv).2.1⟩, fun w c hw => ?_⟩
  have hset : ∀ (n : Nat) (iv : Interval), (if n = containing d col then f iv else iv).top = iv.top
      ∧ (if n = containing d col then f iv else iv).bottom = iv.bottom
      ∧ (if n = containing d col then f iv else iv).cls = iv.cls := by
    intro n iv
    split
    · exact ⟨(hf iv).1, (hf iv).2.1, (hf iv).2.2.1⟩
    · exact ⟨rfl, rfl, rfl⟩
  have hcov := hs.1.mapIdx fun n iv => ⟨(hset n iv).1, (hset n iv).2.1⟩
  have hjoined := classSum_joinMarked (c := c) hw (a := 0) (b := h)
    (marked := col.mapIdx fun n iv => if n = containing d col then (f iv, true) else (iv, false))
    (by rwa [markContaining_marked])
  rw [markContaining_marked, classSum_mapIdx hset] at hjoined
  exact hjoined

/-- The deepest interval's minutes alone change (R157). -/
theorem creditMinute_concat (above : List Interval) (iv : Interval) :
    creditMinute (above ++ [iv]) = above ++ [{ iv with minutes := satAdd32 iv.minutes 1 }] := by
  induction above with
  | nil => rfl
  | cons u above ih =>
    cases above with
    | nil => rfl
    | cons v above =>
      rw [List.cons_append, List.cons_append, creditMinute, ← List.cons_append, ih]
      · rfl
      · simp

theorem ColumnSound.credited (hs : ColumnSound h col) : Regrouped h col (creditMinute col) := by
  obtain ⟨above, iv, rfl⟩ := (List.eq_nil_or_concat col).resolve_left hs.1.ne_nil
  rw [List.concat_eq_append] at hs ⊢
  rw [creditMinute_concat]
  obtain ⟨ht, hle, hb⟩ := covers_concat.1 hs.1
  refine ⟨⟨covers_concat.2 ⟨ht, hle, hb⟩, by simpa using hs.2⟩, fun w c _ => ?_⟩
  simp only [classSum_append, classSum_cons]
  rfl

end Regroup

end Sys2Proof.Machine
end

section
/-! PROOFS. Extensions, marks and range changes of a job's column, and the columns through every command. -/

namespace Sys2Proof.Machine

/-! ### Extension by new hole (R143, R144) -/

/-- The interval that new hole opens in the declared rock (R144). -/
def Job.drilledInterval (j : Job) (table : Vector LithEntry 64) (top bottom : Nat) : Interval :=
  { top := top, bottom := bottom, lith := j.declared, cls := table[j.declared].cls, source := .driller, status := .pending
    lossZone := false, water := false, merged := false, yield := none, minutes := 0 }

/-- What new hole makes of a job's column, and the class its footage is of. -/
inductive Job.Extends (j : Job) (table : Vector LithEntry 64) (deepest : Interval) (h1 : Nat) : List Interval → RockClass → Prop
  | grows : deepest.status = .pending → deepest.source = .driller → deepest.lith = j.declared →
    j.Extends table deepest h1 (j.column.dropLast ++ [{ deepest with bottom := h1 }]) deepest.cls
  | takes : deepest.top = deepest.bottom →
    j.Extends table deepest h1 (j.column.dropLast ++
      [{ deepest with
         lith := j.declared, cls := table[j.declared].cls, source := .driller, status := .pending, bottom := h1 }])
      table[j.declared].cls
  | follows (roomy : List Interval) : deepest.top ≠ deepest.bottom →
    seekRoom (fun _ => 1) columnLimit j.column = some roomy →
    j.Extends table deepest h1 (roomy ++ [j.drilledInterval table deepest.bottom h1]) table[j.declared].cls
  | merges : deepest.top ≠ deepest.bottom → seekRoom (fun _ => 1) columnLimit j.column = none →
    j.Extends table deepest h1 (j.column.dropLast ++ [{ deepest with bottom := h1, merged := true }]) deepest.cls

section Extension

variable {s t : State} {i k : Fin 4} {j : Job} {deepest : Interval} {h1 a b : Nat} {status : CutStatus}

theorem State.extendColumn_idle (hj : s.job? i = some j) (hd : j.column.getLast? = some deepest) (hle : h1 ≤ deepest.bottom) :
    s.extendColumn i h1 = s := by
  simp [State.extendColumn, hj, hd, hle]

/-- New hole writes the extended column and posts its footage. -/
theorem State.extendColumn_wrote (hj : s.job? i = some j) (hd : j.column.getLast? = some deepest)
    (hlt : deepest.bottom < h1) : ∃ col cls, j.Extends s.lith deepest h1 col cls
      ∧ s.Wrote i (({ j with column := col } : Job).posts (j.accruals deepest.bottom h1 cls)) (s.extendColumn i h1) := by
  have wrote : ∀ {u : State} col cls, s.Wrote i { j with column := col } u →
      s.Wrote i (({ j with column := col } : Job).posts (j.accruals deepest.bottom h1 cls))
        (u.accrueFootage i deepest.bottom h1 cls) := by
    intro u col cls hu
    rw [State.accrueFootage_eq hu.job?]
    exact hu.trans (State.posts_wrote hu.job? _)
  have column := fun col => State.setColumn_wrote hj col
  unfold State.extendColumn
  rw [hj]
  simp only [hd]
  rw [if_neg (not_le.2 hlt)]
  split
  next hgrow => exact ⟨_, _, .grows hgrow.1 hgrow.2.1 hgrow.2.2, wrote _ _ (column _)⟩
  · split
    next hzero => exact ⟨_, _, .takes hzero, wrote _ _ (column _)⟩
    next hthick =>
      split
      next roomy hroomy => exact ⟨_, _, .follows roomy hthick hroomy, wrote _ _ (column _)⟩
      next hfull => exact ⟨_, _, .merges hthick hfull, wrote _ _ ((column _).frame (State.raise_frame ..))⟩

theorem columnSound_replaceLast {h : Nat} {col : List Interval} {iv : Interval} (hs : ColumnSound h col)
    (hd : col.getLast? = some deepest) (htop : iv.top = deepest.top) (hle : iv.top ≤ iv.bottom) :
    ColumnSound iv.bottom (col.dropLast ++ [iv]) := by
  refine ⟨hs.1.replaceLast hd htop hle, ?_⟩
  have hne : col ≠ [] := hs.1.ne_nil
  have := List.length_pos_iff.2 hne
  rw [List.length_append, List.length_dropLast, List.length_singleton]
  have := hs.2
  omega

theorem Covers.last_le {h m : Nat} {col : List Interval} (hc : Covers m col h) (hd : col.getLast? = some deepest) :
    deepest.top ≤ deepest.bottom := by
  rw [← List.dropLast_append_getLast? deepest hd, covers_concat] at hc
  exact hc.2.1

/-- An extended column covers the deeper hole. -/
theorem Job.Extends.sound {table : Vector LithEntry 64} {col : List Interval} {cls : RockClass} {h : Nat}
    (he : j.Extends table deepest h1 col cls) (hs : ColumnSound h j.column) (hd : j.column.getLast? = some deepest)
    (hlt : deepest.bottom < h1) : ColumnSound h1 col := by
  have hle := hs.1.last_le hd
  have htop : deepest.top ≤ h1 := by omega
  cases he with
  | grows => exact columnSound_replaceLast (iv := { deepest with bottom := h1 }) hs hd rfl htop
  | takes =>
    exact columnSound_replaceLast (iv := { deepest with
      lith := j.declared, cls := table[j.declared].cls, source := .driller, status := .pending, bottom := h1 }) hs hd rfl
      htop
  | follows roomy hne hroomy =>
    obtain ⟨hg, hlast, hroom⟩ := hs.seekRoom hroomy
    have hbot := hs.1.bottom_eq hd
    refine ⟨?_, ?_⟩
    · refine hg.sound.1.concat (iv := j.drilledInterval table deepest.bottom h1) (fun u hu => ?_) hbot
        (show h ≤ h1 by omega)
      obtain rfl := Option.some.inj ((hlast.trans hd).symm.trans hu)
      omega
    · rw [List.length_append, List.length_singleton]
      have := hg.sound.2
      omega
  | merges => exact columnSound_replaceLast (iv := { deepest with bottom := h1, merged := true }) hs hd rfl htop

/-- An extension thickens its footage's class by the new range. -/
theorem Job.Extends.sums {table : Vector LithEntry 64} {col : List Interval} {cls c : RockClass} {h : Nat}
    {w : Nat → Nat → Nat} (hw : AddsUp w) (he : j.Extends table deepest h1 col cls) (hs : ColumnSound h j.column)
    (hd : j.column.getLast? = some deepest) (hlt : deepest.bottom < h1) :
    classSum w c col = classSum w c j.column + if cls = c then w deepest.bottom h1 else 0 := by
  have hle := hs.1.last_le hd
  have hcol : j.column.dropLast ++ [deepest] = j.column := List.dropLast_append_getLast? deepest hd
  have hadd : w deepest.top deepest.bottom + w deepest.bottom h1 = w deepest.top h1 := hw _ _ _ hle hlt.le
  have grown : ∀ iv : Interval, iv.top = deepest.top → iv.bottom = h1 → iv.cls = deepest.cls → cls = deepest.cls →
      classSum w c (j.column.dropLast ++ [iv]) = classSum w c j.column + if cls = c then w deepest.bottom h1 else 0 := by
    intro iv htop hbot hcls hc
    conv_rhs => rw [← hcol]
    simp only [classSum_append, classSum_cons, classSum_nil, Interval.part, htop, hbot, hcls, hc, ← hadd]
    split <;> omega
  cases he with
  | grows => exact grown { deepest with bottom := h1 } rfl rfl rfl rfl
  | takes hzero =>
    conv_rhs => rw [← hcol]
    simp only [classSum_append, classSum_cons, classSum_nil, Interval.part, hzero, hw.self]
    split <;> simp
  | follows roomy hne hroomy =>
    obtain ⟨hg, _, _⟩ := hs.seekRoom hroomy
    rw [classSum_append, hg.sums w c hw, classSum_cons, classSum_nil, Nat.add_zero]
    rfl
  | merges => exact grown { deepest with bottom := h1, merged := true } rfl rfl rfl rfl

theorem ColumnSound.last {h : Nat} {col : List Interval} (hs : ColumnSound h col) :
    ∃ deepest, col.getLast? = some deepest ∧ deepest.bottom = h := by
  have hlast := List.getLast?_eq_getLast_of_ne_nil hs.1.ne_nil
  exact ⟨_, hlast, hs.1.bottom_eq hlast⟩

/-- A status mark within the hole writes the column alone, regrouped (R138, R149). -/
theorem State.markRange_wrote (hj : s.job? i = some j) (hs : ColumnSound j.holeDepth j.column) (hb : b ≤ j.holeDepth) :
    ∃ col, Regrouped j.holeDepth j.column col ∧ s.Wrote i { j with column := col } (s.markRange i status a b) := by
  obtain ⟨deepest, hd, hbot⟩ := hs.last
  unfold State.markRange
  simp only
  rw [State.extendColumn_idle hj hd (by omega)]
  rw [hj]
  simp only
  split
  next r hr => exact ⟨r.1, hs.markApplied hr, State.setColumn_wrote hj _⟩
  · exact ⟨_, hs.markSet status _ a b, (State.setColumn_wrote hj _).frame (State.raise_frame ..)⟩

/-- Status marks within the hole, one after another. -/
theorem State.markParcels_wrote {ps : List Parcel} (hj : s.job? i = some j) (hs : ColumnSound j.holeDepth j.column)
    (hp : ∀ p ∈ ps, p.bottom ≤ j.holeDepth) :
    ∃ col, Regrouped j.holeDepth j.column col ∧ s.Wrote i { j with column := col } (s.markParcels i status ps) := by
  induction ps generalizing s j with
  | nil => exact ⟨j.column, .refl hs, .refl hj⟩
  | cons p ps ih =>
    obtain ⟨col, hg, hw⟩ := State.markRange_wrote (status := status) (a := p.top) hj hs (hp p List.mem_cons_self)
    obtain ⟨col', hg', hw'⟩ := ih hw.job? hg.sound fun q hq => hp q (List.mem_cons_of_mem _ hq)
    exact ⟨col', hg.trans hg', hw.trans hw'⟩

end Extension

/-! ### Columns through every command -/

/-- Columns that cover their holes, and parcels inside the ACTIVE job's (R125, R127, R140). -/
structure State.CoresOk (s : State) : Prop where
  one : s.OneActive
  column : ∀ i j, s.job? i = some j → ColumnSound j.holeDepth j.column
  parcels : ∀ i j, ActiveIs s i j → ∀ p ∈ s.transit.parcels, p.top < p.bottom ∧ p.bottom ≤ j.holeDepth
  forming : ∀ i j top, ActiveIs s i j → s.transit.formingTop = some top → top ≤ j.holeDepth

theorem State.coresOk_iff {s : State} (h1 : s.OneActive) : s.CoresOk ↔ s.ParcelsOk ∧ s.ColumnsOk := by
  have hactive : ∀ i j, ActiveIs s i j ↔ s.active? = some i ∧ s.activeJob? = some j := fun i j =>
    ⟨fun h => ⟨h.1, by rw [State.activeJob?, h.1]; exact h.2⟩, fun h => ⟨h.1, by
      have := h.2
      rwa [State.activeJob?, h.1] at this⟩⟩
  constructor
  · intro ⟨_, hc, hp, hf⟩
    constructor
    · rw [State.ParcelsOk, Option.all_eq_true]
      intro j hj
      obtain ⟨i, hi, _⟩ := Option.bind_eq_some_iff.1 hj
      have ha := (hactive i j).2 ⟨hi, hj⟩
      simp only [Bool.and_eq_true, List.all_eq_true, decide_eq_true_eq, Option.all_eq_true]
      exact ⟨fun p hp' => hp i j ha p hp', fun t ht => hf i j t ha ht⟩
    · exact fun i => (Option.all_eq_true _ _).2 fun j hj => decide_eq_true (columnOk_iff.2 (hc i j hj))
  · intro ⟨hp, hc⟩
    rw [State.ParcelsOk, Option.all_eq_true] at hp
    simp only [Bool.and_eq_true, List.all_eq_true, decide_eq_true_eq, Option.all_eq_true] at hp
    exact ⟨h1, fun i j hj => columnOk_iff.1 (of_decide_eq_true ((Option.all_eq_true _ _).1 (hc i) j hj)),
      fun i j ha => (hp j ((hactive i j).1 ha).2).1, fun i j top ha ht => (hp j ((hactive i j).1 ha).2).2 top ht⟩

section Cores

variable {s t : State} {i k : Fin 4} {j j' : Job}

theorem coresOk_depends : DependsOn [.jobs, .transit] State.CoresOk := fun s t hag h => by
  have hjobs : t.jobs = s.jobs := hag .jobs (by simp)
  have ht : t.transit = s.transit := hag .transit (by simp)
  have hjob : ∀ k, t.job? k = s.job? k := fun k => by rw [State.job?, State.job?, hjobs]
  have hst : s.Staged t := fun k => by rw [hjob]
  have ha : ∀ i j, ActiveIs t i j → ActiveIs s i j := fun i j h => ⟨hst.active? ▸ h.1, hjob i ▸ h.2⟩
  refine ⟨oneActive_staged h.one hst, fun i j hj => h.column i j (hjob i ▸ hj), fun i j hj => ?_, fun i j top hj => ?_⟩
  · rw [ht]
    exact h.parcels i j (ha i j hj)
  · rw [ht]
    exact h.forming i j top (ha i j hj)

/-- One job written with a sound column and its phase kept; parcels and forming top that lie in its hole if it is
ACTIVE, and are no others if it is not. -/
theorem State.CoresOk.wrote (h : s.CoresOk) (hj : s.job? i = some j) (hw : s.Wrote i j' t) (hp : j'.phase = j.phase)
    (hc : ColumnSound j'.holeDepth j'.column) (hd : j.holeDepth ≤ j'.holeDepth)
    (hps : ∀ p ∈ t.transit.parcels, p ∈ s.transit.parcels
      ∨ (s.active? = some i ∧ p.top < p.bottom ∧ p.bottom ≤ j'.holeDepth))
    (hf : ∀ top, t.transit.formingTop = some top → s.transit.formingTop = some top
      ∨ (s.active? = some i ∧ top ≤ j'.holeDepth)) : t.CoresOk := by
  have hst := hw.staged hj hp
  have hact : ∀ k x, ActiveIs t k x → (k = i ∧ x = j' ∧ ActiveIs s i j) ∨ (k ≠ i ∧ ActiveIs s k x) := by
    intro k x hx
    by_cases hk : i = k
    · subst hk
      exact .inl ⟨rfl, Option.some.inj (hx.2.symm.trans hw.job?), hst.active? ▸ hx.1, hj⟩
    · exact .inr ⟨Ne.symm hk, hst.active? ▸ hx.1, (hw.job?_other hk) ▸ hx.2⟩
  refine ⟨oneActive_staged h.one hst, fun k x hx => ?_, fun k x hx p hpm => ?_, fun k x top hx ht => ?_⟩
  · by_cases hk : i = k
    · subst hk
      obtain rfl := Option.some.inj (hx.symm.trans hw.job?)
      exact hc
    · exact h.column k x ((hw.job?_other hk) ▸ hx)
  · obtain ⟨rfl, rfl, ha⟩ | ⟨hk, ha⟩ := hact k x hx
    · obtain hold | ⟨_, hnew⟩ := hps p hpm
      · have := h.parcels k j ha p hold
        exact ⟨this.1, this.2.trans hd⟩
      · exact hnew
    · obtain hold | ⟨hi, _⟩ := hps p hpm
      · exact h.parcels k x ha p hold
      · exact absurd (Option.some.inj (ha.1.symm.trans hi)) hk
  · obtain ⟨rfl, rfl, ha⟩ | ⟨hk, ha⟩ := hact k x hx
    · obtain hold | ⟨_, hnew⟩ := hf top ht
      · exact (h.forming k j top ha hold).trans hd
      · exact hnew
    · obtain hold | ⟨hi, _⟩ := hf top ht
      · exact h.forming k x top ha hold
      · exact absurd (Option.some.inj (ha.1.symm.trans hi)) hk

/-- One job written, the Transit List as it was. -/
theorem State.CoresOk.rewrote (h : s.CoresOk) (hj : s.job? i = some j) (hw : s.Wrote i j' t) (hp : j'.phase = j.phase)
    (hc : ColumnSound j'.holeDepth j'.column) (hd : j.holeDepth ≤ j'.holeDepth) (ht : t.transit = s.transit) : t.CoresOk :=
  h.wrote hj hw hp hc hd (fun _ hpm => .inl (ht ▸ hpm)) fun _ htop => .inl (ht ▸ htop)

/-- A change of the Transit List alone that keeps the ranges it names and the forming top. -/
theorem State.CoresOk.relisted (h : s.CoresOk) (hf : Frame [.transit, .attn] s t)
    (hps : ∀ p ∈ t.transit.parcels, ∃ q ∈ s.transit.parcels, q.top = p.top ∧ q.bottom = p.bottom)
    (ht : t.transit.formingTop = s.transit.formingTop) : t.CoresOk := by
  have hst := hf.staged
  have ha : ∀ i j, ActiveIs t i j → ActiveIs s i j := fun i j hj => ⟨hst.active? ▸ hj.1, hf.job?_eq (by simp) i ▸ hj.2⟩
  refine ⟨oneActive_staged h.one hst, fun i j hj => h.column i j (hf.job?_eq (by simp) i ▸ hj), fun i j hj p hp => ?_,
    fun i j top hj htop => h.forming i j top (ha i j hj) (ht ▸ htop)⟩
  obtain ⟨q, hq, htop, hbot⟩ := hps p hp
  rw [← htop, ← hbot]
  exact h.parcels i j (ha i j hj) q hq

theorem State.CoresOk.setParcels {ps : List Parcel} (h : s.CoresOk) (hps : ps ⊆ s.transit.parcels) :
    (s.setParcels ps).CoresOk :=
  h.relisted ((frame_transit s _).mono (by simp)) (fun p hp => ⟨p, hps hp, rfl, rfl⟩) rfl

/-- One job of the state rewritten, whatever the state holds in the slot. -/
theorem State.CoresOk.modify (h : s.CoresOk) (hnone : s.job? i = none → t = s)
    (hsome : ∀ j, s.job? i = some j → ∃ j', s.Wrote i j' t ∧ j'.phase = j.phase ∧ ColumnSound j'.holeDepth j'.column
      ∧ j.holeDepth ≤ j'.holeDepth) (ht : t.transit = s.transit) : t.CoresOk := by
  cases hj : s.job? i with
  | none => rwa [hnone hj]
  | some j =>
    obtain ⟨j', hw, hp, hc, hd⟩ := hsome j hj
    exact h.rewrote hj hw hp hc hd ht

theorem coresOk_lose (s : State) (i : Fin 4) (status : CutStatus) (qs ps : List Parcel) (hi : s.active? = some i)
    (hq : qs.Sublist s.transit.parcels) (hp : ps ⊆ s.transit.parcels) (h : s.CoresOk) :
    ((s.setParcels qs).markParcels i status ps).CoresOk := by
  obtain ⟨j, ha, _⟩ := State.active?_job hi
  obtain ⟨col, hg, hw⟩ := State.markParcels_wrote (s := s.setParcels qs) (status := status) (ps := ps) ha.2
    (h.column i j ha.2) fun p hpm => (h.parcels i j ha p (hp hpm)).2
  exact (h.setParcels hq.subset).rewrote (i := i) ha.2 hw rfl hg.sound le_rfl (State.markParcels_transit ..)

/-- A birth writes its job's column alone, regrouped, and lists no parcel but those listed before and one of the
forming range (R128, R129). -/
theorem State.birth_wrote {top : Nat} (hj : s.job? i = some j) (ht : s.transit.formingTop = some top)
    (hlt : top < j.holeDepth) (hs : ColumnSound j.holeDepth j.column)
    (hps : ∀ p ∈ s.transit.parcels, p.top < p.bottom ∧ p.bottom ≤ j.holeDepth) :
    (∃ col, Regrouped j.holeDepth j.column col ∧ s.Wrote i { j with column := col } (s.birth i))
      ∧ ∀ p ∈ (s.birth i).transit.parcels, p ∈ s.transit.parcels ∨ (p.top < p.bottom ∧ p.bottom ≤ j.holeDepth) := by
  have hnumbered : Frame [.transit] s (s.numbered j) := frame_transit s _
  rw [State.birth_eq hj ht]
  split_ifs
  · obtain ⟨col, hg, hw⟩ := State.markRange_wrote (s := s.numbered j) (status := .noReturns) (a := top) hj hs le_rfl
    refine ⟨⟨col, hg, hw.frame_left hnumbered⟩, fun p hp => .inl ?_⟩
    rwa [(State.markRange_frame ..).kept .transit (by simp)] at hp
  · have hframe : Frame [.transit, .attn] s ((s.numbered j).mergeBirth j j.holeDepth (wrap32 (s.transit.births + 1))) := by
      refine (hnumbered.mono (by simp)).trans ?_
      unfold State.mergeBirth
      split
      · exact Frame.rfl' _ _
      · exact ((frame_transit _ _).mono (by simp)).trans ((State.raise_frame ..).mono (by simp))
    refine ⟨⟨j.column, .refl hs, .of_frame hj hframe⟩, fun p hp => ?_⟩
    unfold State.mergeBirth at hp
    split at hp
    · exact .inl hp
    next y hy =>
      have hp' : p ∈ s.transit.parcels.dropLast ++ [{ y with
        bottom := j.holeDepth, lag := (s.numbered j).lag j j.holeDepth, merged := true }] := hp
      obtain hold | hnew := List.mem_append.1 hp'
      · exact .inl (List.dropLast_subset _ hold)
      · rw [List.mem_singleton.1 hnew]
        have hy' := hps y (List.mem_of_getLast? hy)
        exact .inr ⟨hy'.1.trans_le hy'.2, le_rfl⟩
  · refine ⟨⟨j.column, .refl hs, .of_frame hj (hnumbered.trans (frame_transit _ _))⟩, fun p hp => ?_⟩
    obtain hold | hnew := List.mem_append.1 (show p ∈ s.transit.parcels ++ _ from hp)
    · exact .inl hold
    · rw [List.mem_singleton.1 hnew]
      exact .inr ⟨hlt, le_rfl⟩

theorem State.CoresOk.birth (h : s.CoresOk) (hi : s.active? = some i) (hlong : 1 ≤ s.formingLength i) :
    (s.birth i).CoresOk := by
  obtain ⟨j, ha, _⟩ := State.active?_job hi
  obtain ⟨j', top, hj, ht, hlt⟩ := State.formingLength_pos hlong
  obtain rfl := Option.some.inj (ha.2.symm.trans hj)
  obtain ⟨⟨col, hg, hw⟩, hps⟩ := State.birth_wrote hj ht hlt (h.column i j hj) (h.parcels i j ha)
  refine h.wrote hj hw rfl hg.sound le_rfl (fun p hp => (hps p hp).imp_right fun hr => ⟨hi, hr⟩) fun top' htop =>
    .inr ⟨hi, ?_⟩
  obtain rfl := Option.some.inj ((State.birth_formingTop hj ht).symm.trans htop)
  exact le_rfl

theorem arriveFirst_ranges : ∀ {ps : List Parcel} {p : Parcel}, p ∈ arriveFirst ps →
    ∃ q ∈ ps, q.top = p.top ∧ q.bottom = p.bottom
  | [], _, h => by cases h
  | q :: rest, p, h => by
    rw [arriveFirst] at h
    split at h
    · obtain rfl | h := List.mem_cons.1 h
      · exact ⟨p, List.mem_cons_self, rfl, rfl⟩
      · obtain ⟨r, hr, he⟩ := arriveFirst_ranges h
        exact ⟨r, List.mem_cons_of_mem _ hr, he⟩
    · obtain rfl | h := List.mem_cons.1 h
      · exact ⟨q, List.mem_cons_self, rfl, rfl⟩
      · exact ⟨p, List.mem_cons_of_mem _ h, rfl, rfl⟩

theorem coresOk_logKept : LogKept State.CoresOk where
  depends := coresOk_depends
  timing s _ _ h := h.relisted ((frame_transit s _).mono (by simp)) (fun p hp => ⟨p, hp, rfl, rfl⟩) rfl
  bill s i line q _ h := by
    refine h.modify (i := i) (fun hn => by simp [State.addUnsettled, hn]) (fun j hj => ?_)
      ((State.addUnsettled_frame ..).kept .transit (by simp))
    exact ⟨_, State.addUnsettled_wrote hj line q, rfl, h.column i j hj, le_rfl⟩
  credit s i h := by
    refine h.modify (i := i) (fun hn => State.modifyJob_none hn) (fun j hj => ?_)
      ((State.modifyJob_frame ..).kept .transit (by simp))
    exact ⟨_, .modifyJob hj, rfl, (h.column i j hj).credited.sound, le_rfl⟩
  flag s i j d f hj hf h :=
    h.rewrote hj (State.setColumn_wrote hj _) rfl ((h.column i j hj).flagged d hf).sound le_rfl
      ((State.setColumn_frame ..).kept .transit (by simp))
  lose := coresOk_lose
  birth s i hi hlong h := h.birth hi hlong
  relist s f hf h := by
    refine h.relisted ((frame_transit s _).mono (by simp)) (fun p hp => ?_) rfl
    obtain ⟨q, hq, rfl⟩ := List.mem_map.1 (show p ∈ s.transit.parcels.map f from hp)
    exact ⟨q, hq, (hf q).1.symm, (hf q).2.1.symm⟩
  arrive := LogKept.arrive_of coresOk_depends coresOk_lose fun s h =>
    h.relisted ((frame_transit s _).mono (by simp)) (fun _ hp => arriveFirst_ranges hp) rfl

/-- A list given up marks the column alone (R19, R135). -/
theorem State.giveUpParcels_wrote (hj : s.job? i = some j) (hs : ColumnSound j.holeDepth j.column)
    (hp : ∀ p ∈ s.transit.parcels, p.bottom ≤ j.holeDepth) :
    ∃ col, Regrouped j.holeDepth j.column col ∧ s.Wrote i { j with column := col } (s.giveUpParcels i) := by
  obtain ⟨col, hg, hw⟩ := State.markParcels_wrote (s := s.setParcels []) (i := i) (status := .notSampled)
    (ps := s.transit.parcels) hj hs hp
  have hw' : s.Wrote i { j with column := col } ((s.setParcels []).markParcels i .notSampled s.transit.parcels) := hw
  have finished : ∀ {u : State} {j' : Job}, s.Wrote i j' u →
      s.Wrote i j' { u with transit := { u.transit with formingTop := none } } := fun hu => hu
  unfold State.giveUpParcels
  simp only
  split
  next j' top hj' ht =>
    obtain rfl := Option.some.inj (hj.symm.trans hj')
    split
    · obtain ⟨col', hg', hwm⟩ := State.markRange_wrote (status := .notSampled) (a := top) (b := j.holeDepth) hw'.job?
        hg.sound le_rfl
      exact ⟨col', hg.trans hg', finished (hw'.trans hwm)⟩
    · exact ⟨col, hg, finished hw'⟩
  · exact ⟨col, hg, finished hw'⟩

/-- A suspension writes its job alone: phase, bit depth and the marks of its column (R19). -/
theorem State.suspendJob_wrote (hj : s.job? i = some j) (hs : ColumnSound j.holeDepth j.column)
    (hp : ∀ p ∈ s.transit.parcels, p.bottom ≤ j.holeDepth) :
    ∃ col, Regrouped j.holeDepth j.column col
      ∧ s.Wrote i { j with phase := .suspended, bitDepth := 0, column := col } (s.suspendJob i) := by
  have hset : s.Wrote i { j with phase := .suspended, bitDepth := 0 }
      (s.modifyJob i fun j => { j with phase := .suspended, bitDepth := 0 }).dropHeld :=
    (State.Wrote.modifyJob (f := fun j => { j with phase := .suspended, bitDepth := 0 }) hj).frame (State.dropHeld_frame _)
  have htransit : (s.modifyJob i fun j => { j with phase := .suspended, bitDepth := 0 }).dropHeld.transit = s.transit :=
    (State.modifyJob_frame ..).kept .transit (by simp)
  obtain ⟨col, hg, hw⟩ := State.giveUpParcels_wrote hset.job? hs (by rw [htransit]; exact hp)
  exact ⟨col, hg, hset.trans hw⟩

theorem State.settleLine_wrote (hj : s.job? i = some j) (line : Fin 40) :
    ∃ sheet, s.Wrote i { j with sheet := sheet } (s.settleLine i line) := by
  unfold State.settleLine
  rw [hj]
  simp only
  split
  · exact ⟨j.sheet, .refl hj⟩
  · split
    · exact ⟨_, State.Wrote.setJob.frame (State.raise_frame ..)⟩
    · exact ⟨_, .setJob⟩

/-- A settlement writes its job's sheet and settlement mark (R171). -/
theorem State.settle_wrote (hj : s.job? i = some j) :
    ∃ sheet, s.Wrote i { j with sheet := sheet, settleMark := j.holeDepth } (s.settle i) := by
  have hlines : ∀ (lines : List (Fin 40)) (u : State) (sheet : Vector Line 40), s.Wrote i { j with sheet := sheet } u →
      ∃ sheet', s.Wrote i { j with sheet := sheet' } (lines.foldl (fun s line => s.settleLine i line) u) := by
    intro lines
    induction lines with
    | nil => exact fun u sheet hu => ⟨sheet, hu⟩
    | cons line lines ih =>
      intro u sheet hu
      obtain ⟨sheet', hw⟩ := State.settleLine_wrote hu.job? line
      exact ih _ sheet' (hu.trans hw)
  unfold State.settle
  generalize List.finRange 40 = lines
  obtain ⟨sheet, hw⟩ := hlines lines s j.sheet (.refl hj)
  exact ⟨sheet, hw.trans (.modifyJob (f := fun j => { j with settleMark := j.holeDepth }) hw.job?)⟩

theorem State.settle_none (hj : s.job? i = none) : s.settle i = s := by
  have hline : ∀ line, s.settleLine i line = s := fun line => by simp [State.settleLine, hj]
  have hlines : ∀ lines : List (Fin 40), lines.foldl (fun s line => s.settleLine i line) s = s := by
    intro lines
    induction lines with
    | nil => rfl
    | cons line lines ih => rw [List.foldl_cons, hline, ih]
  rw [State.settle, hlines, State.modifyJob_none hj]

/-- A job opened, activated, suspended or closed, where no other slot's job changes: the columns and, for the job that is
ACTIVE then, the parcels. -/
theorem State.CoresOk.of_slots (h : s.CoresOk) (hone : t.OneActive) (hk : ∀ k, k ≠ i → t.job? k = s.job? k)
    (hc : ∀ j, t.job? i = some j → ColumnSound j.holeDepth j.column)
    (hps : ∀ k j, ActiveIs t k j → ∀ p ∈ t.transit.parcels, p.top < p.bottom ∧ p.bottom ≤ j.holeDepth)
    (hf : ∀ k j top, ActiveIs t k j → t.transit.formingTop = some top → top ≤ j.holeDepth) : t.CoresOk := by
  refine ⟨hone, fun k j hj => ?_, hps, hf⟩
  by_cases hki : k = i
  · subst hki
    exact hc j hj
  · exact h.column k j (hk k hki ▸ hj)

/-- A slot whose job is not ACTIVE before or after: the same job is. -/
theorem activeIs_of_slots (hk : ∀ k, k ≠ i → t.job? k = s.job? k) (hs : s.isActive i = false) (ht : t.isActive i = false)
    {x : Job} (h : ActiveIs t k x) : ActiveIs s k x := by
  have hsame : ∀ k, t.isActive k = s.isActive k := fun k => by
    by_cases hki : k = i
    · rw [hki, hs, ht]
    · rw [State.isActive, hk k hki, State.isActive]
  have hki : k ≠ i := by
    rintro rfl
    have := State.isActive_of_active? h.1
    rw [ht] at this
    cases this
  exact ⟨State.active?_congr hsame ▸ h.1, hk k hki ▸ h.2⟩

theorem oneActive_of_slots (h : s.OneActive) (hk : ∀ k, k ≠ i → t.job? k = s.job? k) (ht : t.isActive i = false) :
    t.OneActive := by
  have hact : ∀ k, t.isActive k = true → k ≠ i ∧ s.isActive k = true := by
    intro k hk'
    have hki : k ≠ i := by
      rintro rfl
      rw [ht] at hk'
      cases hk'
    exact ⟨hki, by rwa [State.isActive, hk k hki] at hk'⟩
  exact fun a b ha hb => h a b (hact a ha).2 (hact b hb).2

/-- A slot whose job is not ACTIVE before or after, the Transit List as it was. -/
theorem State.CoresOk.inactive (h : s.CoresOk) (hk : ∀ k, k ≠ i → t.job? k = s.job? k) (hs : s.isActive i = false)
    (ht : t.isActive i = false) (hc : ∀ j, t.job? i = some j → ColumnSound j.holeDepth j.column)
    (htr : t.transit = s.transit) : t.CoresOk := by
  refine h.of_slots (oneActive_of_slots h.one hk ht) hk hc (fun k j hj => ?_) fun k j top hj => ?_
  · rw [htr]
    exact h.parcels k j (activeIs_of_slots hk hs ht hj)
  · rw [htr]
    exact h.forming k j top (activeIs_of_slots hk hs ht hj)

/-- A fresh job's column covers its hole (R142). -/
theorem initialColumn_sound (start : Nat) : ColumnSound start (initialColumn start) := by
  unfold initialColumn
  simp only
  split
  next h0 =>
    subst h0
    exact ⟨⟨rfl, le_rfl, rfl⟩, by simp [columnLimit]⟩
  next h0 => exact ⟨⟨rfl, Nat.pos_of_ne_zero h0, rfl, le_rfl, rfl⟩, by simp [columnLimit]⟩

/-- A bed opened at the hole depth (R145). -/
theorem openBed_sound {table : Vector LithEntry 64} {lith : Fin 64} {h : Nat} {col col' : List Interval}
    (hs : ColumnSound h col) (ho : openBed table lith h col = some col') : ColumnSound h col' := by
  obtain ⟨deepest, hd, hbot⟩ := hs.last
  rw [openBed, hd] at ho
  simp only at ho
  split at ho
  next hzero =>
    obtain rfl := Option.some.inj ho
    subst hbot
    exact columnSound_replaceLast (iv := { deepest with lith := lith, cls := table[lith].cls }) hs hd rfl hzero.le
  next hthick =>
    obtain ⟨roomy, hroomy, rfl⟩ := Option.map_eq_some_iff.1 ho
    obtain ⟨hg, hlast, hroom⟩ := hs.seekRoom hroomy
    refine ⟨hg.sound.1.concat (fun u hu => ?_) rfl le_rfl, ?_⟩
    · obtain rfl := Option.some.inj ((hlast.trans hd).symm.trans hu)
      exact lt_of_le_of_ne (hs.1.last_le hd) hthick
    · rw [List.length_append, List.length_singleton]
      have := hg.sound.2
      omega

/-- New hole with its column extended (R75, R143). -/
theorem State.deepened_wrote {h1 : Nat} (hs : ColumnSound j.holeDepth j.column)
    (hlt : j.holeDepth < h1) : ∃ col cls deepest, j.column.getLast? = some deepest ∧ deepest.bottom = j.holeDepth
      ∧ j.Extends s.lith deepest h1 col cls
      ∧ s.Wrote i (({ j with holeDepth := h1, bitDepth := h1, column := col } : Job).posts
          (j.accruals j.holeDepth h1 cls)) (s.deepened i j h1) := by
  obtain ⟨deepest, hd, hbot⟩ := hs.last
  have hset : s.Wrote i { j with holeDepth := h1, bitDepth := h1 }
      ((s.setJob i { j with holeDepth := h1, bitDepth := h1 }).creditString (h1 - j.holeDepth)) :=
    State.Wrote.setJob.frame (State.creditString_frame ..)
  have hlith : ((s.setJob i { j with holeDepth := h1, bitDepth := h1 }).creditString (h1 - j.holeDepth)).lith = s.lith :=
    (State.creditString_frame ..).kept .lith (by simp [rosterParts])
  obtain ⟨col, cls, he, hw⟩ := State.extendColumn_wrote (h1 := h1) hset.job? hd (by omega)
  rw [hlith] at he
  refine ⟨col, cls, deepest, hd, hbot, ?_, ?_⟩
  · cases he with
    | grows h1 h2 h3 => exact .grows h1 h2 h3
    | takes hz => exact .takes hz
    | follows roomy hn hr => exact .follows roomy hn hr
    | merges hn hr => exact .merges hn hr
  · rw [hbot] at hw
    exact hset.trans hw

/-- New hole with its column extended keeps the columns and the parcels. -/
theorem State.CoresOk.deepened (h : s.CoresOk) (hj : ActiveIs s i j) {h1 : Nat} (hlt : j.holeDepth < h1) :
    (s.deepened i j h1).CoresOk := by
  obtain ⟨col, cls, deepest, hd, hbot, he, hw⟩ := State.deepened_wrote (s := s) (i := i) (h.column i j hj.2) hlt
  rw [Job.posts_eq] at hw
  refine h.rewrote hj.2 hw rfl (he.sound (h.column i j hj.2) hd (by omega)) hlt.le ?_
  have hcredit : ((s.setJob i { j with holeDepth := h1, bitDepth := h1 }).creditString (h1 - j.holeDepth)).transit
      = s.transit := (State.creditString_frame ..).kept .transit (by simp [rosterParts])
  exact ((State.extendColumn_frame ..).kept .transit (by simp)).trans hcredit

theorem coresOk_jobKept (L : Nat) : JobKept L State.CoresOk where
  toLogKept := coresOk_logKept
  edit s i j j' hj he h := by
    refine h.rewrote hj .setJob he.phase ?_ he.holeDepth.ge rfl
    rw [he.holeDepth, he.column]
    exact h.column i j hj
  opened s i number start diameter rodType b1 b2 bha hfree _ _ h := by
    refine h.inactive (i := i) (fun k hk => State.setJob_job?_other (Ne.symm hk)) (by simp [State.isActive, hfree]) ?_
      (fun j hj => ?_) rfl
    · simp [State.isActive, Job.fresh]
    · obtain rfl := Option.some.inj (State.setJob_job?_same.symm.trans hj)
      exact initialColumn_sound start
  activate s i j hj hnone h := by
    have hothers : ∀ k x, ActiveIs ((s.setJob i { j with phase := .active, bitDepth := 0 }).startParcels j.holeDepth) k x →
        k = i ∧ x = { j with phase := .active, bitDepth := 0 } := by
      intro k x hx
      by_cases hk : i = k
      · subst hk
        exact ⟨rfl, Option.some.inj (hx.2.symm.trans State.setJob_job?_same)⟩
      · have hjob : s.job? k = some x := by
          rw [← State.setJob_job?_other (j := { j with phase := .active, bitDepth := 0 }) hk]
          exact hx.2
        have := State.active?_none_iff.1 hnone k
        rw [State.isActive_iff.2 ⟨x, hjob, hx.phase⟩] at this
        cases this
    have hone : ((s.setJob i { j with phase := .active, bitDepth := 0 }).startParcels j.holeDepth).OneActive := by
      intro a b ha hb
      have hslot : ∀ a, ((s.setJob i { j with phase := .active, bitDepth := 0 }).startParcels j.holeDepth).isActive a = true →
          a = i := by
        intro a ha
        by_contra hne
        have hs : s.isActive a = true := by
          rw [State.isActive, ← State.setJob_job?_other (j := { j with phase := .active, bitDepth := 0 }) (Ne.symm hne)]
          exact ha
        rw [State.active?_none_iff.1 hnone a] at hs
        cases hs
      rw [hslot a ha, hslot b hb]
    refine h.of_slots (i := i) hone (fun k hk => State.setJob_job?_other (Ne.symm hk)) (fun x hx => ?_)
      (fun k x _ p hp => by cases hp) fun k x top hx htop => ?_
    · obtain rfl := Option.some.inj (State.setJob_job?_same.symm.trans hx)
      exact h.column i j hj
    · obtain ⟨rfl, rfl⟩ := hothers k x hx
      obtain rfl := Option.some.inj htop
      exact le_rfl
  suspend s i hi h := by
    have ha := h.one.active? hi
    obtain ⟨j, hj, _⟩ := State.active?_job ha
    obtain ⟨col, hg, hw⟩ := State.suspendJob_wrote hj.2 (h.column i j hj.2) fun p hp => (h.parcels i j hj p hp).2
    have hnone : ∀ k, (s.suspendJob i).isActive k = false := by
      intro k
      by_cases hk : k = i
      · rw [hk]
        exact State.suspendJob_inactive i s
      · rw [State.isActive, hw.job?_other (Ne.symm hk)]
        by_contra hact
        exact hk (h.one k i (by simpa [State.isActive] using hact) hi)
    have hinactive : (s.suspendJob i).active? = none := State.active?_none_iff.2 hnone
    refine h.of_slots (i := i) (fun a b ha => ?_) (fun k hk => hw.job?_other (Ne.symm hk)) (fun x hx => ?_)
      (fun k x hx => absurd (hx.1.symm.trans hinactive) (by simp)) fun k x top hx =>
        absurd (hx.1.symm.trans hinactive) (by simp)
    · rw [hnone a] at ha
      cases ha
    · obtain rfl := Option.some.inj (hw.job?.symm.trans hx)
      exact hg.sound
  settle s i h := by
    refine h.modify (i := i) (fun hn => State.settle_none hn) (fun j hj => ?_) (State.settle_transit i s)
    obtain ⟨sheet, hw⟩ := State.settle_wrote hj
    exact ⟨_, hw, rfl, h.column i j hj, le_rfl⟩
  closed s i j hj hp h := by
    refine h.inactive (i := i) (fun k hk => State.setJob_job?_other (Ne.symm hk)) (by simp [State.isActive, hj, hp]) ?_
      (fun x hx => ?_) rfl
    · simp [State.isActive]
    · obtain rfl := Option.some.inj (State.setJob_job?_same.symm.trans hx)
      exact h.column i j hj
  reband s i j b1 b2 hj _ h := by
    have hset : s.Wrote i { j with b1 := b1, b2 := b2 } (s.setJob i { j with b1 := b1, b2 := b2 }) := .setJob
    rw [State.rebandFootage_eq]
    have hw := hset.trans (State.posts_wrote hset.job? (j.rebands b1 b2))
    rw [Job.posts_eq] at hw
    exact h.rewrote hj hw rfl (h.column i j hj) le_rfl ((State.posts_frame ..).kept .transit (by simp))
  bind s i c a b t _ ht h := by
    have hjob : ∃ j, s.job? i = some j := by
      obtain ⟨j, hj, _⟩ := Option.bind_eq_some_iff.1 ht
      exact ⟨j, hj⟩
    obtain ⟨j, hj⟩ := hjob
    obtain ⟨r, hr, hw⟩ := State.bindRange_wrote hj ht
    rw [Job.posts_eq] at hw
    exact h.rewrote hj hw rfl ((h.column i j hj).applyRange hr) le_rfl
      ((State.bindRange_frame i c a b s t ht).kept .transit (by simp))
  drop s h := h.setParcels (removeArrived_sublist _).subset
  bed s a j lith col ha hcol h := h.rewrote ha.2 .setJob rfl (openBed_sound (h.column a j ha.2) hcol) le_rfl rfl
  newHole s i j h1 hj hlt _ h := coresOk_logKept.newHole_of hj (h.deepened hj hlt)

/-- No job is left by INITIALISE. -/
theorem State.initialised_coresOk (u : State) : u.initialised.CoresOk := by
  have hnone : ∀ k x, ActiveIs u.initialised k x → False := fun k x hx => by
    have := hx.2
    rw [initialised_job?] at this
    cases this
  refine ⟨(initialised_tableOk u).one, fun k x hx => ?_, fun k x hx => (hnone k x hx).elim,
    fun k x top hx => (hnone k x hx).elim⟩
  rw [initialised_job?] at hx
  cases hx

/-- A slot whose job is not ACTIVE freed. -/
theorem State.CoresOk.freed (h : s.CoresOk) (hj : s.job? i = some j) (hp : j.phase = .closed) :
    (s.freeJob i).CoresOk := by
  refine h.inactive (i := i) (fun k hk => State.freeJob_job?_other (Ne.symm hk)) (by simp [State.isActive, hj, hp])
    (by simp [State.isActive, State.freeJob_job?_same]) (fun x hx => ?_) rfl
  rw [State.freeJob_job?_same] at hx
  cases hx

theorem exec_coresOk {c : Instr} (hx : exec c s = .next t) (h : s.CoresOk) : t.CoresOk := by
  by_cases hi : ∃ r, c = .initialise r
  · obtain ⟨r, rfl⟩ := hi
    refine coresOk_logKept.of_request hx (fun l ws u _ => serveInitialise_answers.mono ?_) h
    rintro v ⟨_, rfl⟩
    exact u.initialised_coresOk
  · by_cases hr : ∃ r, c = .releaseJob r
    · obtain ⟨r, rfl⟩ := hr
      refine coresOk_logKept.of_request hx (fun l ws u hu => serveReleaseJob_answers.mono ?_) h
      rintro v ⟨i, j, hj, hp, rfl⟩
      exact hu.freed hj hp
    · exact (coresOk_jobKept s.roster.stringLen).exec (fun r he => hi ⟨r, he⟩) (fun r he => hr ⟨r, he⟩) (fun _ _ => le_rfl)
        hx h

end Cores

/-- Settles O56: columns and parcels together, kept by every command. -/
theorem columnInvariant : Obligations.ColumnInvariant := by
  intro s t hone hp hc hx
  have hcores := coresOk_logKept.settled.of_step (fun c u v hx hu => exec_coresOk hx hu) hx
    ((State.coresOk_iff hone).2 ⟨hp, hc⟩)
  exact (State.coresOk_iff hcores.one).1 hcores

end Sys2Proof.Machine
end

section
/-! PROOFS. The settlement of a sheet, line by line, and the footage of every job through every command. -/

namespace Sys2Proof.Machine

/-! ### Settlement (R171) -/

/-- A line as a settlement leaves it. -/
def State.settledLine (s : State) (j : Job) (line : Fin 40) : Line :=
  if j.sheet[line].unsettled = 0 then j.sheet[line]
  else
    { settled := clampLine (j.sheet[line].settled + j.sheet[line].unsettled), unsettled := 0
      amount := clampLine (j.sheet[line].amount + lineAmount line (s.linePrice j line) j.sheet[line].unsettled) }

section Settle

variable {s t : State} {i : Fin 4} {j : Job}

theorem State.linePrice_congr {sheet : Vector Line 40} {u : State} (ht : u.tanks = s.tanks) (hr : u.roster = s.roster)
    (line : Fin 40) : u.linePrice { j with sheet := sheet } line = s.linePrice j line := by
  simp only [State.linePrice, State.additive?, ht, hr]

/-- One line settled (R171). -/
theorem State.settleLine_sheet (hj : s.job? i = some j) (line : Fin 40) :
    s.Wrote i { j with sheet := j.sheet.set line (s.settledLine j line) } (s.settleLine i line) := by
  unfold State.settleLine
  rw [hj]
  simp only
  split
  next hzero =>
    rw [State.settledLine, if_pos hzero, Fin.getElem_fin, Vector.set_getElem_self]
    exact .refl hj
  next hsome =>
    rw [State.settledLine, if_neg hsome]
    split
    · exact State.Wrote.setJob.frame (State.raise_frame ..)
    · exact .setJob

/-- The sheet with the lines of a list settled. -/
def State.settledSheet (s : State) (j : Job) (lines : List (Fin 40)) : Vector Line 40 :=
  Vector.ofFn fun line => if line ∈ lines then s.settledLine j line else j.sheet[line]

theorem State.settledSheet_get (s : State) (j : Job) (lines : List (Fin 40)) (line : Fin 40) :
    (s.settledSheet j lines)[line] = if line ∈ lines then s.settledLine j line else j.sheet[line] := by
  simp [State.settledSheet]

theorem State.settledSheet_cons (s : State) (j : Job) (line : Fin 40) (lines : List (Fin 40)) :
    (s.settledSheet j lines).set line (s.settledLine j line) = s.settledSheet j (lines ++ [line]) := by
  refine Vector.ext fun n hn => ?_
  by_cases he : line.val = n
  · subst he
    simp [State.settledSheet]
  · have hne : (⟨n, hn⟩ : Fin 40) ≠ line := fun h => he (congrArg Fin.val h).symm
    simp [State.settledSheet, Vector.getElem_set_ne _ _ he, hne]

theorem State.settledSheet_nil (s : State) (j : Job) : s.settledSheet j [] = j.sheet :=
  Vector.ext fun n hn => by simp [State.settledSheet]

/-- A further line settled after others, as it stood at first. -/
theorem State.settleLine_settledSheet {u : State} {done : List (Fin 40)} {line : Fin 40} (hl : line ∉ done)
    (hf : Frame [.jobs, .attn] s u) (hu : s.Wrote i { j with sheet := s.settledSheet j done } u) :
    s.Wrote i { j with sheet := s.settledSheet j (done ++ [line]) } (u.settleLine i line) := by
  have hsame : u.settledLine { j with sheet := s.settledSheet j done } line = s.settledLine j line := by
    have hget : (s.settledSheet j done)[line] = j.sheet[line] := by
      rw [State.settledSheet_get, if_neg hl]
    simp only [State.settledLine, hget]
    rw [State.linePrice_congr (hf.kept .tanks (by simp)) (hf.kept .roster (by simp))]
  have hw := State.settleLine_sheet hu.job? line
  rw [hsame, State.settledSheet_cons] at hw
  exact hu.trans hw

/-- Different lines settled one after another, each as it stood at first. -/
theorem State.settleLines_wrote {lines : List (Fin 40)} {done : List (Fin 40)} {u : State} (hn : (done ++ lines).Nodup)
    (hf : Frame [.jobs, .attn] s u) (hu : s.Wrote i { j with sheet := s.settledSheet j done } u) :
    s.Wrote i { j with sheet := s.settledSheet j (done ++ lines) } (lines.foldl (fun s line => s.settleLine i line) u) := by
  induction lines generalizing done u with
  | nil => rwa [List.append_nil]
  | cons line lines ih =>
    have hl : line ∉ done := fun hm => (List.nodup_append.1 hn).2.2 line hm line List.mem_cons_self rfl
    have hrest := ih (done := done ++ [line]) (by simpa using hn) (hf.trans (State.settleLine_frame ..))
      (State.settleLine_settledSheet hl hf hu)
    rw [List.append_assoc, List.singleton_append] at hrest
    exact hrest

/-- The sheet as a settlement leaves it (R171). -/
def State.settledAll (s : State) (j : Job) : Vector Line 40 := Vector.ofFn (s.settledLine j)

theorem State.settledAll_get (s : State) (j : Job) (line : Fin 40) : (s.settledAll j)[line] = s.settledLine j line := by
  rw [State.settledAll, Fin.getElem_fin, Vector.getElem_ofFn]

theorem State.settledSheet_all {lines : List (Fin 40)} (hall : ∀ line, line ∈ lines) :
    s.settledSheet j lines = s.settledAll j := by
  rw [State.settledSheet, State.settledAll]
  exact congrArg Vector.ofFn (funext fun line => if_pos (hall line))

/-- What a settlement leaves of its job (R171). -/
theorem State.settle_sheet (hj : s.job? i = some j) :
    s.Wrote i { j with sheet := s.settledAll j, settleMark := j.holeDepth } (s.settle i) := by
  have hn : (List.finRange 40).Nodup := List.nodup_finRange 40
  have hall : ∀ line, line ∈ List.finRange 40 := List.mem_finRange
  unfold State.settle
  revert hn hall
  generalize List.finRange 40 = lines
  intro hn hall
  have hlines := State.settleLines_wrote (done := []) (lines := lines) hn (Frame.rfl' _ s)
    (by rw [State.settledSheet_nil]; exact .refl hj)
  rw [← State.settledSheet_all hall]
  generalize hsheet : s.settledSheet j ([] ++ lines) = sheet at hlines
  rw [List.nil_append] at hsheet
  rw [hsheet]
  exact hlines.trans (.modifyJob (f := fun j => { j with settleMark := j.holeDepth }) hlines.job?)

end Settle

/-! ### The weight of a band -/

/-- The thickness of a range that lies in a band of the job's, between its start depth and its hole depth. -/
def Job.weight (j : Job) (band : Fin 3) (a b : Nat) : Nat :=
  bandOverlap j.b1 j.b2 (max a j.startDepth) (min b j.holeDepth) band

section Weights

variable {j : Job} {c : RockClass} {band : Fin 3} {col : List Interval} {a b h : Nat} {w : Nat → Nat → Nat}

theorem bandOverlap_addsUp (b1 b2 start hole : Nat) (band : Fin 3) :
    AddsUp fun a b => bandOverlap b1 b2 (max a start) (min b hole) band := by
  intro a m b h1 h2
  match band with
  | 0 | 1 | 2 =>
    simp only [bandOverlap]
    omega

theorem Job.weight_addsUp (j : Job) (band : Fin 3) : AddsUp (j.weight band) :=
  fun a m b h1 h2 => bandOverlap_addsUp j.b1 j.b2 j.startDepth j.holeDepth band a m b h1 h2

theorem bandOverlap_le (b1 b2 a b : Nat) (band : Fin 3) : bandOverlap b1 b2 a b band ≤ b - a := by
  match band with
  | 0 | 1 | 2 =>
    simp only [bandOverlap]
    omega

theorem Job.thickness_eq (j : Job) (b1 b2 : Nat) (c : RockClass) (band : Fin 3) : j.thickness b1 b2 c band
    = classSum (fun a b => bandOverlap b1 b2 (max a j.startDepth) (min b j.holeDepth) band) c j.column := by
  rw [Job.thickness, classSum]
  generalize j.column = col
  induction col with
  | nil => rfl
  | cons iv col ih =>
    rw [List.filter_cons, List.map_cons, List.sum_cons, ← ih]
    by_cases hc : iv.cls = c
    · simp [hc]
    · simp [hc]

/-- The parts of all intervals, whatever their class, add up to the weight of the range they cover. -/
theorem AddsUp.sum_covers (hw : AddsUp w) (hc : Covers a col b) : (col.map fun iv => w iv.top iv.bottom).sum = w a b := by
  induction col generalizing a with
  | nil => exact hc.elim
  | cons iv rest ih =>
    rw [List.map_cons, List.sum_cons]
    by_cases hr : rest = []
    · subst hr
      obtain ⟨htop, _, hb⟩ := covers_singleton.1 hc
      simp [htop, hb]
    · obtain ⟨htop, hlt, hrest⟩ := (covers_cons hr).1 hc
      rw [ih hrest, htop]
      exact hw _ _ _ hlt.le hrest.le

theorem classSum_le_sum (w : Nat → Nat → Nat) (c : RockClass) (col : List Interval) :
    classSum w c col ≤ (col.map fun iv => w iv.top iv.bottom).sum := by
  induction col with
  | nil => exact le_rfl
  | cons iv col ih =>
    rw [classSum_cons, List.map_cons, List.sum_cons, Interval.part]
    split <;> omega

/-- A class is no thicker than the hole. -/
theorem classSum_bandOverlap_le {b1 b2 start hole : Nat} (hc : Covers 0 col h) :
    classSum (fun a b => bandOverlap b1 b2 (max a start) (min b hole) band) c col ≤ hole := by
  refine (classSum_le_sum ..).trans ?_
  rw [(bandOverlap_addsUp b1 b2 start hole band).sum_covers hc]
  refine (bandOverlap_le ..).trans ?_
  omega

theorem footageLine_inj {c' : RockClass} {band' : Fin 3} :
    footageLine c band = footageLine c' band' ↔ c = c' ∧ band = band' := by
  constructor
  · intro he
    have hv : c.ix.val * 3 + band.val = c'.ix.val * 3 + band'.val := congrArg Fin.val he
    have hix : c.ix = c'.ix := Fin.ext (by omega)
    refine ⟨?_, Fin.ext (by omega)⟩
    cases c <;> cases c' <;> first | rfl | exact absurd hix (by decide)
  · rintro ⟨rfl, rfl⟩
    rfl

theorem footageLine_lt (c : RockClass) (band : Fin 3) : (footageLine c band).val < 12 := by
  have := c.ix.isLt
  simp only [footageLine]
  omega

end Weights

/-! ### Footage of one job -/

/-- A job's footage with its column (R161): settled and unsettled together the thickness between start and hole, no
figure past its hole's 100,000 cm. -/
structure Job.Footed (j : Job) : Prop where
  hole : j.holeDepth ≤ 100000
  bands : j.b1 ≤ j.b2
  settled : ∀ c band, 0 ≤ j.sheet[footageLine c band].settled ∧ j.sheet[footageLine c band].settled ≤ 100000
  footage : ∀ c band, j.sheet[footageLine c band].settled + j.sheet[footageLine c band].unsettled
    = (classSum (j.weight band) c j.column : Int)

section Footed

variable {j j' : Job} {c : RockClass} {band : Fin 3} {col : List Interval}

theorem RockClass.mem_all (c : RockClass) : c ∈ RockClass.all := by cases c <;> decide

theorem Job.footed_iff : j.Footed ↔ j.FootageBounded ∧ j.FootageOk := by
  have hthick : ∀ c band, j.thickness j.b1 j.b2 c band = classSum (j.weight band) c j.column := fun c band =>
    j.thickness_eq j.b1 j.b2 c band
  constructor
  · intro ⟨hh, hb, hs, hf⟩
    refine ⟨⟨hh, hb, fun c _ band => hs c band⟩, fun c _ band => ?_⟩
    rw [hthick]
    exact hf c band
  · intro ⟨⟨hh, hb, hs⟩, hf⟩
    refine ⟨hh, hb, fun c band => hs c c.mem_all band, fun c band => ?_⟩
    rw [← hthick]
    exact hf c c.mem_all band

/-- Footage depends on the depths, the bands, the column's thicknesses and the footage lines alone. -/
theorem Job.Footed.congr (h : j.Footed) (hstart : j'.startDepth = j.startDepth) (hhole : j'.holeDepth = j.holeDepth)
    (hb1 : j'.b1 = j.b1) (hb2 : j'.b2 = j.b2)
    (hcol : ∀ w c, AddsUp w → classSum w c j'.column = classSum w c j.column)
    (hsheet : ∀ c band, j'.sheet[footageLine c band] = j.sheet[footageLine c band]) : j'.Footed := by
  have hweight : j'.weight = j.weight := by
    funext band a b
    simp only [Job.weight, hstart, hhole, hb1, hb2]
  refine ⟨hhole ▸ h.hole, by rw [hb1, hb2]; exact h.bands, fun c band => by rw [hsheet]; exact h.settled c band,
    fun c band => ?_⟩
  rw [hsheet, hweight, hcol _ c (j.weight_addsUp band)]
  exact h.footage c band

theorem Job.Footed.regrouped (h : j.Footed) (hg : Regrouped j.holeDepth j.column col) : ({ j with column := col } : Job).Footed :=
  h.congr rfl rfl rfl rfl hg.sums fun _ _ => rfl

/-- The unsettled footage of a line stays far within its limits. -/
theorem Job.Footed.unsettled_le (h : j.Footed) (hc : Covers 0 j.column j.holeDepth) (c : RockClass) (band : Fin 3) :
    j.sheet[footageLine c band].unsettled.natAbs ≤ 100000 := by
  have hf := h.footage c band
  have hs := h.settled c band
  have hle : classSum (j.weight band) c j.column ≤ j.holeDepth := classSum_bandOverlap_le hc
  have := h.hole
  omega

/-- Postings that bring each footage line what its class and band gained. -/
theorem Job.Footed.posts (h : j.Footed) (hc : Covers 0 j.column j.holeDepth) {ps : List (Fin 40 × Int)}
    (hsheet : j'.sheet = j.sheet) (hhole : j'.holeDepth ≤ 100000) (hbands : j'.b1 ≤ j'.b2)
    (hload : ∀ c band, lineLoad (footageLine c band) ps ≤ 1000000)
    (htotal : ∀ c band, lineTotal (footageLine c band) ps
      = (classSum (j'.weight band) c j'.column : Int) - classSum (j.weight band) c j.column) : (j'.posts ps).Footed := by
  have hw : (j'.posts ps).weight = j'.weight := by rw [Job.posts_eq]; rfl
  have hcol : (j'.posts ps).column = j'.column := by rw [Job.posts_eq]
  refine ⟨by rw [Job.posts_eq]; exact hhole, by rw [Job.posts_eq]; exact hbands, fun c band => ?_, fun c band => ?_⟩
  · rw [(j'.posts_settled ps _).1, hsheet]
    exact h.settled c band
  · have hu := h.unsettled_le hc c band
    have hl := hload c band
    have hf := h.footage c band
    have ht := htotal c band
    rw [(j'.posts_settled ps _).1, Job.posts_unsettled (by rw [hsheet]; omega), hsheet, hw, hcol]
    omega

end Footed

/-! ### What postings bring to the footage lines -/

section Totals

variable {j : Job} {c c' : RockClass} {band : Fin 3} {f g : Fin 3 → Int} {ps : List (Fin 40 × Int)} {col : List Interval}
  {h a b : Nat} {table : Vector LithEntry 64}

/-- A line's part of the postings of one class, band by band. -/
theorem lineTotal_bands (c c' : RockClass) (band : Fin 3) (f : Fin 3 → Int) :
    lineTotal (footageLine c band) ((List.finRange 3).map fun band => (footageLine c' band, f band))
      = if c' = c then f band else 0 := by
  have hthree : List.finRange 3 = [0, 1, 2] := by decide
  simp only [hthree, lineTotal, List.map_cons, List.map_nil, List.sum_cons, List.sum_nil, footageLine_inj]
  by_cases hc : c' = c
  · subst hc
    match band with
    | 0 | 1 | 2 => simp
  · simp [hc]

theorem lineLoad_bands (c c' : RockClass) (band : Fin 3) (f : Fin 3 → Int) :
    lineLoad (footageLine c band) ((List.finRange 3).map fun band => (footageLine c' band, f band))
      = if c' = c then (f band).natAbs else 0 := by
  have hthree : List.finRange 3 = [0, 1, 2] := by decide
  simp only [hthree, lineLoad, List.map_cons, List.map_nil, List.sum_cons, List.sum_nil, footageLine_inj]
  by_cases hc : c' = c
  · subst hc
    match band with
    | 0 | 1 | 2 => simp
  · simp [hc]

theorem lineTotal_pairs (c c' d : RockClass) (band : Fin 3) (f g : Fin 3 → Int) :
    lineTotal (footageLine c band)
        ((List.finRange 3).flatMap fun band => [(footageLine c' band, f band), (footageLine d band, g band)])
      = (if c' = c then f band else 0) + if d = c then g band else 0 := by
  rw [← lineTotal_bands c c' band f, ← lineTotal_bands c d band g]
  have hthree : List.finRange 3 = [0, 1, 2] := by decide
  simp only [hthree, lineTotal, List.flatMap_cons, List.flatMap_nil, List.map_cons, List.map_nil, List.map_append,
    List.sum_append, List.sum_cons, List.sum_nil]
  omega

theorem lineLoad_pairs (c c' d : RockClass) (band : Fin 3) (f g : Fin 3 → Int) :
    lineLoad (footageLine c band)
        ((List.finRange 3).flatMap fun band => [(footageLine c' band, f band), (footageLine d band, g band)])
      = (if c' = c then (f band).natAbs else 0) + if d = c then (g band).natAbs else 0 := by
  rw [← lineLoad_bands c c' band f, ← lineLoad_bands c d band g]
  have hthree : List.finRange 3 = [0, 1, 2] := by decide
  simp only [hthree, lineLoad, List.flatMap_cons, List.flatMap_nil, List.map_cons, List.map_nil, List.map_append,
    List.sum_append, List.sum_cons, List.sum_nil]
  omega

/-- New hole brings its class the weight of the new range. -/
theorem Job.accruals_total (j : Job) (h1 : Nat) (c c' : RockClass) (band : Fin 3) (h0 : Nat) :
    lineTotal (footageLine c band) (j.accruals h0 h1 c') =
      if c' = c then (bandOverlap j.b1 j.b2 (max h0 j.startDepth) h1 band : Int) else 0 := lineTotal_bands ..

theorem Job.accruals_load (j : Job) (h1 : Nat) (c c' : RockClass) (band : Fin 3) (h0 : Nat) :
    lineLoad (footageLine c band) (j.accruals h0 h1 c') ≤ h1 := by
  rw [Job.accruals, lineLoad_bands]
  split
  · have := bandOverlap_le j.b1 j.b2 (max h0 j.startDepth) h1 band
    omega
  · exact Nat.zero_le _

/-- A class change takes its weight from the old class and gives it to the new. -/
theorem Job.moves_total (j : Job) (ch : ClassChange) (c : RockClass) (band : Fin 3) :
    lineTotal (footageLine c band) (j.moves ch) = (if ch.new = c then (j.weight band ch.top ch.bottom : Int) else 0)
      - if ch.old = c then (j.weight band ch.top ch.bottom : Int) else 0 := by
  rw [Job.moves, lineTotal_pairs]
  simp only [Job.moved, Job.weight]
  split <;> split <;> omega

theorem Job.moves_load (j : Job) (ch : ClassChange) (c : RockClass) (band : Fin 3) :
    lineLoad (footageLine c band) (j.moves ch) ≤ 2 * j.weight band ch.top ch.bottom := by
  rw [Job.moves, lineLoad_pairs]
  simp only [Job.moved, Job.weight]
  split <;> split <;> omega

theorem classChanges_cons (table : Vector LithEntry 64) (c : RangeChange) (a b : Nat) (iv : Interval) (col : List Interval) :
    classChanges table c a b (iv :: col) =
      if iv.inside a b && (c.set table iv).cls != iv.cls then
        ⟨iv.top, iv.bottom, iv.cls, (c.set table iv).cls⟩ :: classChanges table c a b col
      else classChanges table c a b col := by
  rw [classChanges, List.filterMap_cons]
  split <;> simp_all [classChanges]

/-- The class changes of a range change post what each class gains (R151, R162). -/
theorem Job.changes_total (j : Job) (c : RangeChange) (cls : RockClass) (band : Fin 3) (a b : Nat) (col : List Interval) :
    lineTotal (footageLine cls band) ((classChanges table c a b col).flatMap j.moves)
      = (classSum (j.weight band) cls (col.map fun iv => if iv.inside a b then c.set table iv else iv) : Int)
        - classSum (j.weight band) cls col := by
  induction col with
  | nil => simp [classChanges, lineTotal]
  | cons iv col ih =>
    obtain ⟨htop, hbot⟩ := RangeChange.set_range (table := table) (c := c) iv
    rw [classChanges_cons, List.map_cons, classSum_cons, classSum_cons]
    by_cases hin : iv.inside a b = true
    · by_cases hcls : (c.set table iv).cls = iv.cls
      · simp only [hin, hcls, bne_self_eq_false, Bool.and_false, if_true, Interval.part, htop, hbot]
        rw [if_neg (by simp), ih]
        omega
      · simp only [hin, Bool.true_and, bne_iff_ne, ne_eq, hcls, not_false_eq_true, if_true, List.flatMap_cons,
          lineTotal_append, ih, Job.moves_total, Interval.part, htop, hbot]
        split <;> split <;> omega
    · simp only [hin, Bool.false_and, Bool.false_eq_true, if_false, ih]
      omega

theorem Job.changes_load (j : Job) (c : RangeChange) (cls : RockClass) (band : Fin 3) (a b : Nat) (col : List Interval) :
    lineLoad (footageLine cls band) ((classChanges table c a b col).flatMap j.moves)
      ≤ 2 * (col.map fun iv => j.weight band iv.top iv.bottom).sum := by
  induction col with
  | nil => simp [classChanges, lineLoad]
  | cons iv col ih =>
    rw [classChanges_cons, List.map_cons, List.sum_cons]
    split
    · rw [List.flatMap_cons, lineLoad_append]
      have := j.moves_load ⟨iv.top, iv.bottom, iv.cls, (c.set table iv).cls⟩ cls band
      simp only at this
      omega
    · omega

/-- New bands bring each class what its thickness in them gained (R25). -/
theorem Job.rebands_total (j : Job) (b1 b2 : Nat) (c : RockClass) (band : Fin 3) :
    lineTotal (footageLine c band) (j.rebands b1 b2) = (j.thickness b1 b2 c band : Int) - j.thickness j.b1 j.b2 c band := by
  simp only [Job.rebands, RockClass.all, List.flatMap_cons, List.flatMap_nil, lineTotal_append, lineTotal_bands]
  cases c <;> simp [lineTotal]

theorem Job.rebands_load (j : Job) (b1 b2 : Nat) (c : RockClass) (band : Fin 3) :
    lineLoad (footageLine c band) (j.rebands b1 b2)
      = ((j.thickness b1 b2 c band : Int) - j.thickness j.b1 j.b2 c band).natAbs := by
  simp only [Job.rebands, RockClass.all, List.flatMap_cons, List.flatMap_nil, lineLoad_append, lineLoad_bands]
  cases c <;> simp [lineLoad]

end Totals

end Sys2Proof.Machine
end

section
/-! PROOFS. The footage of every job through every command. -/

namespace Sys2Proof.Machine

section Steps

variable {j : Job} {col : List Interval} {table : Vector LithEntry 64} {deepest : Interval} {a b h1 : Nat}

theorem classSum_eq_zero {w : Nat → Nat → Nat} (hw : ∀ a b, w a b = 0) (c : RockClass) (col : List Interval) :
    classSum w c col = 0 := by
  induction col with
  | nil => rfl
  | cons iv col ih =>
    rw [classSum_cons, ih, Interval.part, hw]
    split <;> rfl

/-- A fresh job has no hole below its start depth, and no footage. -/
theorem Job.fresh_footed {number start diameter b1 b2 : Nat} {rodType : Fin 4} {bha : Bha} (hstart : start ≤ 100000)
    (hbands : b1 ≤ b2) : (Job.fresh number start diameter rodType b1 b2 bha).Footed := by
  have hzero : ∀ line : Fin 40, (Vector.replicate 40 (⟨0, 0, 0⟩ : Line))[line] = ⟨0, 0, 0⟩ := fun line => by simp
  have hweight : ∀ band a b, (Job.fresh number start diameter rodType b1 b2 bha).weight band a b = 0 := by
    intro band a b
    have hle := bandOverlap_le b1 b2 (max a start) (min b start) band
    simp only [Job.weight, Job.fresh]
    omega
  refine ⟨hstart, hbands, fun c band => ?_, fun c band => ?_⟩
  · simp only [Job.fresh, hzero]
    decide
  · rw [classSum_eq_zero (hweight band)]
    simp only [Job.fresh, hzero]
    decide

/-- A settlement moves each line's unsettled footage to its settled (R171). -/
theorem Job.Footed.settled_all (h : j.Footed) (hc : Covers 0 j.column j.holeDepth) (s : State) :
    ({ j with sheet := s.settledAll j, settleMark := j.holeDepth } : Job).Footed := by
  have hline : ∀ c band, (s.settledAll j)[footageLine c band].settled
      = j.sheet[footageLine c band].settled + j.sheet[footageLine c band].unsettled
      ∧ (s.settledAll j)[footageLine c band].unsettled = 0 := by
    intro c band
    have hf := h.footage c band
    have hle : classSum (j.weight band) c j.column ≤ j.holeDepth := classSum_bandOverlap_le hc
    have hhole := h.hole
    rw [State.settledAll_get, State.settledLine]
    split
    next hzero => exact ⟨by rw [hzero, add_zero], hzero⟩
    · exact ⟨clampLine_of_abs_le (by omega), rfl⟩
  refine ⟨h.hole, h.bands, fun c band => ?_, fun c band => ?_⟩
  · have hf := h.footage c band
    have hle : classSum (j.weight band) c j.column ≤ j.holeDepth := classSum_bandOverlap_le hc
    have hhole := h.hole
    rw [(hline c band).1, hf]
    omega
  · rw [(hline c band).1, (hline c band).2, add_zero]
    exact h.footage c band

/-- New bands move the footage to the bands that now hold it (R25). -/
theorem Job.Footed.rebanded (h : j.Footed) (hc : Covers 0 j.column j.holeDepth) {b1 b2 : Nat} (hb : b1 ≤ b2) :
    (({ j with b1 := b1, b2 := b2 } : Job).posts (j.rebands b1 b2)).Footed := by
  have hle : ∀ b1 b2 c band, j.thickness b1 b2 c band ≤ 100000 := fun b1 b2 c band => by
    rw [j.thickness_eq]
    exact (classSum_bandOverlap_le hc).trans h.hole
  refine h.posts hc rfl h.hole hb (fun c band => ?_) fun c band => ?_
  · rw [Job.rebands_load]
    have h1 := hle b1 b2 c band
    have h2 := hle j.b1 j.b2 c band
    omega
  · rw [Job.rebands_total, j.thickness_eq, j.thickness_eq]
    rfl

/-- A range change moves footage with the classes it changes (R151, R162). -/
theorem Job.Footed.applied (h : j.Footed) (hs : ColumnSound j.holeDepth j.column) {c : RangeChange}
    {r : List Interval × List ClassChange} (hr : applyRange table c a b j.column = some r) :
    (({ j with column := r.1 } : Job).posts (r.2.flatMap j.moves)).Footed := by
  obtain ⟨roomy, hroomy, rfl⟩ := Option.map_eq_some_iff.1 hr
  obtain ⟨hg, _, _⟩ := hs.seekRoom hroomy
  have hwhole : Covers 0 (splitRange a b roomy) j.holeDepth := hg.sound.1.splitRange a b
  have hsplit : ∀ band cls, classSum (j.weight band) cls (splitRange a b roomy) = classSum (j.weight band) cls j.column :=
    fun band cls => (classSum_splitRange (j.weight_addsUp band) a b roomy).trans (hg.sums _ cls (j.weight_addsUp band))
  have hset : Covers 0 ((splitRange a b roomy).map fun iv => if iv.inside a b then c.set table iv else iv) j.holeDepth := by
    refine hwhole.map fun iv => ?_
    split
    · exact RangeChange.set_range iv
    · exact ⟨rfl, rfl⟩
  refine h.posts hs.1 rfl h.hole h.bands (fun cls band => ?_) fun cls band => ?_
  · refine (j.changes_load c cls band a b (splitRange a b roomy)).trans ?_
    rw [(j.weight_addsUp band).sum_covers hwhole]
    have hle := bandOverlap_le j.b1 j.b2 (max 0 j.startDepth) (min j.holeDepth j.holeDepth) band
    have hhole := h.hole
    simp only [Job.weight]
    omega
  · rw [j.changes_total, hsplit]
    congr 2
    exact (classSum_joinRange (j.weight_addsUp band) hset a b).symm

/-- A bed opened has no thickness yet. -/
theorem openBed_sums {lith : Fin 64} {h : Nat} {col' : List Interval} (hs : ColumnSound h col)
    (ho : openBed table lith h col = some col') (w : Nat → Nat → Nat) (c : RockClass) (hw : AddsUp w) :
    classSum w c col' = classSum w c col := by
  obtain ⟨deepest, hd, hbot⟩ := hs.last
  rw [openBed, hd] at ho
  simp only at ho
  split at ho
  next hzero =>
    obtain rfl := Option.some.inj ho
    conv_rhs => rw [← List.dropLast_append_getLast? deepest hd]
    simp only [classSum_append, classSum_cons, Interval.part, hzero, hw.self, ite_self]
  next hthick =>
    obtain ⟨roomy, hroomy, rfl⟩ := Option.map_eq_some_iff.1 ho
    obtain ⟨hg, _, _⟩ := hs.seekRoom hroomy
    rw [classSum_append, hg.sums w c hw, classSum_cons, Interval.part, hw.self, ite_self]
    rfl

/-- Intervals above a depth weigh the same in a hole of that depth and in a deeper one. -/
theorem classSum_deeper {w w' : Nat → Nat → Nat} {c : RockClass} {m h : Nat} (hcol : Covers m col h)
    (hw : ∀ a b, b ≤ h → w' a b = w a b) : classSum w' c col = classSum w c col := by
  induction col generalizing m with
  | nil => rfl
  | cons iv col ih =>
    have hbot : iv.bottom ≤ h := hcol.head.2.2
    rw [classSum_cons, classSum_cons, Interval.part, Interval.part, hw _ _ hbot]
    by_cases hrest : col = []
    · rw [hrest, classSum_nil, classSum_nil]
    · rw [ih ((covers_cons hrest).1 hcol).2.2]

/-- New hole posts the footage that its column gains (R143, R161). -/
theorem Job.Footed.extended (h : j.Footed) (hs : ColumnSound j.holeDepth j.column) {cls : RockClass}
    (he : j.Extends table deepest h1 col cls) (hd : j.column.getLast? = some deepest) (hbot : deepest.bottom = j.holeDepth)
    (hlt : j.holeDepth < h1) (hle : h1 ≤ 100000) :
    (({ j with holeDepth := h1, bitDepth := h1, column := col } : Job).posts (j.accruals j.holeDepth h1 cls)).Footed := by
  refine h.posts hs.1 rfl hle h.bands (fun c band => ?_) fun c band => ?_
  · exact (j.accruals_load h1 c cls band j.holeDepth).trans (by omega)
  · have hsums := he.sums (c := c) (({ j with holeDepth := h1 } : Job).weight_addsUp band) hs hd (by omega)
    have hold : classSum (({ j with holeDepth := h1 } : Job).weight band) c j.column = classSum (j.weight band) c j.column := by
      refine classSum_deeper hs.1 fun a b hb => ?_
      simp only [Job.weight]
      rw [min_eq_left (hb.trans hlt.le), min_eq_left hb]
    have hnew : ({ j with holeDepth := h1 } : Job).weight band deepest.bottom h1
        = bandOverlap j.b1 j.b2 (max j.holeDepth j.startDepth) h1 band := by
      simp only [Job.weight, hbot, min_self]
    rw [Job.accruals_total]
    rw [hold, hnew] at hsums
    have hcol : classSum (({ j with holeDepth := h1, bitDepth := h1, column := col } : Job).weight band) c col
        = classSum (j.weight band) c j.column
          + if cls = c then bandOverlap j.b1 j.b2 (max j.holeDepth j.startDepth) h1 band else 0 := hsums
    rw [hcol]
    split <;> omega

end Steps

/-! ### Every job's footage -/

/-- Sound columns and parcels, and every job's footage with its column. -/
structure State.FootedOk (s : State) : Prop where
  cores : s.CoresOk
  footed : ∀ i j, s.job? i = some j → j.Footed

section Sheets

variable {s t : State} {i : Fin 4} {j j' : Job}

theorem State.FootedOk.same (h : s.FootedOk) (ht : t.CoresOk) (hjobs : ∀ k, t.job? k = s.job? k) : t.FootedOk :=
  ⟨ht, fun i j hj => h.footed i j (hjobs i ▸ hj)⟩

/-- One job written, its footage with its column. -/
theorem State.FootedOk.wrote (h : s.FootedOk) (ht : t.CoresOk) (hw : s.Wrote i j' t) (hf : j'.Footed) : t.FootedOk := by
  refine ⟨ht, fun k x hx => ?_⟩
  by_cases hk : i = k
  · subst hk
    obtain rfl := Option.some.inj (hw.job?.symm.trans hx)
    exact hf
  · exact h.footed k x (hw.job?_other hk ▸ hx)

/-- A change of one job's slot, whether it holds one or not. -/
theorem State.FootedOk.modify (h : s.FootedOk) (ht : t.CoresOk) (hnone : s.job? i = none → t = s)
    (hsome : ∀ j, s.job? i = some j → j.Footed → ColumnSound j.holeDepth j.column → ∃ j', s.Wrote i j' t ∧ j'.Footed) :
    t.FootedOk := by
  cases hj : s.job? i with
  | none => rwa [hnone hj]
  | some j =>
    obtain ⟨j', hw, hf⟩ := hsome j hj (h.footed i j hj) (h.cores.column i j hj)
    exact h.wrote ht hw hf

/-- One slot changed, the job it holds now, if any, footed. -/
theorem State.FootedOk.of_slots (h : s.FootedOk) (ht : t.CoresOk) (hk : ∀ k, k ≠ i → t.job? k = s.job? k)
    (hf : ∀ x, t.job? i = some x → x.Footed) : t.FootedOk := by
  refine ⟨ht, fun k x hx => ?_⟩
  by_cases hki : k = i
  · exact hf x (hki ▸ hx)
  · exact h.footed k x (hk k hki ▸ hx)

theorem footedOk_depends : DependsOn [.jobs, .transit] State.FootedOk := fun s t hag h => by
  have hjobs : t.jobs = s.jobs := hag .jobs (by simp)
  exact h.same (coresOk_depends s t hag h.cores) fun k => by rw [State.job?, State.job?, hjobs]

theorem footedOk_lose (s : State) (i : Fin 4) (status : CutStatus) (qs ps : List Parcel) (hi : s.active? = some i)
    (hq : qs.Sublist s.transit.parcels) (hp : ps ⊆ s.transit.parcels) (h : s.FootedOk) :
    ((s.setParcels qs).markParcels i status ps).FootedOk := by
  obtain ⟨j, ha, _⟩ := State.active?_job hi
  have hs := h.cores.column i j ha.2
  obtain ⟨col, hg, hw⟩ := State.markParcels_wrote (s := s.setParcels qs) (status := status) (ps := ps) ha.2 hs
    fun p hpm => (h.cores.parcels i j ha p (hp hpm)).2
  exact h.wrote (coresOk_lose s i status qs ps hi hq hp h.cores) hw ((h.footed i j ha.2).regrouped hg)

theorem footedOk_logKept : LogKept State.FootedOk where
  depends := footedOk_depends
  timing s step line h := h.same (coresOk_logKept.timing s step line h.cores) fun _ => rfl
  bill s i line q hl h := by
    refine h.modify (i := i) (coresOk_logKept.bill s i line q hl h.cores) (fun hn => by simp [State.addUnsettled, hn])
      fun j hj hf _ => ⟨_, State.addUnsettled_wrote hj line q, hf.congr rfl rfl rfl rfl (fun _ _ _ => rfl) fun c band => ?_⟩
    refine Job.post_sheet_other fun he => ?_
    have hlt := footageLine_lt c band
    simp only at he
    rw [← he] at hlt
    omega
  credit s i h :=
    h.modify (i := i) (coresOk_logKept.credit s i h.cores) (fun hn => State.modifyJob_none hn)
      fun j hj hf hs => ⟨_, .modifyJob hj, hf.regrouped hs.credited⟩
  flag s i j d f hj hf h :=
    h.wrote (coresOk_logKept.flag s i j d f hj hf h.cores) (State.setColumn_wrote hj _)
      ((h.footed i j hj).regrouped ((h.cores.column i j hj).flagged d hf))
  lose := footedOk_lose
  birth s i hi hlong h := by
    obtain ⟨j, ha, _⟩ := State.active?_job hi
    obtain ⟨j', top, hj, ht, hlt⟩ := State.formingLength_pos hlong
    obtain rfl := Option.some.inj (ha.2.symm.trans hj)
    obtain ⟨⟨col, hg, hw⟩, _⟩ := State.birth_wrote hj ht hlt (h.cores.column i j hj) (h.cores.parcels i j ha)
    exact h.wrote (coresOk_logKept.birth s i hi hlong h.cores) hw ((h.footed i j hj).regrouped hg)
  relist s f hf h := h.same (coresOk_logKept.relist s f hf h.cores) fun _ => rfl
  arrive := LogKept.arrive_of footedOk_depends footedOk_lose fun s h =>
    h.same (h.cores.relisted ((frame_transit s _).mono (by simp)) (fun _ hp => arriveFirst_ranges hp) rfl) fun _ => rfl

theorem bandsOk_le {b1 b2 : Nat} (h : bandsOk b1 b2 = true) : b1 ≤ b2 := by
  simp only [bandsOk, Bool.and_eq_true, decide_eq_true_eq] at h
  omega

theorem footedOk_jobKept : JobKept 100000 State.FootedOk where
  toLogKept := footedOk_logKept
  edit s i j j' hj he h := by
    refine h.wrote ((coresOk_jobKept 100000).edit s i j j' hj he h.cores) .setJob ?_
    exact (h.footed i j hj).congr he.startDepth he.holeDepth he.b1 he.b2 (fun _ _ _ => by rw [he.column])
      fun _ _ => by rw [he.sheet]
  opened s i number start diameter rodType b1 b2 bha hfree hstart hbands h := by
    refine h.wrote ((coresOk_jobKept 100000).opened s i number start diameter rodType b1 b2 bha hfree hstart hbands h.cores)
      .setJob ?_
    exact Job.fresh_footed hstart (bandsOk_le hbands)
  activate s i j hj hnone h := by
    refine h.of_slots (i := i) ((coresOk_jobKept 100000).activate s i j hj hnone h.cores)
      (fun k hk => State.setJob_job?_other (Ne.symm hk)) fun x hx => ?_
    obtain rfl := Option.some.inj (State.setJob_job?_same.symm.trans hx)
    exact (h.footed i j hj).congr rfl rfl rfl rfl (fun _ _ _ => rfl) fun _ _ => rfl
  suspend s i hi h := by
    have ha := h.cores.one.active? hi
    obtain ⟨j, hj, _⟩ := State.active?_job ha
    obtain ⟨col, hg, hw⟩ := State.suspendJob_wrote hj.2 (h.cores.column i j hj.2) fun p hp =>
      (h.cores.parcels i j hj p hp).2
    refine h.wrote ((coresOk_jobKept 100000).suspend s i hi h.cores) hw ?_
    exact ((h.footed i j hj.2).regrouped hg).congr rfl rfl rfl rfl (fun _ _ _ => rfl) fun _ _ => rfl
  settle s i h :=
    h.modify (i := i) ((coresOk_jobKept 100000).settle s i h.cores) (fun hn => State.settle_none hn)
      fun j hj hf hs => ⟨_, State.settle_sheet hj, hf.settled_all hs.1 s⟩
  closed s i j hj hp h := by
    refine h.wrote ((coresOk_jobKept 100000).closed s i j hj hp h.cores) .setJob ?_
    exact (h.footed i j hj).congr rfl rfl rfl rfl (fun _ _ _ => rfl) fun _ _ => rfl
  reband s i j b1 b2 hj hb h := by
    have hset : s.Wrote i { j with b1 := b1, b2 := b2 } (s.setJob i { j with b1 := b1, b2 := b2 }) := .setJob
    have ht := (coresOk_jobKept 100000).reband s i j b1 b2 hj hb h.cores
    rw [State.rebandFootage_eq] at ht ⊢
    exact h.wrote ht (hset.trans (State.posts_wrote hset.job? (j.rebands b1 b2)))
      ((h.footed i j hj).rebanded (h.cores.column i j hj).1 (bandsOk_le hb))
  bind s i c a b t hr ht h := by
    obtain ⟨j, hj, _⟩ := Option.bind_eq_some_iff.1 ht
    obtain ⟨r, hr', hw⟩ := State.bindRange_wrote hj ht
    exact h.wrote ((coresOk_jobKept 100000).bind s i c a b t hr ht h.cores) hw
      ((h.footed i j hj).applied (h.cores.column i j hj) hr')
  drop s h := h.same ((coresOk_jobKept 100000).drop s h.cores) fun _ => rfl
  bed s a j lith col ha hcol h := by
    refine h.wrote ((coresOk_jobKept 100000).bed s a j lith col ha hcol h.cores) .setJob ?_
    exact (h.footed a j ha.2).congr rfl rfl rfl rfl (openBed_sums (h.cores.column a j ha.2) hcol) fun _ _ => rfl
  newHole s i j h1 hj hlt hle h := by
    have ht := (coresOk_jobKept 100000).newHole s i j h1 hj hlt hle h.cores
    refine footedOk_logKept.newHole_of hj ?_
    obtain ⟨col, cls, deepest, hd, hbot, he, hw⟩ := State.deepened_wrote (s := s) (i := i) (h.cores.column i j hj.2) hlt
    exact h.wrote (h.cores.deepened hj hlt) hw
      ((h.footed i j hj.2).extended (h.cores.column i j hj.2) he hd hbot hlt hle)

theorem exec_footedOk {c : Instr} (hx : exec c s = .next t) (hstring : s.roster.stringLen ≤ 100000) (h : s.FootedOk) :
    t.FootedOk := by
  by_cases hi : ∃ r, c = .initialise r
  · obtain ⟨r, rfl⟩ := hi
    refine footedOk_logKept.of_request hx (fun l ws u _ => serveInitialise_answers.mono ?_) h
    rintro v ⟨_, rfl⟩
    refine ⟨u.initialised_coresOk, fun k x hx => ?_⟩
    rw [initialised_job?] at hx
    cases hx
  · by_cases hr : ∃ r, c = .releaseJob r
    · obtain ⟨r, rfl⟩ := hr
      refine footedOk_logKept.of_request hx (fun l ws u hu => serveReleaseJob_answers.mono ?_) h
      rintro v ⟨i, j, hj, hp, rfl⟩
      refine hu.of_slots (i := i) (hu.cores.freed hj hp) (fun k hk => State.freeJob_job?_other (Ne.symm hk)) fun x hx => ?_
      rw [State.freeJob_job?_same] at hx
      cases hx
    · exact footedOk_jobKept.exec (fun r he => hi ⟨r, he⟩) (fun r he => hr ⟨r, he⟩) (fun _ _ => hstring) hx h

theorem State.footedOk_iff (h : s.CoresOk) : s.FootedOk ↔ s.FootageBounded ∧ s.FootageOk := by
  constructor
  · intro hf
    have hj := fun i j hj => Job.footed_iff.1 (hf.footed i j hj)
    exact ⟨fun i => (Option.all_eq_true _ _).2 fun j h => decide_eq_true (hj i j h).1,
      fun i => (Option.all_eq_true _ _).2 fun j h => decide_eq_true (hj i j h).2⟩
  · intro ⟨hb, hf⟩
    exact ⟨h, fun i j hj => Job.footed_iff.2 ⟨of_decide_eq_true ((Option.all_eq_true _ _).1 (hb i) j hj),
      of_decide_eq_true ((Option.all_eq_true _ _).1 (hf i) j hj)⟩⟩

end Sheets

/-- Settles O60: footage, columns and parcels together, kept by every command while the string is within 100,000 cm. -/
theorem footageInvariant : Obligations.FootageInvariant := by
  intro s t hone hp hc _ hb hf hstring hx
  have hs : s.FootedOk := (State.footedOk_iff ((State.coresOk_iff hone).2 ⟨hp, hc⟩)).2 ⟨hb, hf⟩
  have ht : t.FootedOk := by
    unfold step at hx
    split at hx
    · exact Host.Outcome.next.inj hx ▸ hs
    · exact exec_footedOk (s := { s with pending := _ }) hx hstring
        (footedOk_depends s _ (fun p hp => by cases p <;> first | rfl | simp at hp) hs)
  obtain ⟨hbounded, hfootage⟩ := (State.footedOk_iff ht.cores).1 ht
  exact ⟨fun i => (Option.all_eq_true _ _).2 fun j hj => decide_eq_true (ht.footed i j hj).hole, hbounded, hfootage⟩

end Sys2Proof.Machine
end

section
/-! PROOFS. The pair a capacity merge takes, and the interval it makes (R148). -/

namespace Sys2Proof.Machine

section Merges

variable {col : List Interval} {k : Nat} {u l : Interval}

/-- The merged interval is the thicker of the two, or the upper of equals, over the whole range. -/
theorem mergeIntervals_eq (hcls : u.cls = l.cls) :
    let thicker := if u.bottom - u.top < l.bottom - l.top then l else u
    let other := if u.bottom - u.top < l.bottom - l.top then u else l
    mergeIntervals u l = { thicker with
      top := u.top, bottom := l.bottom, lossZone := u.lossZone || l.lossZone, water := u.water || l.water
      merged := true, yield := if thicker.yield = none then other.yield else thicker.yield
      minutes := min (u.minutes + l.minutes) 4294967295 } := by
  have hyield : ∀ a b : Option Nat, (a <|> b) = if a = none then b else a := fun a b => by cases a <;> rfl
  simp only [mergeIntervals, Interval.thickness, hyield]
  by_cases hlt : u.bottom - u.top < l.bottom - l.top
  · simp only [hlt, if_true, hcls]
    rfl
  · simp only [hlt, if_false]
    rfl

/-- The best pair is the one that is smallest, and shallower than any other as small. -/
theorem bestPair_of_least (he : Eligible col k u l) (hleast : ∀ n v w, Eligible col n v w →
    l.bottom - u.top ≤ w.bottom - v.top ∧ (n < k → l.bottom - u.top < w.bottom - v.top)) :
    bestPair (eligiblePairs 0 col) = some (k, l.bottom - u.top) := by
  have hmem : (k, l.bottom - u.top) ∈ eligiblePairs 0 col := mem_eligiblePairs.2 ⟨k, u, l, he, by rw [Nat.zero_add]⟩
  cases hbest : bestPair (eligiblePairs 0 col) with
  | none =>
    rw [bestPair_none hbest] at hmem
    cases hmem
  | some p =>
    obtain ⟨above, below, hpairs, habove, hbelow⟩ := bestPair_some hbest
    obtain ⟨n, v, w, hn, hp⟩ := mem_eligiblePairs.1 (show p ∈ eligiblePairs 0 col by simp [hpairs])
    rw [Nat.zero_add] at hp
    obtain ⟨hle, hlt⟩ := hleast n v w hn
    rw [hpairs, List.mem_append, List.mem_cons] at hmem
    obtain hm | hm | hm := hmem
    · have := habove _ hm
      simp only [hp] at this
      omega
    · rw [hm]
    · have horder := eligiblePairs_ordered 0 col
      rw [hpairs] at horder
      have hshallow := (List.pairwise_cons.1 (List.pairwise_append.1 horder).2.1).1 _ hm
      have hsmall := hbelow _ hm
      simp only [hp] at hshallow hsmall
      have := hlt hshallow
      omega

end Merges

/-- Settles O55: the best of the eligible pairs, and the record of the merged interval. -/
theorem capacityMergeRule : Obligations.CapacityMergeRule := by
  intro col
  refine ⟨fun hnone => ?_, fun k u l he hleast => ?_⟩
  · rw [capacityMerge, Option.map_eq_none_iff]
    cases hbest : bestPair (eligiblePairs 0 col) with
    | none => rfl
    | some p =>
      obtain ⟨above, below, hpairs, _⟩ := bestPair_some hbest
      obtain ⟨k, u, l, he, _⟩ := mem_eligiblePairs.1 (show p ∈ eligiblePairs 0 col by simp [hpairs])
      exact (hnone k u l he).elim
  · have hel : Eligible col k u l := he
    have hbest := bestPair_of_least hel hleast
    obtain ⟨_, hu, hl, hcls⟩ := hel
    rw [capacityMerge, hbest, Option.map_some, mergeAt_eq hu hl, mergeIntervals_eq hcls]

end Sys2Proof.Machine
end

section
/-! PROOFS. What stands at each depth of a column, and what splits, joins, range changes and flag marks do to it
(R146, R147, R150). -/

namespace Sys2Proof.Machine

-- One proof at a time: proofs elaborated at once add up past the memory of the check.
set_option Elab.async false

/-- The interval takes the depth in. -/
def Interval.Holds (iv : Interval) (d : Nat) : Prop := iv.top ≤ d ∧ d < iv.bottom

/-- The record that a column shows at a depth. -/
def Shows (col : List Interval) (d : Nat) (r : Interval) : Prop := ∃ iv ∈ col, iv.Holds d ∧ iv.record = r

/-- The record of the deepest interval. -/
def lastRecord (col : List Interval) : Option Interval := col.getLast?.map Interval.record

/-- The drilled minutes of a column. -/
def columnMinutes (col : List Interval) : Nat := (col.map Interval.minutes).sum

section Depths

variable {a b h d s e m : Nat} {u v l iv p r : Interval} {col above below : List Interval}

/-! ### The containing interval (R141) -/

theorem Covers.holds_range (hc : Covers a col b) (hm : u ∈ col) (hu : u.Holds d) : a ≤ d ∧ d < b := by
  induction col generalizing a with
  | nil => cases hm
  | cons iv rest ih =>
    obtain ⟨htop, hle, hb⟩ := hc.head
    obtain rfl | hm := List.mem_cons.1 hm
    · exact ⟨htop ▸ hu.1, hu.2.trans_le hb⟩
    · obtain ⟨_, hlt, hrest⟩ := (covers_cons (List.ne_nil_of_mem hm)).1 hc
      have := ih hrest hm
      omega

/-- No two intervals take the same depth in. -/
theorem Covers.holds_unique (hc : Covers a col b) (hu : u ∈ col) (hv : v ∈ col) (hd : u.Holds d) (hd' : v.Holds d) : u = v := by
  induction col generalizing a with
  | nil => cases hu
  | cons iv rest ih =>
    by_cases hr : rest = []
    · simp only [hr, List.mem_singleton] at hu hv
      rw [hu, hv]
    · obtain ⟨_, _, hrest⟩ := (covers_cons hr).1 hc
      obtain rfl | hu' := List.mem_cons.1 hu <;> obtain rfl | hv' := List.mem_cons.1 hv
      · rfl
      · have := (hrest.holds_range hv' hd').1
        have := hd.2
        omega
      · have := (hrest.holds_range hu' hd).1
        have := hd'.2
        omega
      · exact ih hrest hu' hv'

/-- Every depth of the hole is in an interval. -/
theorem Covers.exists_holds (hc : Covers a col b) (ha : a ≤ d) (hb : d < b) : ∃ u ∈ col, u.Holds d := by
  induction col generalizing a with
  | nil => exact hc.elim
  | cons iv rest ih =>
    obtain ⟨htop, _, _⟩ := hc.head
    by_cases hlt : d < iv.bottom
    · exact ⟨iv, List.mem_cons_self, htop ▸ ha, hlt⟩
    · by_cases hr : rest = []
      · subst hr
        have := (covers_singleton.1 hc).2.2
        omega
      · obtain ⟨_, _, hrest⟩ := (covers_cons hr).1 hc
        obtain ⟨u, hu, hd⟩ := ih hrest (by omega)
        exact ⟨u, List.mem_cons_of_mem _ hu, hd⟩

/-- The containing interval of a depth of the hole takes it in. -/
theorem Covers.containing_holds (hc : Covers 0 col h) (hd : d < h) (hu : col[containing d col]? = some u) : u ∈ col ∧ u.Holds d := by
  obtain ⟨v, hv, hin⟩ := hc.exists_holds (Nat.zero_le d) hd
  refine ⟨List.mem_of_getElem? hu, ?_⟩
  rw [containing] at hu
  cases hfind : col.findIdx? fun iv => iv.top ≤ d && d < iv.bottom with
  | none =>
    have := List.findIdx?_eq_none_iff.1 hfind v hv
    simp [hin.1, hin.2] at this
  | some k =>
    rw [hfind, Option.getD_some] at hu
    obtain ⟨hk, hp, _⟩ := List.findIdx?_eq_some_iff_getElem.1 hfind
    rw [List.getElem?_eq_getElem hk, Option.some.injEq] at hu
    rw [hu] at hp
    simpa [Interval.Holds] using hp

theorem Shows.unique (hc : Covers a col b) (hu : Shows col d r) (hv : Shows col d p) : r = p := by
  obtain ⟨u, hu, hd, rfl⟩ := hu
  obtain ⟨v, hv, hd', rfl⟩ := hv
  rw [hc.holds_unique hu hv hd hd']

/-! ### Splits (R147) -/

/-- A part of a split interval lies in it, shows its record, and is not split there again. -/
theorem mem_split (hp : p ∈ iv.split s) : iv.top ≤ p.top ∧ p.bottom ≤ iv.bottom ∧ p.record = iv.record ∧ p.splitAt s = false := by
  cases hs : iv.splitAt s with
  | false =>
    rw [split_of_not hs, List.mem_singleton] at hp
    subst hp
    exact ⟨le_rfl, le_rfl, rfl, hs⟩
  | true =>
    obtain ⟨h1, h2⟩ := splitAt_iff.1 hs
    rw [split_of_splitAt hs, List.mem_cons, List.mem_singleton] at hp
    obtain rfl | rfl := hp
    · exact ⟨le_rfl, h2.le, rfl, by simp [Interval.splitAt, Interval.upper]⟩
    · exact ⟨h1.le, le_rfl, rfl, by simp [Interval.splitAt, Interval.lower]⟩

theorem split_holds (hd : iv.Holds d) : ∃ p ∈ iv.split s, p.Holds d := by
  cases hs : iv.splitAt s with
  | false => exact ⟨iv, by rw [split_of_not hs]; exact List.mem_singleton_self _, hd⟩
  | true =>
    rw [split_of_splitAt hs]
    by_cases hlt : d < s
    · exact ⟨iv.upper s, by simp, hd.1, hlt⟩
    · exact ⟨iv.lower s, by simp, not_lt.1 hlt, hd.2⟩

theorem shows_splits (s : Nat) (col : List Interval) (d : Nat) (r : Interval) :
    Shows (col.flatMap (Interval.split s)) d r ↔ Shows col d r := by
  constructor
  · rintro ⟨p, hp, hd, rfl⟩
    obtain ⟨iv, hiv, hp⟩ := List.mem_flatMap.1 hp
    obtain ⟨htop, hbot, hrec, _⟩ := mem_split hp
    exact ⟨iv, hiv, ⟨htop.trans hd.1, hd.2.trans_le hbot⟩, hrec.symm⟩
  · rintro ⟨iv, hiv, hd, rfl⟩
    obtain ⟨p, hp, hpd⟩ := split_holds (s := s) hd
    exact ⟨p, List.mem_flatMap.2 ⟨iv, hiv, hp⟩, hpd, (mem_split hp).2.2.1⟩

theorem shows_splitRange : Shows (splitRange a b col) d r ↔ Shows col d r := by
  rw [splitRange, shows_splits, shows_splits]

/-- The intervals of a split range lie on one side of each of its ends. -/
theorem mem_splitRange (hp : p ∈ splitRange a b col) : p.splitAt a = false ∧ p.splitAt b = false := by
  obtain ⟨q, hq, hp⟩ := List.mem_flatMap.1 hp
  obtain ⟨iv, _, hq⟩ := List.mem_flatMap.1 hq
  obtain ⟨htop, hbot, _, hb⟩ := mem_split hp
  obtain ⟨_, _, _, ha⟩ := mem_split hq
  refine ⟨?_, hb⟩
  rw [← Bool.not_eq_true, splitAt_iff] at ha ⊢
  omega

/-- So one that takes a depth in lies inside the range when the depth does. -/
theorem inside_iff (hp : p ∈ splitRange a b col) (hd : p.Holds d) : p.inside a b = true ↔ a ≤ d ∧ d < b := by
  obtain ⟨ha, hb⟩ := mem_splitRange hp
  rw [← Bool.not_eq_true, splitAt_iff] at ha hb
  obtain ⟨h1, h2⟩ := hd
  simp only [Interval.inside, Bool.and_eq_true, decide_eq_true_eq]
  omega

theorem lastRecord_concat : lastRecord (above ++ [iv]) = some iv.record := by simp [lastRecord]

theorem lastRecord_append (hne : below ≠ []) : lastRecord (above ++ below) = lastRecord below := by
  obtain ⟨rest, iv, rfl⟩ := (List.eq_nil_or_concat below).resolve_left hne
  rw [List.concat_eq_append, ← List.append_assoc, lastRecord_concat, lastRecord_concat]

/-- A deepest interval of no thickness is not split. -/
theorem splits_getLast? (hu : col.getLast? = some u) (hflat : u.top = u.bottom) :
    (col.flatMap (Interval.split s)).getLast? = some u := by
  obtain ⟨hne, rfl⟩ := List.getLast?_eq_some_iff.1 hu
  have hs : u.splitAt s = false := by
    rw [← Bool.not_eq_true, splitAt_iff]
    omega
  rw [List.flatMap_append, List.flatMap_singleton, split_of_not hs, List.getLast?_concat]

theorem splitRange_getLast? (hu : col.getLast? = some u) (hflat : u.top = u.bottom) : (splitRange a b col).getLast? = some u :=
  splits_getLast? (splits_getLast? hu hflat) hflat

/-! ### Joins (R150) -/

/-- `col'` shows at every depth, at its deepest interval and in its minutes what `col` does. -/
structure SameLog (h : Nat) (col col' : List Interval) : Prop where
  covers : Covers 0 col' h
  shows_iff : ∀ d r, Shows col' d r ↔ Shows col d r
  last : lastRecord col' = lastRecord col
  minutes : columnMinutes col ≤ 4294967295 → columnMinutes col' = columnMinutes col

theorem SameLog.refl (hc : Covers 0 col h) : SameLog h col col := ⟨hc, fun _ _ => Iff.rfl, rfl, fun _ => rfl⟩

theorem SameLog.trans {col' col'' : List Interval} (h1 : SameLog h col col') (h2 : SameLog h col' col'') : SameLog h col col'' :=
  ⟨h2.covers, fun d r => (h2.shows_iff d r).trans (h1.shows_iff d r), h2.last.trans h1.last, fun hm =>
    (h2.minutes ((h1.minutes hm).le.trans hm)).trans (h1.minutes hm)⟩

/-- A join of two neighbours of one record shows what they showed. -/
theorem sameLog_join (hrec : u.record = l.record) (hc : Covers 0 (above ++ u :: l :: below) h) :
    SameLog h (above ++ u :: l :: below) (above ++ joinPair u l :: below) := by
  obtain ⟨m, _, hrest⟩ := (covers_append (by simp)).1 hc
  obtain ⟨htop, hlt, hrest⟩ := (covers_cons (by simp)).1 hrest
  have hl : l.top = u.bottom ∧ u.bottom ≤ l.bottom ∧ l.bottom ≤ h := hrest.head
  have hjoined : (joinPair u l).record = u.record := rfl
  refine ⟨hc.join, fun d r => ?_, ?_, fun hm => ?_⟩
  · simp only [Shows, List.mem_append, List.mem_cons]
    constructor
    · rintro ⟨iv, hiv, hd, rfl⟩
      obtain hiv | rfl | hiv := hiv
      · exact ⟨iv, .inl hiv, hd, rfl⟩
      · by_cases hdu : d < u.bottom
        · exact ⟨u, .inr (.inl rfl), ⟨hd.1, hdu⟩, rfl⟩
        · exact ⟨l, .inr (.inr (.inl rfl)), ⟨by rw [hl.1]; omega, hd.2⟩, hrec.symm⟩
      · exact ⟨iv, .inr (.inr (.inr hiv)), hd, rfl⟩
    · rintro ⟨iv, hiv, hd, rfl⟩
      obtain hiv | rfl | rfl | hiv := hiv
      · exact ⟨iv, .inl hiv, hd, rfl⟩
      · exact ⟨joinPair iv l, .inr (.inl rfl), ⟨hd.1, hd.2.trans_le hl.2.1⟩, rfl⟩
      · refine ⟨joinPair u iv, .inr (.inl rfl), ⟨?_, hd.2⟩, hrec⟩
        have := hd.1
        show u.top ≤ d
        omega
      · exact ⟨iv, .inr (.inr hiv), hd, rfl⟩
  · rw [lastRecord_append (by simp), lastRecord_append (by simp)]
    cases below with
    | nil => simp [lastRecord, hjoined, hrec]
    | cons iv below => simp [lastRecord, List.getLast?_cons_cons]
  · simp only [columnMinutes, List.map_append, List.map_cons, List.sum_append, List.sum_cons] at hm ⊢
    have hsum : (joinPair u l).minutes = u.minutes + l.minutes := by
      show satAdd32 u.minutes l.minutes = _
      simp only [satAdd32, max32]
      omega
    omega

theorem sameLog_joinMarked {marked : List (Interval × Bool)} (hc : Covers 0 (marked.map Prod.fst) h) :
    SameLog h (marked.map Prod.fst) (joinMarked marked) :=
  joinMarked_induct (P := SameLog h (marked.map Prod.fst))
    (fun _ _ _ _ hrec hlog => hlog.trans (sameLog_join hrec hlog.covers)) (.refl hc)

theorem sameLog_joinRange (hc : Covers 0 col h) (s e : Nat) : SameLog h col (joinRange s e col) := by
  have := sameLog_joinMarked (marked := col.map fun iv => (iv, iv.inside s e)) (by rwa [joinRange_marked])
  rwa [joinRange_marked] at this

/-- Neighbours of which none is marked, or that differ, are not joined. -/
theorem joinMarked_idle {marked : List (Interval × Bool)}
    (hm : marked.IsChain fun p q => identical p.1 q.1 = true → p.2 = false ∧ q.2 = false) :
    joinMarked marked = marked.map Prod.fst := by
  have hfrom : ∀ (rest : List (Interval × Bool)) (cur : Interval) (t : Bool),
      ((cur, t) :: rest).IsChain (fun p q => identical p.1 q.1 = true → p.2 = false ∧ q.2 = false) →
      joinFrom cur t rest = cur :: rest.map Prod.fst := by
    intro rest
    induction rest with
    | nil => exact fun _ _ _ => rfl
    | cons q rest ih =>
      intro cur t hchain
      obtain ⟨hpair, hrest⟩ := List.isChain_cons_cons.1 hchain
      rw [joinFrom, if_neg, ih q.1 q.2 hrest, List.map_cons]
      intro hjoin
      obtain ⟨hid, hor⟩ := Bool.and_eq_true_iff.1 hjoin
      obtain ⟨h1, h2⟩ := hpair hid
      simp only at h1
      rw [h1, h2] at hor
      cases hor
  cases marked with
  | nil => rfl
  | cons p rest => exact hfrom rest p.1 p.2 hm

end Depths

end Sys2Proof.Machine
end

section
/-! PROOFS. Range changes and flag marks, in full and without room (R146 to R149). -/

namespace Sys2Proof.Machine

-- One proof at a time: proofs elaborated at once add up past the memory of the check.
set_option Elab.async false

/-- A range change of a column: what it gives stands where it is meant, and nothing else changes. -/
def ColumnChanged (h : Nat) (col col' : List Interval) (given : Interval → Interval) (inside : Nat → Interval → Prop)
    (deep : Prop) : Prop :=
  (∀ depth u v, depth < h → col[containing depth col]? = some u → col'[containing depth col']? = some v →
    (inside depth u → v.record = (given u).record) ∧ (¬inside depth u → v.record = u.record))
  ∧ (∀ u v, col.getLast? = some u → u.top = u.bottom → col'.getLast? = some v →
    (deep → v.record = (given u).record) ∧ (¬deep → v.record = u.record))
  ∧ (columnMinutes col ≤ 4294967295 → columnMinutes col' = columnMinutes col)

section Columns

variable {a b h d : Nat} {u v p iv r : Interval} {col col' above below whole roomy : List Interval}
  {table : Vector LithEntry 64} {c : RangeChange} {sets : Interval → Bool}

/-- What a change gives to a record does not depend on the interval's place or minutes. -/
theorem RangeChange.set_record (hr : u.record = v.record) : (c.set table u).record = (c.set table v).record := by
  have hself : ∀ w : Interval, (c.set table w).record = (c.set table w.record).record := by
    rcases c with ⟨_, _ | _⟩ | _ | _ <;> exact fun _ => rfl
  rw [hself u, hr, ← hself v]

/-- The intervals of a column with what a change gives to those that `sets` names. -/
theorem sameLog_setAndJoin (hc : Covers 0 col h) : SameLog h (col.map fun iv => if sets iv then c.set table iv else iv)
    (setAndJoin table c sets a b col) := by
  refine sameLog_joinRange (hc.map fun iv => ?_) a b
  split
  · exact RangeChange.set_range iv
  · exact ⟨rfl, rfl⟩

theorem RangeChange.set_minutes (iv : Interval) : (c.set table iv).minutes = iv.minutes := by
  rcases c with ⟨_, _ | _⟩ | _ | _ <;> rfl

theorem columnMinutes_set : columnMinutes (col.map fun iv => if sets iv then c.set table iv else iv) = columnMinutes col := by
  rw [columnMinutes, columnMinutes, List.map_map]
  congr 2
  funext iv
  simp only [Function.comp]
  split
  · exact RangeChange.set_minutes iv
  · rfl

/-- A change of the intervals that `sets` names, on parts that show what the column shows. -/
theorem columnChanged_of {inside : Nat → Interval → Prop} {deep : Prop} (hc : Covers 0 col h) (hw : Covers 0 whole h)
    (hshows : ∀ d r, Shows whole d r ↔ Shows col d r) (hminutes : columnMinutes whole = columnMinutes col)
    (hdeep : ∀ u, col.getLast? = some u → u.top = u.bottom → whole.getLast? = some u ∧ (sets u = true ↔ deep))
    (hsets : ∀ d, ∀ p ∈ whole, ∀ u ∈ col, p.Holds d → u.Holds d → (sets p = true ↔ inside d u)) :
    ColumnChanged h col (setAndJoin table c sets a b whole) (c.set table) inside deep := by
  have hlog := sameLog_setAndJoin (table := table) (c := c) (sets := sets) (a := a) (b := b) hw
  refine ⟨fun d u v hd hu hv => ?_, fun u v hu hflat hv => ?_, fun hm => ?_⟩
  · obtain ⟨hu, hud⟩ := hc.containing_holds hd hu
    obtain ⟨hv, hvd⟩ := hlog.covers.containing_holds hd hv
    obtain ⟨x, hx, hxd, hxv⟩ := (hlog.shows_iff d v.record).1 ⟨v, hv, hvd, rfl⟩
    obtain ⟨p, hp, rfl⟩ := List.mem_map.1 hx
    have hpd : p.Holds d := by
      split at hxd
      · simpa only [Interval.Holds, RangeChange.set_range] using hxd
      · exact hxd
    have hrec : p.record = u.record :=
      Shows.unique hc ((hshows d _).1 ⟨p, hp, hpd, rfl⟩) ⟨u, hu, hud, rfl⟩
    have hin := hsets d p hp u hu hpd hud
    constructor
    · intro hi
      rw [← hxv, if_pos (hin.2 hi), RangeChange.set_record hrec]
    · intro hi
      rw [← hxv, if_neg fun hs => hi (hin.1 hs), hrec]
  · obtain ⟨hlast, hs⟩ := hdeep u hu hflat
    have hrec := hlog.last
    rw [lastRecord, lastRecord, hv, List.getLast?_map, hlast, Option.map_some, Option.map_some, Option.map_some,
      Option.some.injEq] at hrec
    constructor
    · intro hd
      rw [hrec, if_pos (hs.2 hd)]
    · intro hd
      rw [hrec, if_neg fun h => hd (hs.1 h)]
  · rw [hlog.minutes (by rwa [columnMinutes_set, hminutes]), columnMinutes_set, hminutes]

/-- A range change made in full (R146). -/
theorem columnChanged_full (hc : Covers 0 col h) (hab : a < b) (hbh : b ≤ h) :
    ColumnChanged h col (setAndJoin table c (Interval.inside a b) a b (splitRange a b col)) (c.set table)
      (fun depth _ => a ≤ depth ∧ depth < b) (b = h) := by
  refine columnChanged_of hc (hc.splitRange a b) (fun _ _ => shows_splitRange)
    ((splits_minutes b _).trans (splits_minutes a col)) (fun u hu hflat => ?_)
    fun d p hp u _ hpd _ => inside_iff hp hpd
  refine ⟨splitRange_getLast? hu hflat, ?_⟩
  have hbot := hc.bottom_eq hu
  simp only [Interval.inside, Bool.and_eq_true, decide_eq_true_eq]
  omega

/-- A status mark without room takes the intervals of some thickness wholly inside (R149). -/
theorem columnChanged_degraded (hc : Covers 0 col h) :
    ColumnChanged h col (setAndJoin table c (Interval.covered a b) a b col) (c.set table)
      (fun _ u => a ≤ u.top ∧ u.bottom ≤ b) False := by
  have hsets : ∀ d, ∀ p ∈ col, ∀ u ∈ col, p.Holds d → u.Holds d →
      (Interval.covered a b p = true ↔ a ≤ u.top ∧ u.bottom ≤ b) := by
    intro d p hp u hu hpd hud
    obtain rfl := hc.holds_unique hp hu hpd hud
    have hthick : p.top < p.bottom := hpd.1.trans_lt hpd.2
    simp [Interval.covered, Interval.inside, hthick]
  refine columnChanged_of hc hc (fun _ _ => Iff.rfl) rfl (fun u hu hflat => ⟨hu, ?_⟩) hsets
  simp [Interval.covered, hflat]

/-! ### Room -/

theorem splits_length (s : Nat) (col : List Interval) : (col.flatMap (Interval.split s)).length
    = col.length + (col.filter fun iv => iv.top < s && s < iv.bottom).length := by
  induction col with
  | nil => rfl
  | cons iv col ih =>
    rw [List.flatMap_cons, List.length_append, ih, List.filter_cons, List.length_cons]
    cases hs : iv.splitAt s with
    | false =>
      rw [split_of_not hs, if_neg (by simpa [Interval.splitAt] using hs), List.length_singleton]
      omega
    | true =>
      rw [split_of_splitAt hs, if_pos (by simpa [Interval.splitAt] using hs)]
      simp only [List.length_cons, List.length_nil]
      omega

/-- In a column that covers a range, a depth is strictly inside one interval at most. -/
theorem splitsNeeded_eq (hc : Covers 0 col h) (a b : Nat) : splitsNeeded a b col
    = (col.filter fun iv => iv.top < a && a < iv.bottom).length + (col.filter fun iv => iv.top < b && b < iv.bottom).length := by
  have ha := (hc.splits_length a).symm.trans (splits_length a col)
  have hb := (hc.splits_length b).symm.trans (splits_length b col)
  rw [splitsNeeded]
  omega

theorem seekRoom_of_room {need : List Interval → Nat} (hroom : need col ≤ columnLimit - col.length) (fuel : Nat) :
    seekRoom need fuel col = some col := by
  cases fuel <;> rw [seekRoom, if_pos hroom]

theorem seekRoom_merge {need : List Interval → Nat} (hfull : ¬need col ≤ columnLimit - col.length) (fuel : Nat) :
    seekRoom need (fuel + 1) col = (capacityMerge col).bind (seekRoom need fuel) := by
  rw [seekRoom, if_neg hfull]

/-- A column of no more intervals than the fuel finds room with more fuel when it does with this. -/
theorem seekRoom_fuel {need : List Interval → Nat} {fuel : Nat} (hlen : col.length ≤ fuel) :
    seekRoom need (fuel + 1) col = seekRoom need fuel col := by
  induction fuel generalizing col with
  | zero =>
    have hnone : capacityMerge col = none := by
      cases hm : capacityMerge col with
      | none => rfl
      | some col' =>
        have := capacityMerge_length hm
        omega
    by_cases hroom : need col ≤ columnLimit - col.length
    · rw [seekRoom_of_room hroom, seekRoom_of_room hroom]
    · rw [seekRoom_merge hroom, hnone, seekRoom, if_neg hroom, Option.bind_none]
  | succ fuel ih =>
    by_cases hroom : need col ≤ columnLimit - col.length
    · rw [seekRoom_of_room hroom, seekRoom_of_room hroom]
    · rw [seekRoom_merge hroom, seekRoom_merge hroom]
      cases hm : capacityMerge col with
      | none => rfl
      | some col' =>
        have := capacityMerge_length hm
        exact ih (by omega)

theorem seekRoom_again {need : List Interval → Nat} {fuel : Nat} (hlen : col.length ≤ fuel + 1)
    (hfull : ¬need col ≤ columnLimit - col.length) :
    seekRoom need (fuel + 1) col = (capacityMerge col).bind (seekRoom need (fuel + 1)) := by
  rw [seekRoom_merge hfull]
  cases hm : capacityMerge col with
  | none => rfl
  | some col' =>
    have := capacityMerge_length hm
    rw [Option.bind_some, Option.bind_some, seekRoom_fuel (by omega)]

/-- Without room a range change starts over from the column with one pair merged (R148). -/
theorem applyRange_merge (hlen : col.length ≤ columnLimit) (hfull : ¬splitsNeeded a b col ≤ columnLimit - col.length) :
    applyRange table c a b col = (capacityMerge col).bind (applyRange table c a b) := by
  obtain ⟨fuel, hfuel⟩ : ∃ fuel, columnLimit = fuel + 1 := ⟨95, rfl⟩
  have hseek := seekRoom_again (hfuel ▸ hlen) hfull
  unfold applyRange
  rw [hfuel, hseek]
  cases capacityMerge col <;> rfl

/-! ### An interval cut in three -/

theorem splits_above (hd : ∀ iv ∈ col, iv.bottom ≤ d) : col.flatMap (Interval.split d) = col := by
  induction col with
  | nil => rfl
  | cons iv col ih =>
    have hs : iv.splitAt d = false := by
      have := hd iv List.mem_cons_self
      rw [← Bool.not_eq_true, splitAt_iff]
      omega
    rw [List.flatMap_cons, split_of_not hs, ih fun u hu => hd u (List.mem_cons_of_mem _ hu), List.singleton_append]

theorem splits_below (hd : ∀ iv ∈ col, d ≤ iv.top) : col.flatMap (Interval.split d) = col := by
  induction col with
  | nil => rfl
  | cons iv col ih =>
    have hs : iv.splitAt d = false := by
      have := hd iv List.mem_cons_self
      rw [← Bool.not_eq_true, splitAt_iff]
      omega
    rw [List.flatMap_cons, split_of_not hs, ih fun u hu => hd u (List.mem_cons_of_mem _ hu), List.singleton_append]

theorem Covers.top_le {m : Nat} (hc : Covers m col h) (hm : u ∈ col) : m ≤ u.top := by
  induction col generalizing m with
  | nil => cases hm
  | cons iv col ih =>
    obtain ⟨htop, _, _⟩ := hc.head
    obtain rfl | hm := List.mem_cons.1 hm
    · exact htop.ge
    · obtain ⟨_, hlt, hrest⟩ := (covers_cons (List.ne_nil_of_mem hm)).1 hc
      exact hlt.le.trans (ih hrest hm)

theorem Covers.thick_le {m : Nat} (hc : Covers m col h) (hm : u ∈ col) : u.top ≤ u.bottom := by
  induction col generalizing m with
  | nil => cases hm
  | cons iv col ih =>
    obtain ⟨htop, hle, _⟩ := hc.head
    obtain rfl | hm := List.mem_cons.1 hm
    · exact htop ▸ hle
    · exact ih ((covers_cons (List.ne_nil_of_mem hm)).1 hc).2.2 hm

/-- What stands above an interval of a column ends at its top, and what stands below begins at its bottom. -/
theorem Covers.around (hc : Covers 0 (above ++ iv :: below) h) :
    (∀ u ∈ above, u.top < u.bottom ∧ u.bottom ≤ iv.top) ∧ ∀ u ∈ below, iv.bottom ≤ u.top := by
  obtain ⟨m, hab, hrest⟩ := (covers_append (by simp)).1 hc
  obtain ⟨htop, _, _⟩ := hrest.head
  constructor
  · have htiles : ∀ {above : List Interval} {a : Nat}, Tiles a above m → ∀ u ∈ above, u.top < u.bottom ∧ u.bottom ≤ m := by
      intro above
      induction above with
      | nil => exact fun _ u hu => by cases hu
      | cons v above ih =>
        intro a htl u hu
        obtain ⟨hv, hlt, hrest⟩ := htl
        have hle : ∀ {above : List Interval} {a : Nat}, Tiles a above m → a ≤ m := by
          intro above
          induction above with
          | nil => exact fun h => (show _ = m from h).le
          | cons w above ih => exact fun h => h.2.1.le.trans (ih h.2.2)
        obtain rfl | hu := List.mem_cons.1 hu
        · exact ⟨hv ▸ hlt, hle hrest⟩
        · exact ih hrest u hu
    intro u hu
    rw [htop]
    exact htiles hab u hu
  · intro u hu
    obtain ⟨_, _, hbelow⟩ := (covers_cons (List.ne_nil_of_mem hu)).1 hrest
    exact hbelow.top_le hu

/-- The three parts of an interval around a range strictly inside it. -/
theorem splitRange_cut (hc : Covers 0 (above ++ iv :: below) h) (hta : iv.top < a) (hab : a < b) (hbb : b < iv.bottom) :
    splitRange a b (above ++ iv :: below)
      = above ++ iv.upper a :: (iv.lower a).upper b :: (iv.lower a).lower b :: below := by
  obtain ⟨habove, hbelow⟩ := hc.around
  have hsa : iv.splitAt a = true := splitAt_iff.2 ⟨hta, hab.trans hbb⟩
  have hsu : (iv.upper a).splitAt b = false := by
    rw [← Bool.not_eq_true, splitAt_iff]
    show ¬(iv.top < b ∧ b < a)
    omega
  have hsl : (iv.lower a).splitAt b = true := splitAt_iff.2 ⟨hab, hbb⟩
  have hupper : above.flatMap (Interval.split a) = above := splits_above fun u hu => by
    have := habove u hu
    omega
  have hupper' : above.flatMap (Interval.split b) = above := splits_above fun u hu => by
    have := habove u hu
    omega
  have hlower : below.flatMap (Interval.split a) = below := splits_below fun u hu => by
    have := hbelow u hu
    omega
  have hlower' : below.flatMap (Interval.split b) = below := splits_below fun u hu => by
    have := hbelow u hu
    omega
  rw [splitRange, List.flatMap_append, List.flatMap_cons, hupper, hlower, split_of_splitAt hsa, List.flatMap_append, hupper',
    List.cons_append, List.cons_append, List.nil_append, List.flatMap_cons, List.flatMap_cons, hlower', split_of_not hsu,
    split_of_splitAt hsl]
  rfl

theorem isChain_outside (hcol : ∀ u ∈ col, Interval.inside a b u = false) :
    col.IsChain fun u v => identical u v = true → u.inside a b = false ∧ v.inside a b = false :=
  List.Pairwise.isChain (List.Pairwise.imp_of_mem (fun hu hv _ _ => ⟨hcol _ hu, hcol _ hv⟩)
    (List.pairwise_of_forall (R := fun _ _ => True) fun _ _ => trivial))

/-- A range strictly inside one interval, which the change does not leave as it was, cuts it in three (R147). -/
theorem setAndJoin_cut (hc : Covers 0 (above ++ iv :: below) h) (hta : iv.top < a) (hab : a < b) (hbb : b < iv.bottom)
    (hne : (c.set table iv).record ≠ iv.record) :
    setAndJoin table c (Interval.inside a b) a b (splitRange a b (above ++ iv :: below))
      = above ++ iv.upper a :: c.set table ((iv.lower a).upper b) :: (iv.lower a).lower b :: below := by
  obtain ⟨habove, hbelow⟩ := hc.around
  have hset : ∀ u, Interval.inside a b u = false → (if Interval.inside a b u = true then c.set table u else u) = u :=
    fun u hu => by rw [hu, if_neg Bool.false_ne_true]
  have outside : ∀ u : Interval, (u.top < a ∨ b < u.bottom) → Interval.inside a b u = false := fun u hu => by
    rw [← Bool.not_eq_true]
    simp only [Interval.inside, Bool.and_eq_true, decide_eq_true_eq]
    omega
  have habove_out : ∀ u ∈ above, Interval.inside a b u = false := fun u hu => outside u (.inl (by have := habove u hu; omega))
  have hbelow_out : ∀ u ∈ below, Interval.inside a b u = false := fun u hu => outside u (.inr (by
    have hb := hbelow u hu
    have hle := hc.thick_le (List.mem_append_right above (List.mem_cons_of_mem _ hu))
    omega))
  have hupper : Interval.inside a b (iv.upper a) = false := outside _ (.inl hta)
  have hmiddle : Interval.inside a b ((iv.lower a).upper b) = true := by simp [Interval.inside, Interval.upper, Interval.lower]
  have hlower : Interval.inside a b ((iv.lower a).lower b) = false := outside _ (.inr hbb)
  have hmap : ∀ col : List Interval, (∀ u ∈ col, Interval.inside a b u = false) →
      col.map (fun u => if Interval.inside a b u = true then c.set table u else u) = col := fun col hcol => by
    conv_rhs => rw [← List.map_id col]
    exact List.map_congr_left fun u hu => hset u (hcol u hu)
  rw [splitRange_cut hc hta hab hbb, setAndJoin, List.map_append, List.map_cons, List.map_cons, List.map_cons,
    hmap above habove_out, hmap below hbelow_out, hset _ hupper, hset _ hlower, hmiddle, if_pos rfl, joinRange,
    joinMarked_idle, joinRange_marked]
  have hother : ∀ {u v : Interval}, u.record ≠ v.record → identical u v = true → u.inside a b = false ∧ v.inside a b = false :=
    fun hrec hid => absurd (identical_iff.1 hid) hrec
  have hmid : (c.set table ((iv.lower a).upper b)).record = (c.set table iv).record := RangeChange.set_record rfl
  rw [List.isChain_map, List.isChain_append_cons_cons, List.isChain_cons_cons]
  refine ⟨isChain_outside fun u hu => ?_, hother fun hrec => hne (hmid ▸ hrec.symm), hother fun hrec => hne (hmid ▸ hrec),
    isChain_outside fun u hu => ?_⟩
  · obtain hu | hu := List.mem_append.1 hu
    · exact habove_out u hu
    · exact List.mem_singleton.1 hu ▸ hupper
  · obtain rfl | hu := List.mem_cons.1 hu
    · exact hlower
    · exact hbelow_out u hu

/-! ### Flag marks (R141, R150) -/

/-- A column with the containing interval of a depth marked, before its joins. -/
theorem markContaining_log {f : Interval → Interval} (hc : Covers 0 col h)
    (hf : ∀ iv, (f iv).top = iv.top ∧ (f iv).bottom = iv.bottom) :
    SameLog h (col.mapIdx fun n iv => if n = containing d col then f iv else iv) (markContaining d f col) := by
  have hcov : Covers 0 (col.mapIdx fun n iv => if n = containing d col then f iv else iv) h := by
    refine hc.mapIdx fun n iv => ?_
    split
    · exact hf iv
    · exact ⟨rfl, rfl⟩
  rw [← markContaining_marked] at hcov ⊢
  exact sameLog_joinMarked hcov

/-- A flag mark changes what the column shows in the containing interval of its depth alone. -/
theorem markContaining_shows {f : Interval → Interval} {depth : Nat} (hc : Covers 0 col h)
    (hf : ∀ iv, (f iv).top = iv.top ∧ (f iv).bottom = iv.bottom) (hd : depth < h)
    (hu : col[containing depth col]? = some u)
    (hv : (markContaining d f col)[containing depth (markContaining d f col)]? = some v) :
    v.record = (if containing depth col = containing d col then f u else u).record := by
  have hlog := markContaining_log (d := d) hc hf
  have hu' := (hc.containing_holds hd hu).2
  obtain ⟨hv, hvd⟩ := hlog.covers.containing_holds hd hv
  refine Shows.unique hlog.covers ⟨v, hv, hvd, rfl⟩ ((hlog.shows_iff depth _).2 ?_)
  refine ⟨_, List.mem_of_getElem? (i := containing depth col) (by rw [List.getElem?_mapIdx, hu, Option.map_some]), ?_, rfl⟩
  split
  · simpa only [Interval.Holds, hf] using hu'
  · exact hu'

theorem markContaining_last {f : Interval → Interval} (hc : Covers 0 col h)
    (hf : ∀ iv, (f iv).top = iv.top ∧ (f iv).bottom = iv.bottom) (hu : col.getLast? = some u)
    (hv : (markContaining d f col).getLast? = some v) :
    v.record = (if containing d col + 1 = col.length then f u else u).record := by
  have hlast := (markContaining_log (d := d) hc hf).last
  have hpos : 0 < col.length := List.length_pos_iff.2 hc.ne_nil
  rw [List.getLast?_eq_getElem?] at hu
  rw [lastRecord, lastRecord, hv, List.getLast?_eq_getElem?, List.length_mapIdx, List.getElem?_mapIdx, hu, Option.map_some,
    Option.map_some, Option.map_some, Option.some.injEq] at hlast
  rw [hlast]
  congr 1
  exact if_congr (by omega) rfl rfl

end Columns

end Sys2Proof.Machine
end

section
/-! PROOFS. Range changes and flag marks of a job's column. -/

namespace Sys2Proof.Machine

-- One proof at a time: proofs elaborated at once add up past the memory of the check.
set_option Elab.async false

/-- A range change of the job in a slot: its column and its sheet alone change, the column as meant, the sheet in the
unsettled footage. -/
def State.RangeChanged (s t : State) (i : Fin 4) (j j' : Job) (given : Interval → Interval)
    (inside : Nat → Interval → Prop) (deep : Prop) : Prop :=
  t.jobs = s.jobs.set i ⟨s.jobs[i].gen, some j'⟩ ∧ j'.ColumnOk
  ∧ j' = { j with column := j'.column, sheet := j'.sheet }
  ∧ (∀ line : Fin 40, j'.sheet[line].settled = j.sheet[line].settled
    ∧ j'.sheet[line].amount = j.sheet[line].amount ∧ (12 ≤ line.val → j'.sheet[line] = j.sheet[line]))
  ∧ (∀ depth u v, depth < j.holeDepth → j.column[containing depth j.column]? = some u →
    j'.column[containing depth j'.column]? = some v →
    (inside depth u → v.record = (given u).record) ∧ (¬inside depth u → v.record = u.record))
  ∧ (∀ u v, j.column.getLast? = some u → u.top = u.bottom → j'.column.getLast? = some v →
    (deep → v.record = (given u).record) ∧ (¬deep → v.record = u.record))
  ∧ ((j.column.map Interval.minutes).sum ≤ 4294967295 →
    (j'.column.map Interval.minutes).sum = (j.column.map Interval.minutes).sum)
  ∧ Frame [.jobs, .attn] s t

/-- A range strictly inside one interval, which the change does not leave as it was, cuts that interval in three. -/
def Job.CutInThree (j j' : Job) (given : Interval → Interval) (a b : Nat) : Prop :=
  ∀ above iv below, j.column = above ++ iv :: below → iv.top < a → b < iv.bottom → (given iv).record ≠ iv.record →
    j'.column = above ++ [{ iv with bottom := a, minutes := iv.minutes * (a - iv.top) / (iv.bottom - iv.top) },
      { given iv with
        top := a, bottom := b
        minutes := (iv.minutes - iv.minutes * (a - iv.top) / (iv.bottom - iv.top)) * (b - a) / (iv.bottom - a) },
      { iv with
        top := b
        minutes := iv.minutes - iv.minutes * (a - iv.top) / (iv.bottom - iv.top)
          - (iv.minutes - iv.minutes * (a - iv.top) / (iv.bottom - iv.top)) * (b - a) / (iv.bottom - a) }] ++ below

section Ranges

variable {s t : State} {i : Fin 4} {j j' : Job} {c : RangeChange} {status : CutStatus} {a b : Nat} {col : List Interval}
  {given : Interval → Interval} {inside : Nat → Interval → Prop} {deep : Prop}

/-- A column written as changed, the footage of its class changes posted. -/
theorem State.rangeChanged_of {ps : List (Fin 40 × Int)} (hcol : ColumnSound j.holeDepth col)
    (hc : ColumnChanged j.holeDepth j.column col given inside deep) (hps : ∀ p ∈ ps, p.1.val < 12)
    (hw : s.Wrote i (({ j with column := col } : Job).posts ps) t) (hf : Frame [.jobs, .attn] s t) :
    s.RangeChanged t i j (({ j with column := col } : Job).posts ps) given inside deep := by
  have hposts := Job.posts_eq ({ j with column := col } : Job) ps
  have hpostcol : (({ j with column := col } : Job).posts ps).column = col := by rw [hposts]
  have hhole : (({ j with column := col } : Job).posts ps).holeDepth = j.holeDepth := by rw [hposts]
  refine ⟨hw, columnOk_iff.2 (by rw [hpostcol, hhole]; exact hcol), ?_, fun line => ⟨?_, ?_, fun hline => ?_⟩, ?_, ?_, ?_, hf⟩
  · rw [hpostcol]
    exact hposts
  · exact (Job.posts_settled _ ps line).1
  · exact (Job.posts_settled _ ps line).2
  · refine Job.posts_sheet_other (j := { j with column := col }) fun p hp he => ?_
    have := hps p hp
    rw [he] at this
    omega
  · rw [hpostcol]
    exact hc.1
  · rw [hpostcol]
    exact hc.2.1
  · rw [hpostcol]
    exact hc.2.2

theorem Job.moves_lines (j : Job) (changes : List ClassChange) : ∀ p ∈ changes.flatMap j.moves, p.1.val < 12 := by
  intro p hp
  obtain ⟨ch, _, hp⟩ := List.mem_flatMap.1 hp
  obtain ⟨band, _, hp⟩ := List.mem_flatMap.1 hp
  simp only [List.mem_cons, List.not_mem_nil, or_false] at hp
  obtain rfl | rfl := hp <;> exact footageLine_lt ..

theorem Job.cutInThree_of (hc : Covers 0 j.column j.holeDepth) (hab : a < b) {table : Vector LithEntry 64}
    (hcol : j'.column = setAndJoin table c (Interval.inside a b) a b (splitRange a b j.column)) :
    j.CutInThree j' (c.set table) a b := by
  intro above iv below hj hta hbb hne
  rw [hj] at hc
  have hset : ∀ (top bottom minutes : Nat), c.set table { iv with top := top, bottom := bottom, minutes := minutes }
      = { c.set table iv with top := top, bottom := bottom, minutes := minutes } := by
    rcases c with ⟨_, _ | _⟩ | _ | _ <;> exact fun _ _ _ => rfl
  rw [hcol, hj, setAndJoin_cut hc hta hab hbb hne, List.append_assoc]
  exact congrArg (fun x => above ++ _ :: x :: _) (hset ..)

/-- A range change where the column has room (R146). -/
theorem State.bindRange_room (hj : s.job? i = some j) (hs : ColumnSound j.holeDepth j.column) (hab : a < b)
    (hb : b ≤ j.holeDepth) (hroom : splitsNeeded a b j.column ≤ columnLimit - j.column.length) :
    ∃ t j', s.bindRange i c a b = some t
      ∧ s.RangeChanged t i j j' (fun iv => c.set s.lith iv) (fun depth _ => a ≤ depth ∧ depth < b) (b = j.holeDepth)
      ∧ j.CutInThree j' (c.set s.lith) a b := by
  have happly : applyRange s.lith c a b j.column
      = some (setAndJoin s.lith c (Interval.inside a b) a b (splitRange a b j.column),
          classChanges s.lith c a b (splitRange a b j.column)) := by
    rw [applyRange, seekRoom_of_room hroom, Option.map_some]
  have hbind := (State.bindRange_some hj).2 ⟨_, happly, rfl⟩
  obtain ⟨r, hr, hw⟩ := State.bindRange_wrote hj hbind
  obtain rfl := Option.some.inj (happly.symm.trans hr)
  refine ⟨_, _, hbind, State.rangeChanged_of (hs.applyRange happly) (columnChanged_full hs.1 hab hb) (j.moves_lines _) hw
    (State.bindRange_frame i c a b s _ hbind), Job.cutInThree_of (table := s.lith) hs.1 hab ?_⟩
  rw [Job.posts_eq]

/-- A status mark changes no class. -/
theorem classChanges_mark (table : Vector LithEntry 64) (status : CutStatus) (a b : Nat) (col : List Interval) :
    classChanges table (.mark status) a b col = [] := by
  refine List.filterMap_eq_nil_iff.2 fun iv _ => ?_
  rw [if_neg]
  simp [RangeChange.set]

/-- A mark within the hole needs no extension (R138). -/
theorem State.markRange_eq (hj : s.job? i = some j) (hs : ColumnSound j.holeDepth j.column) (hb : b ≤ j.holeDepth) :
    s.markRange i status a b = match s.bindRange i (.mark status) a b with
      | some t => t
      | none => (s.setColumn i (setAndJoin s.lith (.mark status) (Interval.covered a b) a b j.column)).raise .columnFull
          (.columnFull (s.jobHandle i) (markKind status) a b) := by
  obtain ⟨deepest, hd, hbot⟩ := hs.last
  unfold State.markRange
  simp only
  rw [State.extendColumn_idle hj hd (by omega), State.bindRange, hj]
  simp only [Option.bind_some]
  cases hr : applyRange s.lith (.mark status) a b j.column with
  | none => rfl
  | some r =>
    obtain ⟨roomy, _, rfl⟩ := Option.map_eq_some_iff.1 hr
    simp only [Option.map_some, classChanges_mark]
    rfl

/-- A mark of a column keeps the sheet and the attentions. -/
theorem State.bindRange_mark (hj : s.job? i = some j) (ht : s.bindRange i (.mark status) a b = some t) :
    ∃ col, t = s.setColumn i col := by
  obtain ⟨r, hr, rfl⟩ := (State.bindRange_some hj).1 ht
  obtain ⟨roomy, _, rfl⟩ := Option.map_eq_some_iff.1 hr
  simp only [classChanges_mark]
  exact ⟨_, rfl⟩

theorem State.RangeChanged.wrote (h : s.RangeChanged t i j j' given inside deep) : s.Wrote i j' t := h.1

/-- A status mark that finds no room (R149). -/
theorem State.markRange_degraded (hj : s.job? i = some j) (hs : ColumnSound j.holeDepth j.column) (hb : b ≤ j.holeDepth)
    (hn : s.bindRange i (.mark status) a b = none) :
    ∃ j', s.RangeChanged (s.markRange i status a b) i j j' (fun iv => RangeChange.set s.lith iv (.mark status))
        (fun _ u => a ≤ u.top ∧ u.bottom ≤ b) False
      ∧ j'.sheet = j.sheet
      ∧ (s.markRange i status a b).attn[AttnKind.columnFull.ix].detail
        = some (.columnFull (.job i s.jobs[i].gen) (markKind status) a b) := by
  have hmark : s.markRange i status a b
      = (s.setColumn i (setAndJoin s.lith (.mark status) (Interval.covered a b) a b j.column)).raise .columnFull
        (.columnFull (s.jobHandle i) (markKind status) a b) := by
    rw [State.markRange_eq hj hs hb, hn]
  have hw : s.Wrote i { j with column := setAndJoin s.lith (.mark status) (Interval.covered a b) a b j.column }
      (s.markRange i status a b) := by
    rw [hmark]
    exact (State.setColumn_wrote hj _).frame (State.raise_frame ..)
  refine ⟨_, State.rangeChanged_of (ps := []) (hs.setAndJoin ..) (columnChanged_degraded hs.1) (by simp) hw
    (State.markRange_frame ..), rfl, ?_⟩
  rw [hmark]
  simp [State.raise, AttnEntry.raised]
  rfl

/-- Without room a range change starts over from the column with one pair merged (R148). -/
theorem State.bindRange_merge (hj : s.job? i = some j) (hlen : j.column.length ≤ columnLimit)
    (hfull : ¬splitsNeeded a b j.column ≤ columnLimit - j.column.length) :
    (∀ col, capacityMerge j.column = some col → s.bindRange i c a b
      = ({ s with jobs := s.jobs.set i ⟨s.jobs[i].gen, some { j with column := col }⟩ } : State).bindRange i c a b)
    ∧ (capacityMerge j.column = none → s.bindRange i c a b = none) := by
  have happly := applyRange_merge (table := s.lith) (c := c) hlen hfull
  constructor
  · intro col hcol
    rw [hcol, Option.bind_some] at happly
    show _ = (s.setJob i { j with column := col }).bindRange i c a b
    have hjob : (s.setJob i { j with column := col }).job? i = some { j with column := col } := State.setJob_job?_same
    have hset : ∀ col', (s.setJob i { j with column := col }).setColumn i col' = s.setColumn i col' := fun col' => by
      rw [State.setColumn, State.setColumn, State.modifyJob_some hj, State.modifyJob_some hjob]
      simp [State.setJob]
    rw [State.bindRange, State.bindRange, hj, hjob, Option.bind_some, Option.bind_some, happly]
    simp only [hset]
    rfl
  · intro hnone
    rw [hnone, Option.bind_none] at happly
    rw [State.bindRange, hj, Option.bind_some, happly, Option.map_none]

/-- A status mark where the column has room. -/
theorem State.markRange_room (hj : s.job? i = some j) (hs : ColumnSound j.holeDepth j.column) (hab : a < b)
    (hb : b ≤ j.holeDepth) (hroom : splitsNeeded a b j.column ≤ columnLimit - j.column.length) :
    ∃ j', s.RangeChanged (s.markRange i status a b) i j j' (fun iv => RangeChange.set s.lith iv (.mark status))
        (fun depth _ => a ≤ depth ∧ depth < b) (b = j.holeDepth)
      ∧ j.CutInThree j' (fun iv => RangeChange.set s.lith iv (.mark status)) a b ∧ j'.sheet = j.sheet
      ∧ (s.markRange i status a b).attn = s.attn := by
  obtain ⟨t, j', ht, hchanged, hcut⟩ := State.bindRange_room (c := .mark status) hj hs hab hb hroom
  obtain ⟨col, rfl⟩ := State.bindRange_mark hj ht
  obtain rfl := Option.some.inj (hchanged.wrote.job?.symm.trans (State.setColumn_wrote hj col).job?)
  rw [State.markRange_eq hj hs hb, ht]
  exact ⟨_, hchanged, hcut, rfl, by rw [State.setColumn, State.modifyJob_some hj]; rfl⟩

theorem markKind_eq (status : CutStatus) : markKind status = if status = .noReturns then .noReturns else .notSampled := by
  cases status <;> rfl

end Ranges

/-- Settles O54: the change written, by room, by merges or degraded; and the flag mark. -/
theorem rangeChangeRule : Obligations.RangeChangeRule := by
  refine ⟨?_, fun j d mark hj hmark => ?_⟩
  · intro s i j change a b hj hok hab hb given log cuts changed inRange cutInThree
    have hs := columnOk_iff.1 hok
    have hneed : splitsNeeded a b j.column = cuts := splitsNeeded_eq hs.1 a b
    have hlen : j.column.length ≤ 96 := hs.2
    have hgiven : given = fun iv => RangeChange.set s.lith iv change := by
      rcases change with ⟨_, _ | _⟩ | _ | _ <;> rfl
    have hlimit : columnLimit = 96 := rfl
    clear_value given cuts
    subst hgiven hneed
    refine ⟨fun hroom => ?_, fun hfull => ?_, ?_⟩
    · have hroom' : splitsNeeded a b j.column ≤ columnLimit - j.column.length := by omega
      refine ⟨State.bindRange_room hj hs hab hb hroom', ?_⟩
      rintro status rfl
      exact State.markRange_room hj hs hab hb hroom'
    · exact State.bindRange_merge hj hs.2 (by omega)
    · rintro status rfl
      refine ⟨fun t ht => ?_, fun hn => ?_⟩
      · rw [State.markRange_eq hj hs hb, ht]
      · rw [← markKind_eq]
        exact State.markRange_degraded hj hs hb hn
  · have hs : ColumnSound j.holeDepth j.column := columnOk_iff.1 hj
    intro log col
    refine ⟨columnOk_iff.2 (hs.markContaining d hmark), fun depth u v hd hu hv => ?_, fun u v hu hv => ?_⟩
    · have hrec := markContaining_shows hs.1 hmark hd hu hv
      exact ⟨fun h => by rwa [if_pos h] at hrec, fun h => by rwa [if_neg h] at hrec⟩
    · have hrec := markContaining_last hs.1 hmark hu hv
      exact ⟨fun h => by rwa [if_pos h] at hrec, fun h => by rwa [if_neg h] at hrec⟩

end Sys2Proof.Machine
end

section
/-! PROOFS. The roster's slots: what a write of one slot leaves, the rods found by a test, and the rods counted. -/

namespace Sys2Proof.Machine

-- One proof at a time: proofs elaborated at once add up past the memory of the check.
set_option Elab.async false

/-! ### One slot written -/

/-- `t` holds the record `o`, or none, in slot `i`, and every other slot's record as `s` does. -/
def State.Slotted (i : Fin 128) (o : Option Rod) (s t : State) : Prop := t.rod? i = o ∧ ∀ k, k ≠ i → t.rod? k = s.rod? k

section Slots

variable {s t u : State} {i k : Fin 128} {r x y : Rod} {o o' : Option Rod} {p : Rod → Bool} {f : Rod → Rod}

theorem State.setRod_slotted (i : Fin 128) (r : Rod) (s : State) : s.Slotted i (some r) (s.setRod i r) := by
  refine ⟨by simp [State.rod?, State.setRod], fun k hk => ?_⟩
  have hne : i.val ≠ k.val := fun he => hk (Fin.ext he.symm)
  simp [State.rod?, State.setRod, Vector.getElem_set_ne _ _ hne]

theorem State.removeRod_slotted (i : Fin 128) (s : State) : s.Slotted i none (s.removeRod i) := by
  refine ⟨by simp [State.rod?, State.removeRod], fun k hk => ?_⟩
  have hne : i.val ≠ k.val := fun he => hk (Fin.ext he.symm)
  simp [State.rod?, State.removeRod, Vector.getElem_set_ne _ _ hne]

theorem State.modifyRod_some (hr : s.rod? i = some r) : s.modifyRod i f = s.setRod i (f r) := by
  rw [State.modifyRod, hr]

theorem State.modifyRod_none (hr : s.rod? i = none) : s.modifyRod i f = s := by
  rw [State.modifyRod, hr]

theorem State.modifyRod_slotted (hr : s.rod? i = some r) : s.Slotted i (some (f r)) (s.modifyRod i f) := by
  rw [State.modifyRod_some hr]
  exact State.setRod_slotted ..

theorem State.Slotted.trans (h : s.Slotted i o t) (g : t.Slotted i o' u) : s.Slotted i o' u :=
  ⟨g.1, fun k hk => (g.2 k hk).trans (h.2 k hk)⟩

theorem State.Slotted.of_rods (h : s.Slotted i o t) (hu : ∀ k, u.rod? k = t.rod? k) : s.Slotted i o u :=
  ⟨(hu i).trans h.1, fun k hk => (hu k).trans (h.2 k hk)⟩

theorem Frame.rod?_eq {ps : List Part} (hf : Frame ps s t) (hp : .roster ∉ ps := by simp) (k : Fin 128) : t.rod? k = s.rod? k := by
  have hr : t.roster = s.roster := hf.kept .roster hp
  rw [State.rod?, State.rod?, hr]

/-- A regraded rod keeps all but its wear class (R49). -/
theorem State.regrade_slotted (hr : s.rod? i = some r) :
    s.Slotted i (some { r with wear := r.grade s.roster.types[r.type] }) (s.regrade i) := by
  rw [State.regrade, hr]
  simp only
  split
  · exact (State.setRod_slotted ..).of_rods fun _ => rfl
  · exact State.setRod_slotted ..

theorem State.regrade_none (hr : s.rod? i = none) : s.regrade i = s := by rw [State.regrade, hr]

/-! ### Rods found -/

theorem State.findRod_some (h : s.findRod p = some i) : ∃ x, s.rod? i = some x ∧ p x = true := by
  have hany := List.find?_some h
  cases hx : s.rod? i with
  | none => simp [hx] at hany
  | some x => exact ⟨x, rfl, by simpa [hx] using hany⟩

theorem State.findRod_none : s.findRod p = none ↔ ∀ i x, s.rod? i = some x → p x = false := by
  rw [State.findRod, List.find?_eq_none]
  constructor
  · intro h i x hx
    have := h i (List.mem_finRange i)
    rw [hx, Option.any_some] at this
    simpa using this
  · intro h i _
    cases hx : s.rod? i with
    | none => simp
    | some x => simp [h i x hx]

/-- A rod that alone meets a test is found by it. -/
theorem State.findRod_of_unique (hx : s.rod? i = some x) (hp : p x = true)
    (hu : ∀ k y, s.rod? k = some y → p y = true → k = i) : s.findRod p = some i := by
  cases hf : s.findRod p with
  | none =>
    have := State.findRod_none.1 hf i x hx
    rw [hp] at this
    cases this
  | some k =>
    obtain ⟨y, hy, hpy⟩ := State.findRod_some hf
    rw [hu k y hy hpy]

/-! ### Rods counted -/

/-- A figure of every live rod, added up. -/
def State.tallyRods (s : State) (g : Rod → Nat) : Nat := ((List.finRange 128).map fun i => ((s.rod? i).map g).getD 0).sum

theorem State.tallyRods_eq (s : State) (g : Rod → Nat) : s.tallyRods g = ∑ i : Fin 128, ((s.rod? i).map g).getD 0 :=
  (Fin.sum_univ_def _).symm

/-- A write of one slot changes the sum by that slot's figure. -/
theorem State.Slotted.tally (h : s.Slotted i o t) (g : Rod → Nat) :
    t.tallyRods g + ((s.rod? i).map g).getD 0 = s.tallyRods g + (o.map g).getD 0 := by
  have hrest : ∑ k ∈ Finset.univ.erase i, ((t.rod? k).map g).getD 0 = ∑ k ∈ Finset.univ.erase i, ((s.rod? k).map g).getD 0 :=
    Finset.sum_congr rfl fun k hk => by rw [h.2 k (Finset.ne_of_mem_erase hk)]
  have ht := Finset.add_sum_erase Finset.univ (fun k => ((t.rod? k).map g).getD 0) (Finset.mem_univ i)
  have hs := Finset.add_sum_erase Finset.univ (fun k => ((s.rod? k).map g).getD 0) (Finset.mem_univ i)
  simp only [h.1] at ht
  rw [State.tallyRods_eq, State.tallyRods_eq, ← ht, ← hs, hrest]
  omega

theorem State.tallyRods_congr {g : Rod → Nat} (h : ∀ k, ((t.rod? k).map g) = ((s.rod? k).map g)) :
    t.tallyRods g = s.tallyRods g := by
  rw [State.tallyRods, State.tallyRods]
  simp only [h]

theorem State.countRods_eq (s : State) (p : Rod → Bool) : s.countRods p = s.tallyRods fun r => (p r).toNat := by
  have hlist : s.roster.slots.toList = (List.finRange 128).map fun i => s.roster.slots[i] := by
    refine List.ext_getElem (by simp) fun n h1 h2 => ?_
    simp
  have hcount : ∀ l : List (Fin 128), ((l.map fun i => s.roster.slots[i]).filter fun slot => slot.rod.any p).length
      = (l.map fun i => ((s.rod? i).map fun r => (p r).toNat).getD 0).sum := by
    intro l
    induction l with
    | nil => rfl
    | cons i l ih =>
      rw [List.map_cons, List.map_cons, List.sum_cons, List.filter_cons, ← ih, State.rod?]
      cases hr : s.roster.slots[i].rod with
      | none => simp
      | some r =>
        cases hp : p r with
        | false => simp [hp]
        | true =>
          simp [hp]
          omega
  rw [State.countRods, hlist, hcount]
  rfl

/-- A rod's length while it is in the string. -/
def Rod.strungLength (r : Rod) : Nat := if r.inString then r.length else 0

theorem State.rodsLength_eq (s : State) : s.rodsLength = s.tallyRods Rod.strungLength := by
  rw [State.rodsLength, State.tallyRods]
  congr 2
  funext i
  cases s.rod? i with
  | none => rfl
  | some r => cases hr : r.inString <;> simp [Option.filter, Rod.strungLength, hr]

theorem Rod.inString_iff : r.inString = true ↔ ∃ p, r.place = .string p := by
  rw [Rod.inString]
  cases r.place <;> simp

end Slots

/-! ### The string's rods -/

/-- The string's positions and CENTRE hold one rod each, and the positions are 1 to n (R36). -/
structure State.RodsSound (s : State) : Prop where
  position : ∀ i k x y p, s.rod? i = some x → s.rod? k = some y → x.place = .string p → y.place = .string p → i = k
  centre : ∀ i k x y, s.rod? i = some x → s.rod? k = some y → x.place = .centre → y.place = .centre → i = k
  range : ∀ i x p, s.rod? i = some x → x.place = .string p → 1 ≤ p ∧ p ≤ s.stringCount

/-- The slots of the rods in the string. -/
def State.strung (s : State) : Finset (Fin 128) := Finset.univ.filter fun i => (s.rod? i).any Rod.inString = true

/-- A rod's string position, 0 for one that is not in the string. -/
def Rod.position (r : Rod) : Nat :=
  match r.place with
  | .string p => p
  | _ => 0

/-- The string position of the rod in a slot. -/
def State.positionOf (s : State) (i : Fin 128) : Nat := ((s.rod? i).map Rod.position).getD 0

section Positions

variable {s t : State} {i k : Fin 128} {x y : Rod} {o : Option Rod} {p : Nat}

theorem State.RodsSound.rodAtPosition (h : s.RodsSound) (hx : s.rod? i = some x) (hp : x.place = .string p) :
    s.rodAtPosition p = some i :=
  State.findRod_of_unique hx (by simp [hp]) fun k y hy hpy => h.position k i y x p hy hx (by simpa using hpy) hp

theorem State.RodsSound.rodAtCentre (h : s.RodsSound) (hx : s.rod? i = some x) (hp : x.place = .centre) :
    s.rodAtCentre = some i :=
  State.findRod_of_unique hx (by simp [hp]) fun k y hy hpy => h.centre k i y x hy hx (by simpa using hpy) hp

theorem State.rodAtPosition_some (h : s.rodAtPosition p = some i) : ∃ x, s.rod? i = some x ∧ x.place = .string p := by
  obtain ⟨x, hx, hp⟩ := State.findRod_some h
  exact ⟨x, hx, by simpa using hp⟩

theorem State.rodAtCentre_some (h : s.rodAtCentre = some i) : ∃ x, s.rod? i = some x ∧ x.place = .centre := by
  obtain ⟨x, hx, hp⟩ := State.findRod_some h
  exact ⟨x, hx, by simpa using hp⟩

theorem State.rodAtCentre_none : s.rodAtCentre = none ↔ ∀ i x, s.rod? i = some x → x.place ≠ .centre := by
  rw [State.rodAtCentre, State.findRod_none]
  simp

theorem State.stringCount_card (s : State) : s.stringCount = s.strung.card := by
  rw [State.stringCount, State.countRods_eq, State.tallyRods_eq, State.strung, Finset.card_filter]
  refine Finset.sum_congr rfl fun i _ => ?_
  cases s.rod? i with
  | none => rfl
  | some r => cases hr : r.inString <;> simp [hr]

/-- Sound positions are all taken (R36). -/
theorem State.RodsSound.filled (h : s.RodsSound) (h1 : 1 ≤ p) (h2 : p ≤ s.stringCount) : ∃ i, s.rodAtPosition p = some i := by
  have hheld : ∀ i, i ∈ s.strung ↔ ∃ x q, s.rod? i = some x ∧ x.place = .string q := by
    intro i
    simp only [State.strung, Finset.mem_filter, Finset.mem_univ, true_and]
    cases hx : s.rod? i with
    | none => simp
    | some x => simp [Rod.inString_iff]
  have hplace : ∀ {i x q}, s.rod? i = some x → x.place = .string q → s.positionOf i = q := by
    intro i x q hx hq
    simp only [State.positionOf, hx, Option.map_some, Option.getD_some, Rod.position, hq]
  have hsurj := Finset.surj_on_of_inj_on_of_card_le (t := Finset.Icc 1 s.stringCount) (fun i (_ : i ∈ s.strung) => s.positionOf i)
    (fun i hi => by
      obtain ⟨x, q, hx, hq⟩ := (hheld i).1 hi
      rw [hplace hx hq]
      exact Finset.mem_Icc.2 (h.range i x q hx hq))
    (fun i k hi hk he => by
      obtain ⟨x, q, hx, hq⟩ := (hheld i).1 hi
      obtain ⟨y, q', hy, hq'⟩ := (hheld k).1 hk
      rw [hplace hx hq, hplace hy hq'] at he
      exact h.position i k x y q hx hy hq (he ▸ hq'))
    (by rw [Nat.card_Icc, ← State.stringCount_card]; omega) p (Finset.mem_Icc.2 ⟨h1, h2⟩)
  obtain ⟨i, hi, hp⟩ := hsurj
  obtain ⟨x, q, hx, hq⟩ := (hheld i).1 hi
  rw [hplace hx hq] at hp
  exact ⟨i, h.rodAtPosition hx (hp ▸ hq)⟩

/-- The rods of a sound string are listed position by position. -/
theorem State.RodsSound.stringRods_length (h : s.RodsSound) : s.stringRods.length = s.stringCount := by
  have hall : ∀ n, n ≤ s.stringCount → ((List.range n).filterMap fun p => s.rodAtPosition (p + 1)).length = n := by
    intro n
    induction n with
    | zero => exact fun _ => rfl
    | succ n ih =>
      intro hn
      obtain ⟨i, hi⟩ := h.filled (p := n + 1) (by omega) hn
      rw [List.range_succ, List.filterMap_append, List.length_append, ih (by omega), List.filterMap_cons, hi]
      rfl
  exact hall _ le_rfl

theorem State.rodsSound_iff : s.RodsSound ↔ s.PositionsOk := by
  constructor
  · intro h
    refine ⟨fun i => (Option.all_eq_true _ _).2 fun x hx => ?_, h.stringRods_length⟩
    cases hp : x.place with
    | string p =>
      have := h.range i x p hx hp
      simp [within, this, h.rodAtPosition hx hp]
    | centre => simp [h.rodAtCentre hx hp]
    | truck => rfl
    | carousel slot => rfl
  · intro ⟨h, _⟩
    have hplace := fun i x hx => (Option.all_eq_true _ _).1 (h i) x hx
    have hposition : ∀ i x p, s.rod? i = some x → x.place = .string p → (1 ≤ p ∧ p ≤ s.stringCount) ∧ s.rodAtPosition p = some i := by
      intro i x p hx hp
      have := hplace i x hx
      simp only [hp, Bool.and_eq_true, within, decide_eq_true_eq, beq_iff_eq] at this
      exact this
    have hcentre : ∀ i x, s.rod? i = some x → x.place = .centre → s.rodAtCentre = some i := by
      intro i x hx hp
      have := hplace i x hx
      simpa only [hp, beq_iff_eq] using this
    refine ⟨fun i k x y p hx hy hp hp' => ?_, fun i k x y hx hy hp hp' => ?_, fun i x p hx hp => (hposition i x p hx hp).1⟩
    · exact Option.some.inj ((hposition i x p hx hp).2.symm.trans (hposition k y p hy hp').2)
    · exact Option.some.inj ((hcentre i x hx hp).symm.trans (hcentre k y hy hp'))

/-- Every rod of a sound string is listed, and only those are. -/
theorem State.RodsSound.mem_stringRods (h : s.RodsSound) : i ∈ s.stringRods ↔ ∃ x, s.rod? i = some x ∧ x.inString = true := by
  rw [State.stringRods, List.mem_filterMap]
  constructor
  · rintro ⟨p, _, hp⟩
    obtain ⟨x, hx, hplace⟩ := State.rodAtPosition_some hp
    exact ⟨x, hx, Rod.inString_iff.2 ⟨_, hplace⟩⟩
  · rintro ⟨x, hx, hin⟩
    obtain ⟨p, hp⟩ := Rod.inString_iff.1 hin
    obtain ⟨h1, h2⟩ := h.range i x p hx hp
    refine ⟨p - 1, List.mem_range.2 (by omega), ?_⟩
    rw [Nat.sub_add_cancel h1]
    exact h.rodAtPosition hx hp

end Positions

end Sys2Proof.Machine
end

section
/-! PROOFS. The string and the operation in flight as one predicate, and what carries it from one state to another. -/

namespace Sys2Proof.Machine

-- One proof at a time: proofs elaborated at once add up past the memory of the check.
set_option Elab.async false

/-! ### The string (R36, R38, R59 to R64) -/

/-- The step is one at which WRENCH works on the joint. -/
def OpStep.breaks (p : OpStep) : Bool := p == .awaitWrench || p == .awaitBreak

/-- What the operation in flight has found, kind by kind (R59, R62, R63, R64). -/
structure State.OpSound (s : State) (o : Operation) : Prop where
  makeUp : o.kind = .makeUp → s.bhaIn = true ∧ ∃ i x, o.rod = some i ∧ s.rod? i = some x ∧ x.inString = false
    ∧ s.roster.stringLen + x.length ≤ 100000 ∧ ((o.step ≠ .awaitTorque ∧ o.source ≠ some .centre) ∨ x.place = .centre)
    ∧ ∀ k y, s.rod? k = some y → y.place = .centre → k = i
  breakOut : o.kind = .breakOut → s.bhaIn = true ∧ ∃ i x, o.rod = some i ∧ s.rod? i = some x
    ∧ (o.step.breaks = true → x.place = .string s.stringCount ∧ ∀ k y, s.rod? k = some y → y.place ≠ .centre)
    ∧ (o.step.breaks = false → x.place = .centre)
  stow : o.kind = .stow → ∃ i x, o.rod = some i ∧ s.rod? i = some x ∧ x.place = .centre
  runBha : o.kind = .runBha → s.active? ≠ none ∧ s.bhaIn = false
  pullBha : o.kind = .pullBha → s.bhaIn = true ∧ s.stringCount = 0

/-- The length of the ACTIVE job's BHA, while it is in the string (R38). -/
def State.bhaLen (s : State) : Nat := if s.bhaIn then (s.activeJob?.map fun j => j.bha.length).getD 0 else 0

/-- A job's BHA within its longest, and in the string only of the ACTIVE job. -/
def Job.BhaSound (j : Job) : Prop := j.bha.length ≤ 2000 ∧ (j.bha.place = .inString → j.phase = .active)

/-- The string, whatever operation is in flight. -/
structure State.StringCore (s : State) : Prop where
  rods : s.RodsSound
  length : s.roster.stringLen = s.bhaLen + s.rodsLength
  limit : s.roster.stringLen ≤ 100000
  bare : s.bhaIn = false → s.stringCount = 0
  bhas : ∀ i j, s.job? i = some j → j.BhaSound

/-- The string as its chapter gives it. -/
structure State.StringSound (s : State) : Prop extends State.StringCore s where
  op : ∀ o, s.engine.op = some o → s.OpSound o

section Iff

variable {s : State} {o : Operation} {a : Fin 4} {j : Job}

theorem State.activeJob?_of (h : ActiveIs s a j) : s.activeJob? = some j := by
  rw [State.activeJob?, h.1]
  exact h.2

theorem State.activeJob?_none (h : s.active? = none) : s.activeJob? = none := by
  rw [State.activeJob?, h]
  rfl

theorem State.bhaIn_of (h : ActiveIs s a j) : s.bhaIn = (j.bha.place == .inString) := by
  rw [State.bhaIn, State.activeJob?_of h, Option.any_some]

theorem State.bhaIn_idle (h : s.active? = none) : s.bhaIn = false := by
  rw [State.bhaIn, State.activeJob?_none h, Option.any_none]

theorem State.bhaLen_of (h : ActiveIs s a j) (hin : j.bha.place = .inString) : s.bhaLen = j.bha.length := by
  rw [State.bhaLen, State.bhaIn_of h, State.activeJob?_of h, hin]
  rfl

theorem State.bhaLen_out (h : s.bhaIn = false) : s.bhaLen = 0 := by
  rw [State.bhaLen, h]
  rfl

theorem State.activeJob?_isSome : s.activeJob?.isSome = true ↔ s.active? ≠ none := by
  cases ha : s.active? with
  | none => simp [State.activeJob?_none ha]
  | some a =>
    obtain ⟨j, hj, _⟩ := State.active?_job ha
    simp [State.activeJob?_of hj]

theorem State.opSound_iff (h : s.RodsSound) : s.OpSound o ↔ s.opHolds o = true := by
  have hcentre : (s.rodAtCentre.isNone || s.rodAtCentre == o.rod) = true ↔
      ∀ k y, s.rod? k = some y → y.place = .centre → o.rod = some k := by
    cases hc : s.rodAtCentre with
    | none =>
      have := State.rodAtCentre_none.1 hc
      simp only [Option.isNone_none, Bool.true_or, true_iff]
      exact fun k y hy hp => absurd hp (this k y hy)
    | some i =>
      obtain ⟨x, hx, hp⟩ := State.rodAtCentre_some hc
      simp only [Option.isNone_some, Bool.false_or, beq_iff_eq]
      constructor
      · intro ho k y hy hpy
        rw [← ho, h.centre i k x y hx hy hp hpy]
      · exact fun ho => (ho i x hx hp).symm
  have hbreaks : (o.step = .awaitWrench ∨ o.step = .awaitBreak) ↔ o.step.breaks = true := by
    simp [OpStep.breaks]
  have hrod : ∀ p : Rod → Bool, (o.rod.bind s.rod?).any p = true ↔
      ∃ i x, o.rod = some i ∧ s.rod? i = some x ∧ p x = true := by
    intro p
    cases o.rod with
    | none => simp
    | some i => cases hx : s.rod? i <;> simp [hx]
  cases hk : o.kind with
  | makeUp =>
    rw [State.opHolds, hk]
    simp only [Bool.and_eq_true, hcentre, hrod]
    constructor
    · intro hs
      obtain ⟨hb, i, x, ho, hx, hin, hroom, hat, hall⟩ := hs.makeUp hk
      refine ⟨⟨hb, i, x, ho, hx, ?_⟩, fun k y hy hp => by rw [ho, hall k y hy hp]⟩
      simp [hin, hroom, hat]
    · rintro ⟨⟨hb, i, x, ho, hx, hp⟩, hall⟩
      simp only [Bool.not_eq_true', decide_eq_true_eq, Bool.or_eq_true, Bool.and_eq_true, bne_iff_ne, ne_eq, beq_iff_eq] at hp
      obtain ⟨⟨hin, hroom⟩, hat⟩ := hp
      refine ⟨fun _ => ⟨hb, i, x, ho, hx, hin, hroom, hat, fun k y hy hpy => ?_⟩, ?_, ?_, ?_, ?_⟩
      · exact Option.some.inj ((hall k y hy hpy).symm.trans ho)
      all_goals simp [hk]
  | breakOut =>
    rw [State.opHolds, hk]
    simp only [Bool.and_eq_true, hrod, hbreaks]
    constructor
    · intro hs
      obtain ⟨hb, i, x, ho, hx, h1, h2⟩ := hs.breakOut hk
      refine ⟨hb, i, x, ho, hx, ?_⟩
      cases hstep : o.step.breaks with
      | true =>
        obtain ⟨hp, hn⟩ := h1 hstep
        simp [hp, State.rodAtCentre_none.2 hn]
      | false => simp [h2 hstep]
    · rintro ⟨hb, i, x, ho, hx, hp⟩
      refine ⟨?_, fun _ => ⟨hb, i, x, ho, hx, fun h1 => ?_, fun h2 => ?_⟩, ?_, ?_, ?_⟩
      · simp [hk]
      · simp only [h1, if_true, Bool.and_eq_true, beq_iff_eq, Option.isNone_iff_eq_none] at hp
        exact ⟨hp.1, State.rodAtCentre_none.1 hp.2⟩
      · simpa only [h2, Bool.false_eq_true, if_false, beq_iff_eq] using hp
      all_goals simp [hk]
  | stow =>
    rw [State.opHolds, hk]
    simp only [hrod, beq_iff_eq]
    exact ⟨fun hs => hs.stow hk, fun hs => ⟨by simp [hk], by simp [hk], fun _ => hs, by simp [hk], by simp [hk]⟩⟩
  | runBha =>
    rw [State.opHolds, hk]
    simp only [Bool.and_eq_true, Bool.not_eq_true', State.activeJob?_isSome]
    exact ⟨fun hs => hs.runBha hk, fun hs => ⟨by simp [hk], by simp [hk], by simp [hk], fun _ => hs, by simp [hk]⟩⟩
  | pullBha =>
    rw [State.opHolds, hk]
    simp only [Bool.and_eq_true, beq_iff_eq]
    exact ⟨fun hs => hs.pullBha hk, fun hs => ⟨by simp [hk], by simp [hk], by simp [hk], by simp [hk], fun _ => hs⟩⟩

theorem State.stringSound_iff : s.StringSound ↔ s.StringOk := by
  have hjob : ∀ j : Job, j.BhaSound ↔ (j.bha.length ≤ 2000 && (j.phase == .active || j.bha.place != .inString)) = true := by
    intro j
    simp only [Job.BhaSound, Bool.and_eq_true, decide_eq_true_eq, Bool.or_eq_true, beq_iff_eq, bne_iff_ne]
    exact and_congr_right fun _ => ⟨fun h => by by_cases hp : j.bha.place = .inString <;> simp [hp, h],
      fun h hp => h.resolve_right fun hn => hn hp⟩
  constructor
  · intro h
    exact ⟨State.rodsSound_iff.1 h.rods, h.length, h.limit, h.bare,
      fun i => (Option.all_eq_true _ _).2 fun j hj => (hjob j).1 (h.bhas i j hj),
      (Option.all_eq_true _ _).2 fun o ho => (State.opSound_iff h.rods).1 (h.op o ho)⟩
  · intro ⟨hp, hlen, hlimit, hbare, hbhas, hop⟩
    have hrods := State.rodsSound_iff.2 hp
    exact ⟨⟨hrods, hlen, hlimit, hbare, fun i j hj => (hjob j).2 ((Option.all_eq_true _ _).1 (hbhas i) j hj)⟩,
      fun o ho => (State.opSound_iff hrods).2 ((Option.all_eq_true _ _).1 hop o ho)⟩

end Iff

/-! ### What carries it -/

/-- An operation at the same part of its course: only its step within that part and its tag register differ. -/
structure Operation.Eases (o o' : Operation) : Prop where
  kind : o'.kind = o.kind
  rod : o'.rod = o.rod
  source : o'.source = o.source
  dest : o'.dest = o.dest
  torque : o'.step = .awaitTorque → o.step = .awaitTorque
  breaks : o.kind = .breakOut → o'.step.breaks = o.step.breaks

/-- An operation in flight in `t` is one of `s` at the same part of its course. -/
def State.Eased (s t : State) : Prop := ∀ o', t.engine.op = some o' → ∃ o, s.engine.op = some o ∧ o.Eases o'

/-- Where a rod stands, and its length. -/
def Rod.standing (r : Rod) : RodPlace × Nat := (r.place, r.length)

/-- Every slot's rod stands where it stood, as long as it was. -/
def State.Stands (s t : State) : Prop := ∀ i, (t.rod? i).map Rod.standing = (s.rod? i).map Rod.standing

/-- What the string asks of a job: its phase and its BHA. -/
def Job.strings (j : Job) : JobPhase × Bha := (j.phase, j.bha)

/-- Every job's phase and BHA as they were. -/
def State.BhaHeld (s t : State) : Prop := ∀ i, (t.job? i).map Job.strings = (s.job? i).map Job.strings

section Carriers

variable {s t u : State} {o o' : Operation} {a : Fin 4} {j : Job} {ps : List Part}

theorem Operation.Eases.refl (o : Operation) : o.Eases o := ⟨rfl, rfl, rfl, rfl, id, fun _ => rfl⟩

theorem Operation.Eases.trans {o'' : Operation} (h : o.Eases o') (g : o'.Eases o'') : o.Eases o'' :=
  ⟨g.kind.trans h.kind, g.rod.trans h.rod, g.source.trans h.source, g.dest.trans h.dest, fun hs => h.torque (g.torque hs),
    fun hk => (g.breaks (h.kind.trans hk)).trans (h.breaks hk)⟩

theorem State.Eased.of_eq (h : t.engine.op = s.engine.op) : s.Eased t := fun o' ho => ⟨o', h ▸ ho, .refl o'⟩

theorem State.Eased.refl (s : State) : s.Eased s := .of_eq rfl

theorem State.Eased.of_none (h : t.engine.op = none) : s.Eased t := fun o' ho => by simp [h] at ho

theorem State.Eased.trans (h : s.Eased t) (g : t.Eased u) : s.Eased u := fun o'' ho => by
  obtain ⟨o', ho', h2⟩ := g o'' ho
  obtain ⟨o, ho, h1⟩ := h o' ho'
  exact ⟨o, ho, h1.trans h2⟩

theorem Frame.eased (hf : Frame ps s t) (hp : .engine ∉ ps := by simp) : s.Eased t := by
  have he : t.engine = s.engine := hf.kept .engine hp
  exact .of_eq (by rw [he])

theorem State.Stands.refl (s : State) : s.Stands s := fun _ => rfl

theorem State.Stands.trans (h : s.Stands t) (g : t.Stands u) : s.Stands u := fun i => (g i).trans (h i)

theorem Frame.stands (hf : Frame ps s t) (hp : .roster ∉ ps := by simp) : s.Stands t := fun i => by rw [hf.rod?_eq hp]

theorem State.Stands.some (h : s.Stands t) {i : Fin 128} {y : Rod} (hy : t.rod? i = some y) :
    ∃ x, s.rod? i = some x ∧ x.place = y.place ∧ x.length = y.length ∧ x.inString = y.inString := by
  have hi := h i
  rw [hy] at hi
  obtain ⟨x, hx, he⟩ := Option.map_eq_some_iff.1 hi.symm
  obtain ⟨hp, hl⟩ := Prod.mk.inj he
  refine ⟨x, hx, hp, hl, ?_⟩
  rw [Rod.inString, Rod.inString, hp]

theorem State.Stands.symm (h : s.Stands t) : t.Stands s := fun i => (h i).symm

theorem State.Stands.tally (h : s.Stands t) {g : Rod → Nat} (hg : ∀ x y : Rod, x.place = y.place → x.length = y.length → g x = g y) :
    t.tallyRods g = s.tallyRods g := by
  refine State.tallyRods_congr fun i => ?_
  cases hy : t.rod? i with
  | none =>
    cases hx : s.rod? i with
    | none => rfl
    | some x =>
      obtain ⟨y, hy', _⟩ := h.symm.some hx
      rw [hy] at hy'
      cases hy'
  | some y =>
    obtain ⟨x, hx, hp, hl, _⟩ := h.some hy
    rw [hx, Option.map_some, Option.map_some, hg x y hp hl]

theorem State.Stands.stringCount (h : s.Stands t) : t.stringCount = s.stringCount := by
  rw [State.stringCount, State.stringCount, State.countRods_eq, State.countRods_eq]
  refine h.tally fun x y hp _ => ?_
  rw [Rod.inString, Rod.inString, hp]

theorem State.Stands.rodsLength (h : s.Stands t) : t.rodsLength = s.rodsLength := by
  rw [State.rodsLength_eq, State.rodsLength_eq]
  refine h.tally fun x y hp hl => ?_
  rw [Rod.strungLength, Rod.strungLength, Rod.inString, Rod.inString, hp, hl]

theorem State.Stands.rodsSound (h : s.Stands t) (hs : s.RodsSound) : t.RodsSound := by
  refine ⟨fun i k x y p hx hy hp hp' => ?_, fun i k x y hx hy hp hp' => ?_, fun i x p hx hp => ?_⟩
  · obtain ⟨x', hx', hpx, _⟩ := h.some hx
    obtain ⟨y', hy', hpy, _⟩ := h.some hy
    exact hs.position i k x' y' p hx' hy' (hpx.trans hp) (hpy.trans hp')
  · obtain ⟨x', hx', hpx, _⟩ := h.some hx
    obtain ⟨y', hy', hpy, _⟩ := h.some hy
    exact hs.centre i k x' y' hx' hy' (hpx.trans hp) (hpy.trans hp')
  · obtain ⟨x', hx', hpx, _⟩ := h.some hx
    rw [h.stringCount]
    exact hs.range i x' p hx' (hpx.trans hp)

theorem State.BhaHeld.refl (s : State) : s.BhaHeld s := fun _ => rfl

theorem State.BhaHeld.trans (h : s.BhaHeld t) (g : t.BhaHeld u) : s.BhaHeld u := fun i => (g i).trans (h i)

theorem Frame.bhaHeld (hf : Frame ps s t) (hp : .jobs ∉ ps := by simp) : s.BhaHeld t := fun i => by rw [hf.job?_eq hp]

theorem State.Logged.bhaHeld (h : s.Logged t) : s.BhaHeld t := by
  intro i
  cases hj : s.job? i with
  | none => rw [h.none i hj]
  | some j =>
    obtain ⟨j', hj', hl⟩ := h.some i j hj
    rw [hj']
    exact congrArg Option.some (show j'.strings = j.strings by rw [hl]; rfl)

theorem State.BhaHeld.setJob {j' : Job} (hj : s.job? a = some j) (hs : j'.strings = j.strings) : s.BhaHeld (s.setJob a j') := by
  intro k
  by_cases hk : a = k
  · subst hk
    rw [State.setJob_job?_same, hj, Option.map_some, Option.map_some, hs]
  · rw [State.setJob_job?_other hk]

theorem State.BhaHeld.staged (h : s.BhaHeld t) : s.Staged t := by
  intro k
  have hk := congrArg (Option.map Prod.fst) (h k)
  simpa [Job.strings, Function.comp_def] using hk

theorem State.BhaHeld.some (h : s.BhaHeld t) {i : Fin 4} {x : Job} (hx : t.job? i = some x) :
    ∃ j, s.job? i = some j ∧ j.phase = x.phase ∧ j.bha = x.bha := by
  have hi := h i
  rw [hx] at hi
  obtain ⟨j, hj, he⟩ := Option.map_eq_some_iff.1 hi.symm
  exact ⟨j, hj, Prod.mk.inj he⟩

theorem State.BhaHeld.active? (h : s.BhaHeld t) : t.active? = s.active? := h.staged.active?

theorem State.BhaHeld.activeBha (h : s.BhaHeld t) : t.activeJob?.map Job.bha = s.activeJob?.map Job.bha := by
  cases ha : s.active? with
  | none => rw [State.activeJob?_none ha, State.activeJob?_none (h.active?.trans ha)]
  | some a =>
    obtain ⟨x, hx, _⟩ := State.active?_job (h.active?.trans ha)
    obtain ⟨j, hj, _, hb⟩ := h.some hx.2
    rw [State.activeJob?_of hx, State.activeJob?_of (⟨ha, hj⟩ : ActiveIs s a j), Option.map_some, Option.map_some, hb]

theorem State.BhaHeld.bhaIn (h : s.BhaHeld t) : t.bhaIn = s.bhaIn := by
  have hany : ∀ u : State, u.bhaIn = (u.activeJob?.map Job.bha).any fun b => b.place == .inString := fun u => by
    cases hu : u.activeJob? <;> simp [State.bhaIn, hu]
  rw [hany, hany, h.activeBha]

theorem State.BhaHeld.bhaLen (h : s.BhaHeld t) : t.bhaLen = s.bhaLen := by
  have hlen : ∀ u : State, (u.activeJob?.map fun j => j.bha.length) = (u.activeJob?.map Job.bha).map Bha.length := fun u => by
    cases u.activeJob? <;> rfl
  rw [State.bhaLen, State.bhaLen, h.bhaIn, hlen, hlen, h.activeBha]

theorem State.BhaHeld.bhas (h : s.BhaHeld t) (hs : ∀ i j, s.job? i = Option.some j → j.BhaSound) (i : Fin 4) (x : Job)
    (hx : t.job? i = Option.some x) : x.BhaSound := by
  obtain ⟨j, hj, hp, hb⟩ := h.some hx
  have := hs i j hj
  rwa [Job.BhaSound, hp, hb] at this

/-- An operation at the same part of its course, over the same string, is as sound. -/
theorem State.OpSound.eases (h : s.OpSound o) (he : o.Eases o') (hr : s.Stands t) (hlen : t.roster.stringLen = s.roster.stringLen)
    (hb : t.bhaIn = s.bhaIn) (ha : s.active? ≠ none → t.active? ≠ none) : t.OpSound o' := by
  have hrod : ∀ {i x}, s.rod? i = some x → ∃ y, t.rod? i = some y ∧ y.place = x.place ∧ y.length = x.length
      ∧ y.inString = x.inString := fun hx => hr.symm.some hx
  refine ⟨fun hk => ?_, fun hk => ?_, fun hk => ?_, fun hk => ?_, fun hk => ?_⟩
  · obtain ⟨hin, i, x, ho, hx, hout, hroom, hat, hall⟩ := h.makeUp (he.kind ▸ hk)
    obtain ⟨y, hy, hp, hl, hs⟩ := hrod hx
    refine ⟨hb.trans hin, i, y, he.rod.trans ho, hy, hs.trans hout, by rw [hlen, hl]; exact hroom, ?_, fun k z hz hpz => ?_⟩
    · rw [he.source, hp]
      exact hat.imp_left fun ⟨hstep, hsrc⟩ => ⟨fun hs => hstep (he.torque hs), hsrc⟩
    · obtain ⟨z', hz', hpz', _⟩ := hr.some hz
      exact hall k z' hz' (hpz'.trans hpz)
  · have hk' : o.kind = .breakOut := he.kind ▸ hk
    obtain ⟨hin, i, x, ho, hx, h1, h2⟩ := h.breakOut hk'
    obtain ⟨y, hy, hp, hl, hs⟩ := hrod hx
    refine ⟨hb.trans hin, i, y, he.rod.trans ho, hy, fun hs => ?_, fun hs => ?_⟩
    · obtain ⟨hpos, hno⟩ := h1 ((he.breaks hk').symm.trans hs)
      refine ⟨by rw [hp, hpos, hr.stringCount], fun k z hz hpz => ?_⟩
      obtain ⟨z', hz', hpz', _⟩ := hr.some hz
      exact hno k z' hz' (hpz'.trans hpz)
    · exact hp.trans (h2 ((he.breaks hk').symm.trans hs))
  · obtain ⟨i, x, ho, hx, hpx⟩ := h.stow (he.kind ▸ hk)
    obtain ⟨y, hy, hp, _⟩ := hrod hx
    exact ⟨i, y, he.rod.trans ho, hy, hp.trans hpx⟩
  · obtain ⟨hact, hin⟩ := h.runBha (he.kind ▸ hk)
    exact ⟨ha hact, hb.trans hin⟩
  · obtain ⟨hin, hcount⟩ := h.pullBha (he.kind ▸ hk)
    exact ⟨hb.trans hin, hr.stringCount.trans hcount⟩

/-- The string is as sound where rods, string length and BHA stand as they stood. -/
theorem State.StringCore.of (h : s.StringCore) (hr : s.Stands t) (hlen : t.roster.stringLen = s.roster.stringLen)
    (hb : t.bhaIn = s.bhaIn) (hbl : t.bhaLen = s.bhaLen) (hbhas : ∀ i j, t.job? i = some j → j.BhaSound) : t.StringCore := by
  refine ⟨hr.rodsSound h.rods, ?_, hlen ▸ h.limit, fun hin => ?_, hbhas⟩
  · rw [hlen, hbl, hr.rodsLength, h.length]
  · rw [hr.stringCount]
    exact h.bare (hb ▸ hin)

theorem State.StringSound.of (h : s.StringSound) (hr : s.Stands t) (hlen : t.roster.stringLen = s.roster.stringLen)
    (hb : t.bhaIn = s.bhaIn) (hbl : t.bhaLen = s.bhaLen) (ha : s.active? ≠ none → t.active? ≠ none)
    (hbhas : ∀ i j, t.job? i = some j → j.BhaSound) (he : s.Eased t) : t.StringSound := by
  refine ⟨h.toStringCore.of hr hlen hb hbl hbhas, fun o' ho => ?_⟩
  obtain ⟨o, hs, hee⟩ := he o' ho
  exact (h.op o hs).eases hee hr hlen hb ha

/-- Nothing of the string changed. -/
structure State.Strung (s t : State) : Prop where
  stands : s.Stands t
  length : t.roster.stringLen = s.roster.stringLen
  bhas : s.BhaHeld t
  eased : s.Eased t

theorem State.Strung.refl (s : State) : s.Strung s := ⟨.refl s, rfl, .refl s, .refl s⟩

theorem State.Strung.trans (h : s.Strung t) (g : t.Strung u) : s.Strung u :=
  ⟨h.stands.trans g.stands, g.length.trans h.length, h.bhas.trans g.bhas, h.eased.trans g.eased⟩

theorem Frame.strung (hf : Frame ps s t) (hr : .roster ∉ ps := by simp) (hj : .jobs ∉ ps := by simp)
    (he : .engine ∉ ps := by simp) : s.Strung t :=
  ⟨hf.stands hr, by rw [(hf.kept .roster hr : t.roster = s.roster)], hf.bhaHeld hj, hf.eased he⟩

theorem State.StringSound.strung (h : s.StringSound) (hst : s.Strung t) : t.StringSound :=
  h.of hst.stands hst.length hst.bhas.bhaIn hst.bhas.bhaLen (fun ha => by rwa [hst.bhas.active?]) (hst.bhas.bhas h.bhas)
    hst.eased

end Carriers

end Sys2Proof.Machine
end

section
/-! PROOFS. The commands that leave the string as it stands: rods, string length, BHA and operation in flight. -/

namespace Sys2Proof.Machine

-- One proof at a time: proofs elaborated at once add up past the memory of the check.
set_option Elab.async false

/-! ### The operation in flight -/

section Easing

variable {s t : State} {o : Operation} {st : Station}

theorem settled_eased (s : State) : Settled [.engine] (fun t => s.Eased t) where
  depends := fun u v hag h => by
    have he : v.engine = u.engine := hag .engine (by simp)
    exact h.trans (.of_eq (by rw [he]))
  aside := by simp

theorem State.Eased.setStep {p : OpStep} {x : Option Nat} (ho : s.engine.op = some o)
    (ht : p = .awaitTorque → o.step = .awaitTorque) (hb : o.kind = .breakOut → p.breaks = o.step.breaks) :
    s.Eased (s.setStep p { o with tagReg := x }) := by
  intro o' ho'
  obtain rfl := Option.some.inj ho'
  exact ⟨o, ho, rfl, rfl, rfl, rfl, ht, hb⟩

/-- A step that waits for a station other than WRENCH is past the breaking of the joint. -/
theorem OpStep.breaks_cases (p : OpStep) : p.awaits = none ∨ p = .awaitWrench ∨ p.breaks = false := by
  cases p <;> simp [OpStep.awaits] <;> decide

/-- A grant advances the operation within the same part of its course (R60 to R64). -/
theorem State.onGrant_eased (st : Station) (s : State) : s.Eased (s.onGrant st) := by
  unfold State.onGrant
  split
  · exact .refl s
  next o ho =>
    split
    · exact .refl s
    next hst =>
      have hawaits : o.step.awaits = some st := not_not.1 hst
      have htag : o.kind ≠ .breakOut → s.Eased (s.toAwaitTag o) := fun hk =>
        .setStep ho (fun hp => by cases hp) fun h => absurd h hk
      have hstep : ∀ p : OpStep, p ≠ .awaitTorque → o.kind ≠ .breakOut → s.Eased (s.setStep p o) := fun p hp hk =>
        .setStep (x := o.tagReg) ho (fun h => absurd h hp) fun h => absurd h hk
      split
      next hk _ => exact htag (by simp [hk])
      next hk _ => exact hstep _ (by simp) (by simp [hk])
      next hk =>
        split
        next hw => exact .setStep (x := o.tagReg) ho (fun hp => by cases hp) fun _ => by rw [hw]; rfl
        next hw =>
          refine .setStep ho (fun hp => by cases hp) fun _ => ?_
          obtain hno | hwrench | hbreaks := o.step.breaks_cases
          · exact absurd (hno.symm.trans hawaits) (by simp)
          · exact absurd hwrench hw
          · rw [hbreaks]
            rfl
      next hk => exact htag (by simp [hk])
      next hk => exact hstep _ (by simp) (by simp [hk])
      next hk => exact hstep _ (by simp) (by simp [hk])

theorem State.grant_eased (st : Station) (s : State) : s.Eased (s.grant st) :=
  State.Eased.trans (t := s.passTo st) (frame_arbiter s _).eased (State.onGrant_eased st _)

theorem State.grantTest_eased (s : State) : s.Eased s.grantTest := by
  unfold State.grantTest
  split
  · split
    · exact State.grant_eased _ s
    · exact .refl s
  · exact .refl s

theorem State.endHolding_eased (s : State) : s.Eased s.endHolding := by
  unfold State.endHolding
  simp only
  split
  · exact (frame_arbiter s _).eased
  · split
    · exact State.grant_eased _ s
    · exact (frame_arbiter s _).eased

theorem State.joinSet_eased (st : Station) (s : State) : s.Eased (s.joinSet st) := by
  unfold State.joinSet
  split
  · exact .refl s
  · exact State.Eased.trans (frame_arbiter s _).eased (State.grantTest_eased _)

theorem State.engineRequest_eased (st : Station) (s : State) : s.Eased (s.engineRequest st) := by
  unfold State.engineRequest
  split
  · exact State.onGrant_eased st s
  · exact State.joinSet_eased st s

theorem State.engineRelease_eased (st : Station) (s : State) : s.Eased (s.engineRelease st) := by
  unfold State.engineRelease
  split
  · exact State.endHolding_eased s
  · exact .refl s

theorem State.stationRequest_eased (st : Station) (s : State) : s.Eased (s.stationRequest st) := by
  unfold State.stationRequest
  split
  · exact .refl s
  · exact State.joinSet_eased st s

theorem State.endOp_eased (o : Operation) (x : OpOutcome) (w : Option Station) (v : Nat) (s : State) :
    s.Eased (s.endOp o x w v) := .of_none rfl

theorem State.withdraw_eased (o : Operation) (s : State) : s.Eased (s.withdraw o) := by
  have released : ∀ u, s.Eased u → s.Eased (match o.step.holds with | some st => u.engineRelease st | none => u) := by
    intro u hu
    split
    · exact hu.trans (State.engineRelease_eased _ u)
    · exact hu
  unfold State.withdraw
  refine released _ ?_
  split
  · exact (frame_arbiter s _).eased
  · exact .refl s

theorem State.abandon_eased (o : Operation) (x : OpOutcome) (w : Option Station) (v : Nat) (s : State) :
    s.Eased (s.abandon o x w v) := (State.endOp_eased o x w v s).trans (State.withdraw_eased o _)

theorem State.stationRelease_eased (st : Station) (s : State) : s.Eased (s.stationRelease st) := by
  unfold State.stationRelease
  split
  · exact .refl s
  · split
    · split
      next o _ =>
        split
        · exact (State.endOp_eased o .faulted (some st) 0 s).trans (State.endHolding_eased _)
        · exact State.endHolding_eased s
      · exact State.endHolding_eased s
    · split
      · have hleft : s.Eased { s with arbiter := s.arbiter.put st false } := (frame_arbiter s _).eased
        simp only
        split
        · split
          · exact hleft.trans (State.endOp_eased _ _ _ _ _)
          · exact hleft
        · exact hleft
      · exact .refl s

theorem State.stillExpiry_eased (s : State) : s.Eased s.stillExpiry := by
  unfold State.stillExpiry
  split
  · refine State.Eased.trans ?_ (State.grantTest_eased _)
    exact .of_eq rfl
  · exact (frame_pumps s _).eased

theorem State.stillTick_eased (s : State) : s.Eased s.stillTick := by
  unfold State.stillTick
  split
  · exact .refl s
  · split
    · exact State.stillExpiry_eased s
    · exact (frame_pumps s _).eased

theorem State.pumpSecond_eased (s : State) : s.Eased s.pumpSecond := by
  have hticked : s.Eased (s.setPumps { s.pumps with p1 := s.pumps.p1.tick, p2 := s.pumps.p2.tick }) :=
    (frame_pumps s _).eased
  unfold State.pumpSecond
  simp only
  split
  · exact hticked.trans (frame_pumps _ _).eased
  · exact hticked.trans (State.stillTick_eased _)

theorem expiryReceiver_eased {f : State → State} (hf : f ∈ expiryReceivers) (s : State) : s.Eased (f s) := by
  simp only [expiryReceivers, List.mem_cons, List.not_mem_nil, or_false] at hf
  obtain rfl | rfl | rfl | rfl | rfl := hf
  · exact State.pumpSecond_eased s
  · exact (State.balanceSecond_frame s).eased (by simp [balanceParts])
  · exact .of_eq (State.sheetMinute_op s)
  · exact (State.mixMinute_frame s).eased (by simp [tankParts])
  · exact (State.windowMinute_frame s).eased

theorem State.takeFree_eased (s : State) : s.Eased s.takeFree := by
  unfold State.takeFree
  split
  · have hfree : s.Eased (s.setDepth { s.depth with coupled := false, held := none }).grantTest :=
      ((frame_depth s _).eased).trans (State.grantTest_eased _)
    unfold State.headFreed
    simp only
    split
    · exact hfree
    · exact hfree.trans ((State.closeForming_frame ..).eased (by simp [transitParts]))
  · exact .refl s

/-- The commands that take an operation up, and those that bring it past a part of its course. -/
def advancesOp : Instr → Bool
  | .makeUp _ | .breakOut _ | .stow _ | .runBha _ | .pullBha _ | .tag _ | .jointBroken _ => true
  | _ => false

theorem enterOperate_eased (s : State) : s.Eased s.enterOperate := (State.enterOperate_frame s).eased (by simp [operateParts])

theorem request_eased {code : Byte} {required : Nat} {cls : ReqClass} {body : Nat → List Word → State → Reply} {r : Request}
    (hx : takeRequest code required cls body r s = .next t)
    (hbody : ∀ l ws u, s.Eased u → Answers (fun v => s.Eased v) (body l ws u)) : s.Eased t :=
  (settled_eased s).of_request (fun u hu => hu.trans (enterOperate_eased u)) hbody hx (.refl s)

theorem exec_eased {c : Instr} (hc : advancesOp c = false) (hx : exec c s = .next t) : s.Eased t := by
  have hset := settled_eased s
  have hop : ∀ u : State, s.Eased u → s.Eased u.enterOperate := fun u hu => hu.trans (enterOperate_eased u)
  cases c
  case makeUp | breakOut | stow | runBha | pullBha | tag | jointBroken => cases hc
  case initialise r =>
    refine request_eased hx fun l ws u hu => serveInitialise_answers.mono ?_
    rintro v ⟨_, rfl⟩
    exact .of_none rfl
  case abortOp r =>
    refine request_eased hx fun l ws u hu => serveAbortOp_answers.mono ?_
    rintro v ⟨o, _, rfl⟩
    exact hu.trans (State.abandon_eased _ _ _ _ _)
  case request m =>
    refine hset.of_deliver (fun st _ => ?_) hx (.refl s)
    unfold takeRequestReport
    split
    · exact .of_eq rfl
    · exact (State.stationRequest_eased st s).trans (State.wake_frame _ _).eased
  case release m =>
    refine hset.of_deliver (fun st _ => ?_) hx (.refl s)
    unfold takeReleaseReport
    split
    · exact .of_eq rfl
    · exact State.stationRelease_eased st s
  case presented m =>
    refine hset.of_deliver (fun st _ => hset.of_atStep (fun o ho hstep => ?_) (.refl s)) hx (.refl s)
    exact .setStep ho (fun hp => by cases hp) fun _ => by rw [hstep]; rfl
  case stowed m =>
    refine hset.of_deliver (fun st _ => hset.of_atStep (fun o ho hstep => ?_) (.refl s)) hx (.refl s)
    exact (State.Eased.of_none (t := (s.rackOpRod o).endOp o .done none 0) rfl).trans (State.engineRelease_eased _ _)
  case torqueMade m =>
    refine hset.of_deliver (fun st _ => ?_) hx (.refl s)
    unfold takeTorqueMade
    split
    · exact hset.notFitting m 6 (.refl s)
    · split
      · exact .of_none rfl
      · exact hset.notFitting m 6 (.refl s)
  case bhaSet m =>
    refine hset.of_deliver (fun st _ => hset.of_atStep (fun o ho hstep => ?_) (.refl s)) hx (.refl s)
    exact (State.Eased.of_none (t := (s.moveBha .inString (· + ·)).endOp o .done none 0) rfl).trans
      (State.engineRelease_eased _ _)
  case bhaClear m =>
    refine hset.of_deliver (fun st _ => hset.of_atStep (fun o ho hstep => ?_) (.refl s)) hx (.refl s)
    exact (State.Eased.of_none (t := (s.moveBha .stowed (· - ·)).endOp o .done none 0) rfl).trans
      (State.engineRelease_eased _ _)
  case fault m =>
    refine hset.of_deliver (fun st _ => ?_) hx (.refl s)
    unfold takeFault
    split
    · exact hset.notFitting m 10 (.refl s)
    · split
      · exact State.abandon_eased _ _ _ _ _
      · exact hset.notFitting m 10 (.refl s)
  case free m =>
    refine hset.of_deliver (fun st _ => ?_) hx (.refl s)
    unfold takeFreeReport
    split
    · exact State.takeFree_eased s
    · exact .of_eq rfl
  case powerUp =>
    obtain rfl := Host.Outcome.next.inj hx
    exact .of_none rfl
  case secondExpiry =>
    exact hset.of_secondExpiry (by simp) (fun f hf u hu => hu.trans (expiryReceiver_eased hf u)) hx (.refl s)
  case minuteExpiry =>
    exact hset.of_minuteExpiry (by simp) (fun f hf u hu => hu.trans (expiryReceiver_eased hf u)) hx (.refl s)
  case stillExpiry =>
    obtain rfl := Host.Outcome.next.inj hx
    split
    · exact .refl s
    · exact State.stillExpiry_eased s
  all_goals exact hset.of_untouched hop (by simp [touched, reportParts, requestParts]) hx (.refl s)

end Easing

/-! ### The rods where they stand -/

section Standing

variable {s t u : State} {i : Fin 128} {r r' : Rod}

/-- Every rod where it stood, and the string length as it was. -/
structure State.Racked (s t : State) : Prop where
  stands : s.Stands t
  stringLen : t.roster.stringLen = s.roster.stringLen

theorem State.Racked.refl (s : State) : s.Racked s := ⟨.refl s, rfl⟩

theorem State.Racked.trans (h : s.Racked t) (g : t.Racked u) : s.Racked u := ⟨h.1.trans g.1, g.2.trans h.2⟩

theorem Frame.racked {ps : List Part} (hf : Frame ps s t) (hp : .roster ∉ ps := by simp) : s.Racked t :=
  ⟨hf.stands hp, by rw [(hf.kept .roster hp : t.roster = s.roster)]⟩

theorem State.Slotted.stands {o : Option Rod} (h : s.Slotted i o t) (hs : o.map Rod.standing = (s.rod? i).map Rod.standing) :
    s.Stands t := by
  intro k
  by_cases hk : k = i
  · rw [hk, h.1, hs]
  · rw [h.2 k hk]

theorem State.setRod_racked (hr : s.rod? i = some r) (hs : r'.standing = r.standing) : s.Racked (s.setRod i r') :=
  ⟨(State.setRod_slotted i r' s).stands (by rw [hr, Option.map_some, Option.map_some, hs]), rfl⟩

theorem State.regrade_stringLen (i : Fin 128) (s : State) : (s.regrade i).roster.stringLen = s.roster.stringLen := by
  unfold State.regrade
  split
  · rfl
  · simp only
    split <;> rfl

theorem State.regrade_racked (i : Fin 128) (s : State) : s.Racked (s.regrade i) := by
  refine ⟨?_, State.regrade_stringLen i s⟩
  cases hr : s.rod? i with
  | none =>
    rw [State.regrade_none hr]
    exact .refl s
  | some r => exact (State.regrade_slotted hr).stands (by rw [hr]; rfl)

theorem State.creditRod_racked (n : Nat) (s : State) (i : Fin 128) : s.Racked (s.creditRod n i) := by
  refine State.Racked.trans (t := s.modifyRod i fun r => { r with drilled := satAdd32 r.drilled n }) ?_ (State.regrade_racked ..)
  cases hr : s.rod? i with
  | none =>
    rw [State.modifyRod_none hr]
    exact .refl s
  | some r =>
    rw [State.modifyRod_some hr]
    exact State.setRod_racked hr rfl

theorem State.Racked.foldl {α : Type} {f : State → α → State} (hf : ∀ s x, State.Racked s (f s x)) (l : List α) (s : State) :
    s.Racked (l.foldl f s) := by
  induction l generalizing s with
  | nil => exact .refl s
  | cons x l ih => exact (hf s x).trans (ih _)

theorem State.regradeType_racked (k : Fin 4) (s : State) : s.Racked (s.regradeType k) := by
  unfold State.regradeType
  generalize List.finRange 128 = slots
  refine State.Racked.foldl (f := fun s i => if (s.rod? i).any (fun r => r.type == k) then s.regrade i else s) (fun s i => ?_)
    slots s
  split
  · exact State.regrade_racked i s
  · exact .refl s

theorem State.replaceType_racked (k : Fin 4) (type : RodType) (s : State) : s.Racked (s.replaceType k type) := by
  have hset : s.Racked { s with roster := { s.roster with types := s.roster.types.set k type } } := ⟨fun _ => rfl, rfl⟩
  exact (hset.trans (State.regradeType_racked k _)).trans (State.markGeometry_frame _ _).racked

theorem settled_racked (s : State) : Settled [.roster] (fun t => s.Racked t) where
  depends := fun u v hag h => by
    have hr : v.roster = u.roster := hag .roster (by simp)
    exact h.trans ⟨fun i => by rw [State.rod?, State.rod?, hr], by rw [hr]⟩
  aside := by simp

/-- The rods at CENTRE are unverified at power-up, where they stand (R48). -/
theorem Roster.doubtCentre_standing (r : Roster) (i : Fin 128) :
    (r.doubtCentre.slots[i].rod).map Rod.standing = (r.slots[i].rod).map Rod.standing := by
  simp only [Roster.doubtCentre, Fin.getElem_fin, Vector.getElem_ofFn, RodSlot.doubtCentre, Option.map_map]
  congr 1
  funext x
  simp only [Function.comp]
  split <;> rfl

theorem State.comeUp_racked (s : State) : s.Racked s.comeUp := by
  have hroster : s.comeUp.roster = s.roster.doubtCentre := rfl
  have hlen : s.roster.doubtCentre.stringLen = s.roster.stringLen := by simp only [Roster.doubtCentre]
  refine ⟨fun i => ?_, by rw [hroster, hlen]⟩
  rw [State.rod?, hroster]
  exact s.roster.doubtCentre_standing i

theorem State.deepened_racked (i : Fin 4) (j : Job) (h1 : Nat) (s : State) : s.Racked (s.deepened i j h1) := by
  have hset : s.Racked (s.setJob i { j with holeDepth := h1, bitDepth := h1 }) := (State.setJob_frame ..).racked
  have hcredit := State.Racked.foldl (fun s i => State.creditRod_racked (h1 - j.holeDepth) s i)
    (s.setJob i { j with holeDepth := h1, bitDepth := h1 }).stringRods (s.setJob i { j with holeDepth := h1, bitDepth := h1 })
  exact (hset.trans hcredit).trans (State.extendColumn_frame ..).racked

theorem State.newHole_racked (i : Fin 4) (j : Job) (h1 : Nat) (s : State) : s.Racked (s.newHole i j h1) := by
  have hdrilled : s.Racked (s.drilled i j h1) :=
    (State.deepened_racked i j h1 s).trans ((State.growForming_frame ..).racked (by simp [transitParts]))
  rw [State.newHole_eq]
  exact (hdrilled.trans (State.addFill_frame ..).racked).trans (frame_drilling _ true).racked

theorem State.testCandidate_racked (i : Fin 4) (j : Job) (d : Nat) (s : State) : s.Racked (s.testCandidate i j d) := by
  unfold State.testCandidate
  split
  · exact ((State.setJob_frame ..).racked).trans (State.dropHeld_frame _).racked
  · split
    · exact ((State.dropHeld_frame s).racked).trans (State.newHole_racked ..)
    · exact ((frame_depth s _).racked).trans (State.raise_frame ..).racked

theorem State.takeHeight_racked (reported : Int) (s : State) : s.Racked (s.takeHeight reported) := by
  have htracked : s.Racked (s.tracked reported) := (s.tracked_frame reported).racked
  obtain he | ⟨i, j, _, he⟩ := s.takeHeight_cases reported
  · rwa [he]
  · rw [he]
    exact htracked.trans (State.testCandidate_racked ..)

/-- The commands that change where a rod stands, its length, or the string length. -/
def movesRods : Instr → Bool
  | .initialise _ | .enrolRod _ | .amendRod _ | .moveRod _ | .retireRod _ | .declareStringLost _ | .tag _ | .stowed _
  | .torqueMade _ | .jointBroken _ | .bhaSet _ | .bhaClear _ => true
  | _ => false

theorem enterOperate_racked (s : State) : s.Racked s.enterOperate :=
  (State.enterOperate_frame s).racked (by simp [operateParts])

theorem request_racked {code : Byte} {required : Nat} {cls : ReqClass} {body : Nat → List Word → State → Reply} {r : Request}
    (hx : takeRequest code required cls body r s = .next t)
    (hbody : ∀ l ws u, s.Racked u → Answers (fun v => s.Racked v) (body l ws u)) : s.Racked t :=
  (settled_racked s).of_request (fun u hu => hu.trans (enterOperate_racked u)) hbody hx (.refl s)

theorem exec_racked {c : Instr} (hc : movesRods c = false) (hx : exec c s = .next t) : s.Racked t := by
  have hset := settled_racked s
  have hop : ∀ u : State, s.Racked u → s.Racked u.enterOperate := fun u hu => hu.trans (enterOperate_racked u)
  cases c
  case initialise | enrolRod | amendRod | moveRod | retireRod | declareStringLost | tag | stowed | torqueMade | jointBroken
      | bhaSet | bhaClear => cases hc
  case setRodType r =>
    refine request_racked hx fun l ws u hu => serveSetRodType_answers.mono ?_
    rintro v ⟨k, type, rfl⟩
    exact hu.trans (State.replaceType_racked k type u)
  case height m =>
    refine hset.of_deliver (fun st _ => ?_) hx (.refl s)
    unfold takeHeightReport
    split
    · exact ((State.heightWakes_frame _ s).racked).trans (State.takeHeight_racked ..)
    · exact (State.raise_frame ..).racked
  case powerUp =>
    obtain rfl := Host.Outcome.next.inj hx
    exact (State.comeUp_racked s).trans (State.raise_frame ..).racked
  all_goals exact hset.of_untouched hop (by simp [touched, reportParts, requestParts]) hx (.refl s)

end Standing

/-! ### The jobs' BHAs -/

section Bhas

variable {s t u : State} {i : Fin 4} {j : Job}

theorem bhaHeld_logKept (s : State) : LogKept s.BhaHeld := by
  refine .of_logged (fun u v hag h => ?_) fun h hl => h.trans hl.bhaHeld
  have hjobs : v.jobs = u.jobs := hag .jobs (by simp)
  exact h.trans fun k => by rw [State.job?, State.job?, hjobs]

theorem State.BhaHeld.modifyJob {f : Job → Job} (hf : ∀ j, (f j).strings = j.strings) : s.BhaHeld (s.modifyJob i f) := by
  cases hj : s.job? i with
  | none =>
    rw [State.modifyJob_none hj]
    exact .refl s
  | some j =>
    rw [State.modifyJob_some hj]
    exact .setJob hj (hf j)

theorem State.Wrote.bhaHeld {j' : Job} (h : s.Wrote i j' t) (hj : s.job? i = some j) (hs : j'.strings = j.strings) :
    s.BhaHeld t := by
  intro k
  by_cases hk : i = k
  · subst hk
    rw [h.job?, hj, Option.map_some, Option.map_some, hs]
  · rw [h.job?_other hk]

theorem State.settle_bhaHeld (i : Fin 4) (s : State) : s.BhaHeld (s.settle i) := by
  cases hj : s.job? i with
  | none =>
    rw [State.settle_none hj]
    exact .refl s
  | some j => exact State.Wrote.bhaHeld (State.settle_sheet hj) hj rfl

theorem State.bindRange_bhaHeld {c : RangeChange} {a b : Nat} (ht : s.bindRange i c a b = some t) : s.BhaHeld t := by
  obtain ⟨j, hj, _⟩ := Option.bind_eq_some_iff.1 ht
  obtain ⟨r, _, hw⟩ := State.bindRange_wrote hj ht
  refine State.Wrote.bhaHeld hw hj ?_
  rw [Job.posts_eq]
  rfl

theorem State.newHole_bhaHeld (hj : ActiveIs s i j) (h1 : Nat) : s.BhaHeld (s.newHole i j h1) := by
  have hset : s.BhaHeld (s.setJob i { j with holeDepth := h1, bitDepth := h1 }) := .setJob hj.2 rfl
  have hcredit := hset.trans (State.creditString_frame (h1 - j.holeDepth)
    (s.setJob i { j with holeDepth := h1, bitDepth := h1 })).bhaHeld
  exact (bhaHeld_logKept s).newHole_of hj (hcredit.trans (State.extendColumn_logged ..).bhaHeld)

theorem State.testCandidate_bhaHeld (hj : ActiveIs s i j) (d : Nat) : s.BhaHeld (s.testCandidate i j d) := by
  unfold State.testCandidate
  split
  · refine State.BhaHeld.trans ?_ (State.dropHeld_frame _).bhaHeld
    exact .setJob hj.2 rfl
  · split
    · exact ((State.dropHeld_frame s).bhaHeld).trans (State.newHole_bhaHeld (s := s.dropHeld) hj d)
    · exact ((frame_depth s _).bhaHeld).trans (State.raise_frame ..).bhaHeld

theorem State.takeHeight_bhaHeld (reported : Int) (s : State) : s.BhaHeld (s.takeHeight reported) := by
  have htracked : s.BhaHeld (s.tracked reported) := (s.tracked_frame reported).bhaHeld
  obtain he | ⟨i, j, hj, he⟩ := s.takeHeight_cases reported
  · rwa [he]
  · rw [he]
    exact htracked.trans (State.testCandidate_bhaHeld hj _)

/-- The commands that open, close or stage a job, or change its BHA record. -/
def movesBha : Instr → Bool
  | .initialise _ | .openJob _ | .activateJob _ | .suspendJob _ | .closeJob _ | .releaseJob _ | .setBha _
  | .declareStringLost _ | .bhaSet _ | .bhaClear _ => true
  | _ => false

theorem exec_bhaHeld {c : Instr} (hc : movesBha c = false) (hx : exec c s = .next t) : s.BhaHeld t := by
  have kept := bhaHeld_logKept s
  have hs : s.BhaHeld s := .refl s
  cases c
  case initialise | openJob | activateJob | suspendJob | closeJob | releaseJob | setBha | declareStringLost | bhaSet
      | bhaClear => cases hc
  case setRate r | setRateBands r =>
    refine kept.of_request hx (fun l ws u hu => serveSetRate_answers.mono ?_) hs
    rintro v ⟨i, j, hj, _, ⟨rates, rfl⟩ | ⟨b1, b2, hbands, hv⟩⟩
    · exact hu.trans (.setJob hj rfl)
    · rw [hv]
      have hset : u.BhaHeld (u.setJob i { j with b1 := b1, b2 := b2 }) := .setJob hj rfl
      exact (hu.trans hset).trans (rebandFootage_logged ..).bhaHeld
  case setHoleSection r =>
    refine kept.of_request hx (fun l ws u hu => serveSetHoleSection_answers.mono ?_) hs
    rintro v ⟨i, j, sections, edited, hj, rfl⟩
    refine State.BhaHeld.trans (hu.trans ?_) (State.markGeometry_frame _ _).bhaHeld
    exact .setJob hj rfl
  case clearHoleSection r =>
    refine kept.of_request hx (fun l ws u hu => serveClearHoleSection_answers.mono ?_) hs
    rintro v ⟨i, j, sections, edited, hj, rfl⟩
    refine State.BhaHeld.trans (hu.trans ?_) (State.markGeometry_frame _ _).bhaHeld
    exact .setJob hj rfl
  case declareDown r | clearDown r =>
    refine kept.of_request hx (fun l ws u hu => serveDown_answers.mono ?_) hs
    rintro v ⟨i, j, hj, rfl⟩
    exact hu.trans (.setJob hj rfl)
  case takeSample r =>
    refine kept.of_request hx (fun l ws u hu => serveTakeSample_answers.mono ?_) hs
    rintro v ⟨a, p, lith, yield, w, ha, hp, hw, rfl⟩
    exact (hu.trans (State.bindRange_bhaHeld hw)).trans (frame_transit w _).bhaHeld
  case rejectSample r =>
    refine kept.of_request hx (fun l ws u hu => serveRejectSample_answers.mono ?_) hs
    rintro v ⟨a, p, ha, hp, hv⟩
    rw [hv]
    exact (hu.trans (frame_transit u _).bhaHeld).trans (State.markRange_logged ..).bhaHeld
  case formationChange r =>
    refine kept.of_request hx (fun l ws u hu => serveFormationChange_answers.mono ?_) hs
    rintro v ⟨a, j, lith, col, ha, hcol, hv⟩
    rw [hv]
    have hset : u.BhaHeld (u.setJob a { j with column := col, declared := lith }) := .setJob ha.2 rfl
    exact kept.closeForming (hset.active?.trans ha.1) (hu.trans hset)
  case reviseInterval r =>
    refine kept.of_request hx (fun l ws u hu => serveReviseInterval_answers.mono ?_) hs
    rintro v ⟨i, j, top, bottom, lith, hj, hlt, hle, hv⟩
    exact hu.trans (State.bindRange_bhaHeld hv)
  case noteWater r =>
    refine kept.of_request hx (fun l ws u hu => serveNoteWater_answers.mono ?_) hs
    rintro v ⟨i, j, d, yield, hj, rfl⟩
    exact hu.trans (State.setColumn_logged ..).bhaHeld
  case settle r =>
    refine kept.of_request hx (fun l ws u hu => serveSettle_answers.mono ?_) hs
    rintro v ⟨i, j, _, hv⟩
    rw [hv]
    exact hu.trans (State.settle_bhaHeld i u)
  case height m =>
    refine kept.settled.of_deliver (fun st _ => ?_) hx hs
    unfold takeHeightReport
    split
    · exact ((State.heightWakes_frame _ s).bhaHeld).trans (State.takeHeight_bhaHeld _ _)
    · exact (State.raise_frame ..).bhaHeld
  all_goals exact kept.exec rfl hx hs

end Bhas

end Sys2Proof.Machine
end

section
/-! PROOFS. Rods enrolled, moved, joined and unjoined, BHAs run and pulled, and the string through every command. -/

namespace Sys2Proof.Machine

-- One proof at a time: proofs elaborated at once add up past the memory of the check.
set_option Elab.async false

/-! ### One rod moved -/

section Moves

variable {s t u : State} {i k : Fin 128} {x y : Rod} {o : Option Rod} {op op' : Operation} {st : Station}

theorem State.Slotted.stringCount (h : s.Slotted i o t) : t.stringCount + ((s.rod? i).map fun r => r.inString.toNat).getD 0
    = s.stringCount + (o.map fun r => r.inString.toNat).getD 0 := by
  rw [State.stringCount, State.stringCount, State.countRods_eq, State.countRods_eq]
  exact h.tally _

theorem State.Slotted.rodsLength (h : s.Slotted i o t) : t.rodsLength + ((s.rod? i).map Rod.strungLength).getD 0
    = s.rodsLength + (o.map Rod.strungLength).getD 0 := by
  rw [State.rodsLength_eq, State.rodsLength_eq]
  exact h.tally _

/-- No record, or one of a rod that is not in the string. -/
structure OffString (o : Option Rod) : Prop where
  out : ∀ x, o = some x → x.inString = false

theorem OffString.figures (h : OffString o) : (o.map fun r => r.inString.toNat).getD 0 = 0
    ∧ (o.map Rod.strungLength).getD 0 = 0 := by
  cases o with
  | none => exact ⟨rfl, rfl⟩
  | some x => simp [h.out x rfl, Rod.strungLength]

theorem OffString.not_position (h : OffString o) (hx : o = some x) {p : Nat} : x.place ≠ .string p := fun hp => by
  have := h.out x hx
  rw [Rod.inString, hp] at this
  cases this

/-- A rod off the string moved off the string leaves the string's figures. -/
theorem State.Slotted.off (h : s.Slotted i o t) (hs : OffString (s.rod? i)) (ho : OffString o) :
    t.stringCount = s.stringCount ∧ t.rodsLength = s.rodsLength := by
  have hc := h.stringCount
  have hl := h.rodsLength
  rw [hs.figures.1, ho.figures.1] at hc
  rw [hs.figures.2, ho.figures.2] at hl
  exact ⟨Nat.add_right_cancel hc, Nat.add_right_cancel hl⟩

theorem State.RodsSound.off (h : s.RodsSound) (hsl : s.Slotted i o t) (hs : OffString (s.rod? i)) (ho : OffString o)
    (hc : ∀ x, o = some x → x.place = .centre → ∀ k y, k ≠ i → s.rod? k = some y → y.place ≠ .centre) : t.RodsSound := by
  have hcount := (hsl.off hs ho).1
  have hold : ∀ {k x p}, t.rod? k = some x → x.place = .string p → k ≠ i ∧ s.rod? k = some x := by
    intro k x p hx hp
    have hk : k ≠ i := by
      rintro rfl
      exact ho.not_position (hsl.1.symm.trans hx) hp
    exact ⟨hk, hsl.2 k hk ▸ hx⟩
  refine ⟨fun k l x y p hx hy hp hp' => ?_, fun k l x y hx hy hp hp' => ?_, fun k x p hx hp => ?_⟩
  · exact h.position k l x y p (hold hx hp).2 (hold hy hp').2 hp hp'
  · by_cases hk : k = i <;> by_cases hl : l = i
    · rw [hk, hl]
    · exact absurd hp' (hc x (hsl.1.symm.trans (hk ▸ hx)) hp l y hl (hsl.2 l hl ▸ hy))
    · exact absurd hp (hc y (hsl.1.symm.trans (hl ▸ hy)) hp' k x hk (hsl.2 k hk ▸ hx))
    · exact h.centre k l x y (hsl.2 k hk ▸ hx) (hsl.2 l hl ▸ hy) hp hp'
  · rw [hcount]
    exact h.range k x p (hold hx hp).2 hp

/-- What an operation has found is kept where another rod moves off the string and off CENTRE. -/
theorem State.OpSound.off (h : s.OpSound op) (hsl : s.Slotted i o t) (hs : OffString (s.rod? i)) (ho : OffString o)
    (hne : op.rod = some i → s.rod? i = none) (hcentre : ∀ x, o = some x → x.place ≠ .centre)
    (hlen : t.roster.stringLen = s.roster.stringLen) (hb : t.bhaIn = s.bhaIn) (ha : t.active? = s.active?) : t.OpSound op := by
  have hcount := (hsl.off hs ho).1
  have hrod : ∀ {k x}, op.rod = some k → s.rod? k = some x → t.rod? k = some x := by
    intro k x hk hx
    have hki : k ≠ i := fun he => by
      rw [he, hne (he ▸ hk)] at hx
      cases hx
    rw [hsl.2 k hki, hx]
  have hold : ∀ {k y}, t.rod? k = some y → y.place = .centre → s.rod? k = some y := by
    intro k y hy hp
    have hki : k ≠ i := fun he => hcentre y (hsl.1.symm.trans (he ▸ hy)) hp
    exact hsl.2 k hki ▸ hy
  refine ⟨fun hk => ?_, fun hk => ?_, fun hk => ?_, fun hk => ?_, fun hk => ?_⟩
  · obtain ⟨hin, k, x, hor, hx, hout, hroom, hat, hall⟩ := h.makeUp hk
    exact ⟨hb.trans hin, k, x, hor, hrod hor hx, hout, hlen ▸ hroom, hat, fun l z hz hp => hall l z (hold hz hp) hp⟩
  · obtain ⟨hin, k, x, hor, hx, h1, h2⟩ := h.breakOut hk
    refine ⟨hb.trans hin, k, x, hor, hrod hor hx, fun hs => ?_, h2⟩
    obtain ⟨hpos, hno⟩ := h1 hs
    exact ⟨hcount ▸ hpos, fun l z hz hp => hno l z (hold hz hp) hp⟩
  · obtain ⟨k, x, hor, hx, hp⟩ := h.stow hk
    exact ⟨k, x, hor, hrod hor hx, hp⟩
  · exact ha ▸ hb ▸ h.runBha hk
  · exact hb ▸ hcount ▸ h.pullBha hk

theorem Frame.bha_eq {ps : List Part} (hf : Frame ps s t) (hp : .jobs ∉ ps := by simp) :
    t.bhaIn = s.bhaIn ∧ t.bhaLen = s.bhaLen ∧ t.active? = s.active? :=
  ⟨(hf.bhaHeld hp).bhaIn, (hf.bhaHeld hp).bhaLen, (hf.bhaHeld hp).active?⟩

theorem State.StringCore.bhas_frame {ps : List Part} (h : s.StringCore) (hf : Frame ps s t) (hp : .jobs ∉ ps := by simp) :
    ∀ i j, t.job? i = some j → j.BhaSound := (hf.bhaHeld hp).bhas h.bhas

/-- A rod off the string moved off the string, the string length as it was. -/
theorem State.StringCore.off {ps : List Part} (h : s.StringCore) (hsl : s.Slotted i o t) (hf : Frame ps s t)
    (hs : OffString (s.rod? i)) (ho : OffString o)
    (hc : ∀ x, o = some x → x.place = .centre → ∀ k y, k ≠ i → s.rod? k = some y → y.place ≠ .centre)
    (hlen : t.roster.stringLen = s.roster.stringLen) (hp : .jobs ∉ ps := by simp) : t.StringCore := by
  obtain ⟨hcount, hlength⟩ := hsl.off hs ho
  obtain ⟨hb, hbl, _⟩ := hf.bha_eq hp
  refine ⟨h.rods.off hsl hs ho hc, ?_, hlen ▸ h.limit, fun hin => ?_, h.bhas_frame hf hp⟩
  · rw [hlen, hbl, hlength, h.length]
  · rw [hcount]
    exact h.bare (hb ▸ hin)

/-- A rod of a rack place, or none, put in a slot that held such a one or none. -/
theorem State.StringSound.racked (h : s.StringSound) (hsl : s.Slotted i o t) (hf : Frame [.roster] s t)
    (hs : ∀ x, s.rod? i = some x → x.awayFromRacks = false) (ho : ∀ x, o = some x → x.awayFromRacks = false)
    (hne : s.opRod = some i → s.rod? i = none) (hlen : t.roster.stringLen = s.roster.stringLen) : t.StringSound := by
  have hoff : ∀ {o : Option Rod}, (∀ x, o = some x → x.awayFromRacks = false) → OffString o := fun h =>
    ⟨fun x hx => (Bool.or_eq_false_iff.1 (h x hx)).1⟩
  have hcentre : ∀ x, o = some x → x.place ≠ .centre := fun x hx hp => by
    have := (Bool.or_eq_false_iff.1 (ho x hx)).2
    simp [hp] at this
  have hengine : t.engine = s.engine := hf.kept .engine (by simp)
  obtain ⟨hb, _, ha⟩ := hf.bha_eq
  refine ⟨h.toStringCore.off hsl hf (hoff hs) (hoff ho) (fun x hx hp => absurd hp (hcentre x hx)) hlen, fun op hop => ?_⟩
  rw [hengine] at hop
  refine (h.op op hop).off hsl (hoff hs) (hoff ho) (fun hr => hne ?_) hcentre hlen hb ha
  rw [State.opRod, hop]
  exact hr

/-! ### A join and a break-out (R46, R47) -/

/-- A rod as its join leaves it, before it is graded anew (R46). -/
def State.joinedRod (s : State) (r : Rod) : Rod :=
  { r with
    place := .string (s.stringCount + 1), makeUps := min (r.makeUps + 1) 65535
    lastJob := s.active?.map fun a => ⟨a, s.jobs[a].gen⟩, unverified := false }

theorem State.joinRod_eq (hx : s.rod? i = some x) :
    s.joinRod i = ((s.setRod i (s.joinedRod x)).setStringLen (s.roster.stringLen + x.length)).regrade i := by
  rw [State.joinRod, hx]
  rfl

theorem State.joinRod_slotted (hx : s.rod? i = some x) : ∃ y, s.Slotted i (some y) (s.joinRod i)
    ∧ y.place = .string (s.stringCount + 1) ∧ y.length = x.length
    ∧ (s.joinRod i).roster.stringLen = s.roster.stringLen + x.length := by
  have hset : s.Slotted i (some (s.joinedRod x))
      ((s.setRod i (s.joinedRod x)).setStringLen (s.roster.stringLen + x.length)) :=
    (State.setRod_slotted i (s.joinedRod x) s).of_rods fun _ => rfl
  rw [State.joinRod_eq hx]
  refine ⟨_, hset.trans (State.regrade_slotted hset.1), rfl, rfl, ?_⟩
  rw [State.regrade_stringLen]
  rfl

theorem State.unjoinRod_slotted (hx : s.rod? i = some x) : s.Slotted i (some { x with place := .centre }) (s.unjoinRod i)
    ∧ (s.unjoinRod i).roster.stringLen = s.roster.stringLen - x.length := by
  rw [State.unjoinRod, hx]
  have hplaced : s.Slotted i (some { x with place := .centre }) (s.placeRod i .centre) :=
    State.modifyRod_slotted (f := fun r => { r with place := .centre }) hx
  exact ⟨hplaced.of_rods fun _ => rfl, rfl⟩

/-- A rod joined on top of the string (R46). -/
theorem State.StringCore.joined {ps : List Part} (h : s.StringCore) (hsl : s.Slotted i (some y) t) (hf : Frame ps s t)
    (hx : s.rod? i = some x) (hout : x.inString = false) (hp : y.place = .string (s.stringCount + 1))
    (hl : y.length = x.length) (hlen : t.roster.stringLen = s.roster.stringLen + x.length)
    (hroom : s.roster.stringLen + x.length ≤ 100000) (hin : s.bhaIn = true) (hps : .jobs ∉ ps := by simp) : t.StringCore := by
  have hcount := hsl.stringCount
  have hlength := hsl.rodsLength
  have hy : y.inString = true := Rod.inString_iff.2 ⟨_, hp⟩
  simp only [hx, Option.map_some, Option.getD_some, hout, hy, Bool.toNat_false, Bool.toNat_true, Rod.strungLength,
    Bool.false_eq_true, if_false, if_true, Nat.add_zero] at hcount hlength
  have hoff : OffString (s.rod? i) := ⟨fun z hz => Option.some.inj (hx.symm.trans hz) ▸ hout⟩
  have hold : ∀ {k z}, k ≠ i → t.rod? k = some z → s.rod? k = some z := fun hk hz => hsl.2 _ hk ▸ hz
  obtain ⟨hb, hbl, _⟩ := hf.bha_eq hps
  have hnew : ∀ {k z}, k = i → t.rod? k = some z → z = y := by
    rintro k z rfl hz
    exact (Option.some.inj (hsl.1.symm.trans hz)).symm
  refine ⟨⟨fun k l z w p hz hw hpz hpw => ?_, fun k l z w hz hw hpz hpw => ?_, fun k z p hz hpz => ?_⟩, ?_, ?_, fun hn => ?_,
    h.bhas_frame hf hps⟩
  · by_cases hk : k = i <;> by_cases hl' : l = i
    · rw [hk, hl']
    · rw [hnew hk hz, hp, RodPlace.string.injEq] at hpz
      have := (h.rods.range l w p (hold hl' hw) hpw).2
      omega
    · rw [hnew hl' hw, hp, RodPlace.string.injEq] at hpw
      have := (h.rods.range k z p (hold hk hz) hpz).2
      omega
    · exact h.rods.position k l z w p (hold hk hz) (hold hl' hw) hpz hpw
  · have hne : ∀ {m v}, t.rod? m = some v → v.place = .centre → m ≠ i := by
      rintro m v hv hpv rfl
      rw [hnew rfl hv, hp] at hpv
      cases hpv
    exact h.rods.centre k l z w (hold (hne hz hpz) hz) (hold (hne hw hpw) hw) hpz hpw
  · by_cases hk : k = i
    · rw [hnew hk hz, hp, RodPlace.string.injEq] at hpz
      omega
    · have := h.rods.range k z p (hold hk hz) hpz
      omega
  · rw [hlen, hbl, hlength, h.length, hl, Nat.add_assoc]
  · rw [hlen]
    exact hroom
  · rw [hb, hin] at hn
    cases hn

/-- The top rod broken out to CENTRE (R47). -/
theorem State.StringCore.unjoined {ps : List Part} (h : s.StringCore) (hsl : s.Slotted i (some y) t) (hf : Frame ps s t)
    (hx : s.rod? i = some x) (htop : x.place = .string s.stringCount) (hp : y.place = .centre)
    (hno : ∀ k z, s.rod? k = some z → z.place ≠ .centre) (hlen : t.roster.stringLen = s.roster.stringLen - x.length)
    (hin : s.bhaIn = true) (hps : .jobs ∉ ps := by simp) : t.StringCore := by
  have hcount := hsl.stringCount
  have hlength := hsl.rodsLength
  have hxs : x.inString = true := Rod.inString_iff.2 ⟨_, htop⟩
  have hys : y.inString = false := by rw [Rod.inString, hp]
  simp only [hx, Option.map_some, Option.getD_some, hxs, hys, Bool.toNat_false, Bool.toNat_true, Rod.strungLength,
    Bool.false_eq_true, if_false, if_true, Nat.add_zero] at hcount hlength
  have hold : ∀ {k z}, k ≠ i → t.rod? k = some z → s.rod? k = some z := fun hk hz => hsl.2 _ hk ▸ hz
  have hne : ∀ {k z p}, t.rod? k = some z → z.place = .string p → k ≠ i := by
    rintro k z p hz hpz rfl
    rw [← Option.some.inj (hsl.1.symm.trans hz), hp] at hpz
    cases hpz
  obtain ⟨hb, hbl, _⟩ := hf.bha_eq hps
  refine ⟨⟨fun k l z w p hz hw hpz hpw => ?_, fun k l z w hz hw hpz hpw => ?_, fun k z p hz hpz => ?_⟩, ?_, ?_, fun hn => ?_,
    h.bhas_frame hf hps⟩
  · exact h.rods.position k l z w p (hold (hne hz hpz) hz) (hold (hne hw hpw) hw) hpz hpw
  · have hi : ∀ {m v}, t.rod? m = some v → v.place = .centre → m = i := by
      intro m v hv hpv
      by_contra hm
      exact hno m v (hold hm hv) hpv
    rw [hi hz hpz, hi hw hpw]
  · have hk := hne hz hpz
    have hrange := h.rods.range k z p (hold hk hz) hpz
    have hother : p ≠ s.stringCount := fun he =>
      hk (h.rods.position k i z x p (hold hk hz) hx hpz (he ▸ htop))
    omega
  · have := h.length
    omega
  · have := h.limit
    omega
  · rw [hb, hin] at hn
    cases hn

end Moves

end Sys2Proof.Machine
end

section
/-! PROOFS. The string through every command. -/

namespace Sys2Proof.Machine

-- One proof at a time: proofs elaborated at once add up past the memory of the check.
set_option Elab.async false

/-! ### The job table under the string -/

section Table

variable {s t u : State} {a i k : Fin 4} {j j' x : Job}

/-- A BHA in the string is the ACTIVE job's. -/
theorem State.bhaIn_iff (h1 : s.OneActive) (hb : ∀ i j, s.job? i = some j → j.BhaSound) :
    s.bhaIn = true ↔ ∃ k j, s.job? k = some j ∧ j.bha.place = .inString := by
  constructor
  · intro hin
    cases ha : s.active? with
    | none => rw [State.bhaIn_idle ha] at hin; cases hin
    | some a =>
      obtain ⟨j, hj, _⟩ := State.active?_job ha
      rw [State.bhaIn_of hj, beq_iff_eq] at hin
      exact ⟨a, j, hj.2, hin⟩
  · rintro ⟨k, j, hj, hin⟩
    have ha := h1.active? (State.isActive_iff.2 ⟨j, hj, (hb k j hj).2 hin⟩)
    rw [State.bhaIn_of ⟨ha, hj⟩, hin]
    rfl

/-- A change of one slot whose BHA is not in the string before or after. -/
theorem State.bha_of_slot (h1 : s.OneActive) (h2 : t.OneActive) (hb : ∀ i j, s.job? i = some j → j.BhaSound)
    (hk : ∀ k, k ≠ i → (t.job? k).map Job.strings = (s.job? k).map Job.strings)
    (hs : ∀ j, s.job? i = some j → j.bha.place ≠ .inString)
    (ht : ∀ j, t.job? i = some j → j.bha.length ≤ 2000 ∧ j.bha.place ≠ .inString) :
    t.bhaIn = s.bhaIn ∧ t.bhaLen = s.bhaLen ∧ ∀ i j, t.job? i = some j → j.BhaSound := by
  have hold : ∀ {k x}, k ≠ i → t.job? k = some x → ∃ j, s.job? k = some j ∧ j.phase = x.phase ∧ j.bha = x.bha := by
    intro k x hki hx
    have hsig := hk k hki
    rw [hx] at hsig
    obtain ⟨j, hj, he⟩ := Option.map_eq_some_iff.1 hsig.symm
    exact ⟨j, hj, Prod.mk.inj he⟩
  have hnew : ∀ {k j}, k ≠ i → s.job? k = some j → ∃ x, t.job? k = some x ∧ x.phase = j.phase ∧ x.bha = j.bha := by
    intro k j hki hj
    have hsig := hk k hki
    rw [hj] at hsig
    obtain ⟨x, hx, he⟩ := Option.map_eq_some_iff.1 hsig
    exact ⟨x, hx, Prod.mk.inj he⟩
  have hbt : ∀ k x, t.job? k = some x → x.BhaSound := by
    intro k x hx
    by_cases hki : k = i
    · obtain ⟨hlen, hp⟩ := ht x (hki ▸ hx)
      exact ⟨hlen, fun hin => absurd hin hp⟩
    · obtain ⟨j, hj, hp, hbha⟩ := hold hki hx
      have := hb k j hj
      rwa [Job.BhaSound, hp, hbha] at this
  have hin : t.bhaIn = s.bhaIn := by
    rw [Bool.eq_iff_iff, State.bhaIn_iff h1 hb, State.bhaIn_iff h2 hbt]
    constructor
    · rintro ⟨k, x, hx, hp⟩
      have hki : k ≠ i := fun he => (ht x (he ▸ hx)).2 hp
      obtain ⟨j, hj, _, hbha⟩ := hold hki hx
      exact ⟨k, j, hj, by rw [hbha, hp]⟩
    · rintro ⟨k, j, hj, hp⟩
      have hki : k ≠ i := fun he => hs j (he ▸ hj) hp
      obtain ⟨x, hx, _, hbha⟩ := hnew hki hj
      exact ⟨k, x, hx, by rw [hbha, hp]⟩
  refine ⟨hin, ?_, hbt⟩
  cases hbs : s.bhaIn with
  | false => rw [State.bhaLen_out hbs, State.bhaLen_out (hin.trans hbs)]
  | true =>
    obtain ⟨k, j, hj, hp⟩ := (State.bhaIn_iff h1 hb).1 hbs
    have hki : k ≠ i := fun he => hs j (he ▸ hj) hp
    obtain ⟨x, hx, hphase, hbha⟩ := hnew hki hj
    have hact := (hb k j hj).2 hp
    have has : ActiveIs s k j := ⟨h1.active? (State.isActive_iff.2 ⟨j, hj, hact⟩), hj⟩
    have hat : ActiveIs t k x := ⟨h2.active? (State.isActive_iff.2 ⟨x, hx, hphase.trans hact⟩), hx⟩
    rw [State.bhaLen_of has hp, State.bhaLen_of hat (hbha ▸ hp), hbha]

/-- So the string stays sound, when the operation in flight keeps its ACTIVE job. -/
theorem State.StringSound.slot {ps : List Part} (h : s.StringSound) (h1 : s.OneActive) (h2 : t.OneActive)
    (hk : ∀ k, k ≠ i → (t.job? k).map Job.strings = (s.job? k).map Job.strings)
    (hs : ∀ j, s.job? i = some j → j.bha.place ≠ .inString)
    (ht : ∀ j, t.job? i = some j → j.bha.length ≤ 2000 ∧ j.bha.place ≠ .inString)
    (ha : s.engine.op = none ∨ (s.active? ≠ none → t.active? ≠ none)) (hf : Frame ps s t)
    (hr : .roster ∉ ps := by simp) (he : .engine ∉ ps := by simp) : t.StringSound := by
  obtain ⟨hb, hbl, hbt⟩ := State.bha_of_slot h1 h2 h.bhas hk hs ht
  have hlen : t.roster.stringLen = s.roster.stringLen := by rw [(hf.kept .roster hr : t.roster = s.roster)]
  refine ⟨h.toStringCore.of (hf.stands hr) hlen hb hbl hbt, fun o ho => ?_⟩
  have hengine : t.engine = s.engine := hf.kept .engine he
  rw [hengine] at ho
  obtain hidle | ha := ha
  · rw [hidle] at ho
    cases ho
  · exact (h.op o ho).eases (.refl o) (hf.stands hr) hlen hb ha

theorem State.job?_sig_other {k : Fin 4} (hk : k ≠ i) :
    ((s.setJob i j).job? k).map Job.strings = (s.job? k).map Job.strings := by
  rw [State.setJob_job?_other (Ne.symm hk)]

theorem State.setJob_only (hj : (s.setJob i j).job? i = some x) : x = j :=
  (Option.some.inj (State.setJob_job?_same.symm.trans hj)).symm

theorem active?_same (hk : ∀ k, t.isActive k = s.isActive k) : s.active? ≠ none → t.active? ≠ none := fun ha => by
  rwa [State.active?_congr hk]

theorem isActive_of_sig (h : (t.job? k).map Job.strings = (s.job? k).map Job.strings) : t.isActive k = s.isActive k := by
  have hact : ∀ v : State, v.isActive k = ((v.job? k).map Job.strings).any fun p => p.1 == .active := fun v => by
    cases hv : v.job? k <;> simp [State.isActive, hv, Job.strings]
  rw [hact, hact, h]

/-- A slot that no ACTIVE job is in, before or after. -/
theorem oneActive_of_sigs (h : s.OneActive) (hk : ∀ k, k ≠ i → (t.job? k).map Job.strings = (s.job? k).map Job.strings)
    (ht : t.isActive i = false) : t.OneActive := by
  have hact : ∀ k, t.isActive k = true → s.isActive k = true := by
    intro k hk'
    have hki : k ≠ i := fun he => by rw [he, ht] at hk'; cases hk'
    rwa [isActive_of_sig (hk k hki)] at hk'
  exact fun a b ha hb => h a b (hact a ha) (hact b hb)

/-- An inactive slot rewritten stays off the string. -/
theorem State.StringSound.inactive {ps : List Part} (h : s.StringSound) (h1 : s.OneActive)
    (hk : ∀ k, k ≠ i → (t.job? k).map Job.strings = (s.job? k).map Job.strings)
    (hs : s.isActive i = false) (hti : t.isActive i = false)
    (ht : ∀ j, t.job? i = some j → j.bha.length ≤ 2000 ∧ j.bha.place ≠ .inString) (hf : Frame ps s t)
    (hr : .roster ∉ ps := by simp) (he : .engine ∉ ps := by simp) : t.StringSound := by
  refine h.slot h1 (oneActive_of_sigs h1 hk hti) hk (fun j hj hin => ?_) ht (.inr (active?_same fun k => ?_)) hf hr he
  · rw [State.isActive_iff.2 ⟨j, hj, (h.bhas i j hj).2 hin⟩] at hs
    cases hs
  · by_cases hki : k = i
    · rw [hki, hs, hti]
    · exact isActive_of_sig (hk k hki)

theorem Job.BhaSound.out (h : j.BhaSound) (hp : j.phase ≠ .active) : j.bha.place ≠ .inString := fun hin => hp (h.2 hin)

theorem State.suspendJob_sigs (i : Fin 4) (s : State) :
    (∀ k, k ≠ i → ((s.suspendJob i).job? k).map Job.strings = (s.job? k).map Job.strings)
      ∧ ∀ x, (s.suspendJob i).job? i = some x → ∃ j, s.job? i = some j ∧ x.bha = j.bha := by
  have hheld := (State.giveUpParcels_logged i
    (s.modifyJob i fun j => { j with phase := .suspended, bitDepth := 0 }).dropHeld).bhaHeld
  constructor
  · intro k hk
    rw [State.suspendJob, hheld k]
    show ((s.modifyJob i fun j => { j with phase := .suspended, bitDepth := 0 }).job? k).map Job.strings = _
    cases hj : s.job? i with
    | none => rw [State.modifyJob_none hj]
    | some j => rw [State.modifyJob_some hj, State.job?_sig_other hk]
  · intro x hx
    obtain ⟨y, hy, _, hbha⟩ := hheld.some hx
    have hy' : (s.modifyJob i fun j => { j with phase := .suspended, bitDepth := 0 }).job? i = some y := hy
    cases hj : s.job? i with
    | none =>
      rw [State.modifyJob_none hj, hj] at hy'
      cases hy'
    | some j =>
      rw [State.modifyJob_some hj] at hy'
      obtain rfl := State.setJob_only hy'
      exact ⟨j, rfl, hbha.symm⟩

/-- A suspended job leaves no string behind (R19). -/
theorem State.StringSound.suspended (h : s.StringSound) (h1 : s.OneActive) (hsus : Suspendable s i j) :
    (s.suspendJob i).StringSound ∧ (s.suspendJob i).OneActive := by
  obtain ⟨hk, hi⟩ := State.suspendJob_sigs i s
  have hout : j.bha.place ≠ .inString := by
    have := (Bool.and_eq_true_iff.1 hsus.empty).2
    simpa using this
  have h2 := oneActive_of_sigs h1 hk (State.suspendJob_inactive i s)
  refine ⟨h.slot h1 h2 hk (fun x hx => ?_) (fun x hx => ?_) (.inl hsus.idle) (State.suspendJob_frame i s), h2⟩
  · obtain rfl := Option.some.inj (hsus.job.symm.trans hx)
    exact hout
  · obtain ⟨y, hy, hbha⟩ := hi x hx
    obtain rfl := Option.some.inj (hsus.job.symm.trans hy)
    rw [hbha]
    exact ⟨(h.bhas i j hy).1, hout⟩

/-- An inactive job closed (R20). -/
theorem State.StringSound.closed (h : s.StringSound) (h1 : s.OneActive) (hi : s.isActive i = false) :
    (s.closeJob i).StringSound := by
  have hheld := State.settle_bhaHeld i s
  have hsettled : (s.settle i).StringSound := h.strung
    ⟨(State.settle_frame i s).stands, by rw [((State.settle_frame i s).kept .roster (by simp) : (s.settle i).roster = s.roster)],
      hheld, (State.settle_frame i s).eased⟩
  have hinactive : (s.settle i).isActive i = false := (hheld.staged.isActive i).trans hi
  unfold State.closeJob
  cases hj : (s.settle i).job? i with
  | none => rwa [State.modifyJob_none hj]
  | some j =>
    rw [State.modifyJob_some hj]
    refine hsettled.inactive (oneActive_staged h1 hheld.staged) (fun k hk => State.job?_sig_other hk) hinactive
      (by simp [State.isActive]) (fun x hx => ?_) (State.setJob_frame ..)
    obtain rfl := State.setJob_only hx
    refine ⟨(hsettled.bhas i j hj).1, (hsettled.bhas i j hj).out fun hp => ?_⟩
    rw [State.isActive_iff.2 ⟨j, hj, hp⟩] at hinactive
    cases hinactive

/-- A job activated where none was (R18). -/
theorem State.StringSound.activated (h : s.StringSound) (hj : s.job? i = some j) (hnone : s.active? = none) :
    (((s.setJob i { j with phase := .active, bitDepth := 0 }).startParcels j.holeDepth).dropHeld).StringSound := by
  have hidle := State.active?_none_iff.1 hnone
  have hout : j.bha.place ≠ .inString := (h.bhas i j hj).out fun hp => by
    have := hidle i
    rw [State.isActive_iff.2 ⟨j, hj, hp⟩] at this
    cases this
  have h1 : s.OneActive := fun a b ha => by
    rw [hidle a] at ha
    cases ha
  have honly : ∀ k, (s.setJob i { j with phase := .active, bitDepth := 0 }).isActive k = true → k = i := by
    intro k hk
    by_contra hki
    rw [isActive_of_sig (State.job?_sig_other hki), hidle k] at hk
    cases hk
  have h2 : (((s.setJob i { j with phase := .active, bitDepth := 0 }).startParcels j.holeDepth).dropHeld).OneActive :=
    fun a b ha hb => (honly a ha).trans (honly b hb).symm
  refine h.slot (i := i) (ps := [.jobs, .transit, .depth]) h1 h2 (fun k hk => State.job?_sig_other hk) (fun x hx => ?_)
    (fun x hx => ?_) (.inr fun ha => absurd hnone ha) ?_
  · obtain rfl := Option.some.inj (hj.symm.trans hx)
    exact hout
  · obtain rfl := State.setJob_only hx
    exact ⟨(h.bhas i j hj).1, hout⟩
  · exact (((State.setJob_frame ..).mono (by simp)).trans ((frame_transit _ _).mono (by simp))).trans
      ((State.dropHeld_frame _).mono (by simp))

end Table

end Sys2Proof.Machine
end

section
/-! PROOFS. The rod operations over the string, the string lost, and the string through every command. -/

namespace Sys2Proof.Machine

-- One proof at a time: proofs elaborated at once add up past the memory of the check.
set_option Elab.async false

section Operations

variable {s t u : State} {a : Fin 4} {i : Fin 128} {j : Job} {x : Rod} {o : Operation} {st : Station} {p : OpStep}

/-! ### Operations taken up, advanced and ended -/

theorem State.Strung.of_centre (hf : Frame centreParts s t) (he : s.Eased t) : s.Strung t :=
  ⟨hf.stands (by simp [centreParts]), by rw [(hf.kept .roster (by simp [centreParts]) : t.roster = s.roster)],
    hf.bhaHeld (by simp [centreParts]), he⟩

theorem State.engineRequest_strung (st : Station) (s : State) : s.Strung (s.engineRequest st) :=
  .of_centre (State.engineRequest_frame st s) (State.engineRequest_eased st s)

theorem State.engineRelease_strung (st : Station) (s : State) : s.Strung (s.engineRelease st) :=
  .of_centre (State.engineRelease_frame st s) (State.engineRelease_eased st s)

/-- The string with an operation put in flight. -/
theorem State.StringCore.withOp {ps : List Part} (h : s.StringCore) (hf : Frame ps s t) (hop : t.engine.op = some o)
    (ho : s.OpSound o) (hr : .roster ∉ ps := by simp) (hj : .jobs ∉ ps := by simp) : t.StringSound := by
  have hlen : t.roster.stringLen = s.roster.stringLen := by rw [(hf.kept .roster hr : t.roster = s.roster)]
  obtain ⟨hb, hbl, ha⟩ := hf.bha_eq hj
  refine ⟨h.of (hf.stands hr) hlen hb hbl (h.bhas_frame hf hj), fun o' ho' => ?_⟩
  obtain rfl := Option.some.inj (hop.symm.trans ho')
  exact ho.eases (.refl o) (hf.stands hr) hlen hb fun hn => by rwa [ha]

theorem State.StringCore.takeUp (h : s.StringCore) (ho : s.OpSound o) : (s.takeUp o).StringSound :=
  h.withOp (frame_engine s _) rfl ho

theorem State.StringCore.setStep (h : s.StringCore) (ho : s.OpSound { o with step := p }) : (s.setStep p o).StringSound :=
  h.withOp (State.setStep_frame p o s) rfl ho (by simp [centreParts]) (by simp [centreParts])

/-- The string with no operation in flight. -/
theorem State.StringCore.idle {ps : List Part} (h : s.StringCore) (hf : Frame ps s t) (hop : t.engine.op = none)
    (hr : .roster ∉ ps := by simp) (hj : .jobs ∉ ps := by simp) : t.StringSound := by
  have hlen : t.roster.stringLen = s.roster.stringLen := by rw [(hf.kept .roster hr : t.roster = s.roster)]
  obtain ⟨hb, hbl, _⟩ := hf.bha_eq hj
  refine ⟨h.of (hf.stands hr) hlen hb hbl (h.bhas_frame hf hj), fun o' ho' => ?_⟩
  rw [hop] at ho'
  cases ho'

theorem State.StringCore.endOp (h : s.StringCore) (o : Operation) (x : OpOutcome) (w : Option Station) (v : Nat) :
    (s.endOp o x w v).StringSound := h.idle (State.endOp_frame o x w v s) rfl

/-- An operation taken up with the request for its first station. -/
theorem State.StringSound.begun (h : s.StringSound) (ho : s.OpSound o) (st : Station) :
    ((s.takeUp o).engineRequest st).StringSound :=
  (h.toStringCore.takeUp ho).strung (State.engineRequest_strung st _)

theorem State.StringCore.finished (h : s.StringCore) (o : Operation) (x : OpOutcome) (w : Option Station) (v : Nat)
    (st : Station) : ((s.endOp o x w v).engineRelease st).StringSound :=
  (h.endOp o x w v).strung (State.engineRelease_strung st _)

/-! ### What a request for an operation finds (R59 to R64) -/

/-- A rod at its source is not in the string. -/
theorem State.rodAtSource_place {src : OpSource} (h : s.rodAtSource src = some i) :
    ∃ x, s.rod? i = some x ∧ x.inString = false ∧ (src = .centre → x.place = .centre) := by
  have off : ∀ {x : Rod} {q : RodPlace}, (x.place == q) = true → (∀ n, q ≠ .string n) → x.inString = false := by
    intro x q hq hne
    rw [beq_iff_eq] at hq
    by_contra hin
    obtain ⟨n, hn⟩ := Rod.inString_iff.1 (Bool.not_eq_false _ ▸ hin)
    exact hne n (hq.symm.trans hn)
  cases src with
  | carousel slot =>
    obtain ⟨x, hx, hp⟩ := State.findRod_some h
    exact ⟨x, hx, off hp (by simp), by simp⟩
  | truck tag =>
    obtain ⟨x, hx, hp⟩ := State.findRod_some h
    exact ⟨x, hx, off (Bool.and_eq_true_iff.1 hp).1 (by simp), by simp⟩
  | centre =>
    obtain ⟨x, hx, hp⟩ := State.rodAtCentre_some h
    exact ⟨x, hx, off (q := .centre) (by simp [hp]) (by simp), fun _ => hp⟩

theorem MakeUpFound.sound {src : OpSource} (hm : MakeUpFound s a j i x src) (h : s.StringSound)
    (hp : p = .awaitTorque → src = .centre) : s.OpSound { makeUpOp i x src with step := p } := by
  obtain ⟨y, hy, hout, hcentre⟩ := State.rodAtSource_place hm.source
  obtain rfl := Option.some.inj (hm.rod.symm.trans hy)
  refine ⟨fun _ => ⟨by rw [State.bhaIn_of hm.active, hm.bha]; rfl, i, x, rfl, hy, hout, hm.room, ?_, fun k z hz hpz => ?_⟩,
    by simp [makeUpOp], by simp [makeUpOp], by simp [makeUpOp], by simp [makeUpOp]⟩
  · by_cases hsrc : src = .centre
    · exact .inr (hcentre hsrc)
    · exact .inl ⟨fun ht => hsrc (hp ht), by simpa [makeUpOp] using hsrc⟩
  · by_cases hsrc : src = .centre
    · exact h.rods.centre k i z x hz hy hpz (hcentre hsrc)
    · exact absurd hpz (State.rodAtCentre_none.1 (hm.clear hsrc) k z hz)

theorem State.StringSound.breaking (h : s.StringSound) (hi : s.rodAtPosition s.stringCount = some i) (hx : s.rod? i = some x)
    (hn : s.rodAtCentre = none) (dest : RackPlace) : s.OpSound (stowingOp .breakOut .awaitWrench i x dest) := by
  obtain ⟨y, hy, hp⟩ := State.rodAtPosition_some hi
  obtain rfl := Option.some.inj (hx.symm.trans hy)
  have hin : s.bhaIn = true := by
    by_contra hb
    have hzero := h.bare (Bool.eq_false_iff.2 hb)
    have := h.rods.range i x _ hy hp
    omega
  refine ⟨by simp [stowingOp], fun _ => ⟨hin, i, x, rfl, hx, fun _ => ⟨hp, State.rodAtCentre_none.1 hn⟩, fun hs => ?_⟩,
    by simp [stowingOp], by simp [stowingOp], by simp [stowingOp]⟩
  cases hs

theorem State.stowing (hi : s.rodAtCentre = some i) (dest : RackPlace) : s.OpSound (stowingOp .stow .awaitLoader i x dest) := by
  obtain ⟨y, hy, hp⟩ := State.rodAtCentre_some hi
  exact ⟨by simp [stowingOp], by simp [stowingOp], fun _ => ⟨i, y, rfl, hy, hp⟩, by simp [stowingOp], by simp [stowingOp]⟩

theorem State.running (ha : ActiveIs s a j) (hp : j.bha.place = .stowed) : s.OpSound (bhaOp .runBha) := by
  refine ⟨by simp [bhaOp], by simp [bhaOp], by simp [bhaOp], fun _ => ⟨by simp [ha.1], ?_⟩, by simp [bhaOp]⟩
  rw [State.bhaIn_of ha, hp]
  rfl

theorem State.pulling (ha : ActiveIs s a j) (hp : j.bha.place = .inString) (hn : s.stringCount = 0) :
    s.OpSound (bhaOp .pullBha) := by
  refine ⟨by simp [bhaOp], by simp [bhaOp], by simp [bhaOp], by simp [bhaOp], fun _ => ⟨?_, hn⟩⟩
  rw [State.bhaIn_of ha, hp]
  rfl

/-! ### Reports (R60 to R66) -/

theorem State.OpSound.of_tagReg {reg : Option Nat} (h : s.OpSound o) : s.OpSound { o with tagReg := reg } :=
  ⟨h.makeUp, h.breakOut, h.stow, h.runBha, h.pullBha⟩

theorem State.placeRod_slotted {q : RodPlace} (hx : s.rod? i = some x) :
    s.Slotted i (some { x with place := q }) (s.placeRod i q) :=
  State.modifyRod_slotted (f := fun r => { r with place := q }) hx

theorem State.placeRod_stringLen (i : Fin 128) (q : RodPlace) (s : State) :
    (s.placeRod i q).roster.stringLen = s.roster.stringLen := by
  rw [State.placeRod, State.modifyRod]
  split <;> rfl

theorem not_string_of_centre (h : x.place = .centre) : x.inString = false := by rw [Rod.inString, h]

/-- The confirmed rod of a MAKE_UP stands at CENTRE (R60). -/
theorem State.StringSound.tagMatched_makeUp (h : s.StringSound) (ho : s.OpSound o) (hk : o.kind = .makeUp) :
    (s.tagMatched o).StringSound := by
  obtain ⟨hin, i, x, hor, hx, hout, hroom, hat, hall⟩ := ho.makeUp hk
  have sound : ∀ {u : State} {y : Rod}, u.rod? i = some y → y.place = .centre → u.roster.stringLen + y.length ≤ 100000 →
      u.bhaIn = true → (∀ k z, u.rod? k = some z → z.place = .centre → k = i) → u.OpSound { o with step := .awaitTorque } := by
    intro u y hy hp hroom hin hall
    exact ⟨fun _ => ⟨hin, i, y, hor, hy, not_string_of_centre hp, hroom, .inr hp, hall⟩, by simp [hk], by simp [hk],
      by simp [hk], by simp [hk]⟩
  unfold State.tagMatched
  rw [hk, hor]
  simp only
  split
  next hsrc =>
    have hp : x.place = .centre := hat.resolve_left fun hno => hno.2 hsrc
    exact (h.toStringCore.setStep (sound hx hp hroom hin hall)).strung (State.engineRelease_strung ..)
  next hor' _ =>
    obtain rfl := Option.some.inj hor'
    have hsl : s.Slotted i (some { x with place := .centre }) (s.placeRod i .centre) := State.placeRod_slotted hx
    have hf := State.placeRod_frame i .centre s
    have hlen := State.placeRod_stringLen i .centre s
    obtain ⟨hb, _, _⟩ := hf.bha_eq (by simp [rosterParts])
    have hcore : (s.placeRod i .centre).StringCore := by
      refine h.toStringCore.off hsl hf ⟨fun z hz => Option.some.inj (hx.symm.trans hz) ▸ hout⟩ ⟨fun z hz => ?_⟩
        (fun z _ _ k y hki hy hp => hki (hall k y hy hp)) hlen (by simp [rosterParts])
      exact Option.some.inj hz ▸ rfl
    refine (hcore.setStep (sound hsl.1 rfl (by rw [hlen]; exact hroom) (hb.trans hin) fun k z hz hp => ?_)).strung
      (State.engineRelease_strung ..)
    by_contra hki
    exact hki (hall k z (hsl.2 k hki ▸ hz) hp)
  next hno _ => cases hno

/-- A confirmed rod waits for its stow (R62, R63). -/
theorem State.OpSound.stowable (h : s.OpSound o) (hb : o.kind = .breakOut → o.step.breaks = false) :
    s.OpSound { o with step := .awaitStow } :=
  h.eases ⟨rfl, rfl, rfl, rfl, fun hq => (by cases hq), fun hk => (hb hk).symm⟩ (.refl s) rfl rfl id

theorem State.StringSound.tagMatched (h : s.StringSound) (ho : s.OpSound o) (hs : o.step = .awaitTag) :
    (s.tagMatched o).StringSound := by
  have hstow : s.OpSound { o with step := .awaitStow } := ho.stowable fun _ => by rw [hs]; rfl
  cases hk : o.kind with
  | makeUp => exact h.tagMatched_makeUp ho hk
  | breakOut | stow =>
    unfold State.tagMatched
    rw [hk]
    exact h.toStringCore.setStep hstow
  | runBha | pullBha =>
    unfold State.tagMatched
    rw [hk]
    exact h

theorem State.doubtRod_racked (o : Operation) (s : State) : s.Racked (s.doubtRod o) := by
  unfold State.doubtRod
  split
  · exact .refl s
  next i _ =>
    cases hx : s.rod? i with
    | none =>
      rw [State.modifyRod_none hx]
      exact .refl s
    | some x =>
      rw [State.modifyRod_some hx]
      exact State.setRod_racked hx rfl

theorem State.StringCore.racked {ps : List Part} (h : s.StringCore) (hr : s.Racked t) (hf : Frame ps s t)
    (hj : .jobs ∉ ps := by simp) : t.StringCore := by
  obtain ⟨hb, hbl, _⟩ := hf.bha_eq hj
  exact h.of hr.1 hr.2 hb hbl (h.bhas_frame hf hj)

theorem State.StringSound.tagDiffers (h : s.StringSound) (o : Operation) (n : Nat) : (s.tagDiffers o n).StringSound := by
  have hraised : ((s.doubtRod o).raise .tagMismatch (.tags (o.expected.getD 0) n)).StringCore := by
    have hdoubt : (s.doubtRod o).StringCore :=
      h.toStringCore.racked (State.doubtRod_racked o s) (State.doubtRod_frame o s) (by simp [rosterParts])
    exact hdoubt.racked (State.raise_frame ..).racked (State.raise_frame ..)
  exact hraised.finished ..

/-- A TAG report, confirmed or not (R65, R66). -/
theorem State.StringSound.takeTag (h : s.StringSound) (ho : s.engine.op = some o) (hs : o.step = .awaitTag) (v : BitVec 32) :
    (takeTag v o s).StringSound := by
  have hop := h.op o ho
  have hreg : ∀ reg : Option Nat, (s.setStep .awaitTag { o with tagReg := reg }).StringSound := fun reg =>
    h.strung (.of_centre (State.setStep_frame ..) (State.Eased.setStep ho (fun hp => by cases hp) fun _ => by rw [hs]))
  unfold Machine.takeTag
  split_ifs
  · exact hreg none
  · exact hreg (some v.toNat)
  · exact h.tagMatched hop.of_tagReg hs
  · exact h.tagDiffers _ _

/-- A rod stowed leaves CENTRE for its rack place, and its operation ends (R45, R62, R63). -/
theorem State.StringSound.takeStowed (h : s.StringSound) (ho : s.engine.op = some o) (hfit : o.Fits s.arbiter)
    (hs : o.step = .awaitStow) : (takeStowed o s).StringSound := by
  have hcentre : ∃ i x, o.rod = some i ∧ s.rod? i = some x ∧ x.place = .centre := by
    have hstep := hfit.step
    rw [hs] at hstep
    have hk : o.kind = .breakOut ∨ o.kind = .stow := by
      cases hk : o.kind <;> simp [hk, OpKind.steps] at hstep ⊢
    obtain hk | hk := hk
    · obtain ⟨_, i, x, hor, hx, _, hp⟩ := (h.op o ho).breakOut hk
      exact ⟨i, x, hor, hx, hp (by rw [hs]; rfl)⟩
    · exact (h.op o ho).stow hk
  obtain ⟨i, x, hor, hx, hp⟩ := hcentre
  have hracked : (s.rackOpRod o).StringCore := by
    unfold State.rackOpRod
    rw [hor]
    split
    next i' q hi' _ =>
      obtain rfl := Option.some.inj hi'
      have hsl : s.Slotted i (some { x with place := q.place, unverified := false }) (s.rackRod i q) :=
        State.modifyRod_slotted (f := fun r => { r with place := q.place, unverified := false }) hx
      have hq : ∀ n, q.place ≠ .string n := by cases q <;> simp [RackPlace.place]
      have hqc : q.place ≠ .centre := by cases q <;> simp [RackPlace.place]
      refine h.toStringCore.off hsl (State.modifyRod_frame ..) ⟨fun z hz => ?_⟩ ⟨fun z hz => ?_⟩ (fun z hz hzp => ?_) ?_
        (by simp [rosterParts])
      · exact Option.some.inj (hx.symm.trans hz) ▸ not_string_of_centre hp
      · obtain rfl := Option.some.inj hz
        by_contra hin
        obtain ⟨n, hn⟩ := Rod.inString_iff.1 (Bool.not_eq_false _ ▸ hin)
        exact hq n hn
      · obtain rfl := Option.some.inj hz
        exact absurd hzp hqc
      · rw [State.rackRod, State.modifyRod_some hx]
        rfl
    · exact h.toStringCore
  exact hracked.finished ..

/-- A rod joined to the string (R46, R60). -/
theorem State.StringSound.takeTorqueMade (h : s.StringSound) (hfit : ∀ o, s.engine.op = some o → o.Fits s.arbiter) (m : Message) :
    (takeTorqueMade m st s).StringSound := by
  have hraised : (s.notFitting m 6).StringSound := h.strung (Frame.strung (State.raise_frame ..))
  unfold Machine.takeTorqueMade
  split
  · exact hraised
  next o ho =>
    split
    next hready =>
      have hk : o.kind = .makeUp := by
        have hstep := (hfit o ho).step
        rw [hready.2.1] at hstep
        cases hk : o.kind <;> simp [hk, OpKind.steps] at hstep ⊢
      obtain ⟨hin, i, x, hor, hx, hout, hroom, hat, hall⟩ := (h.op o ho).makeUp hk
      obtain ⟨y, hsl, hp, hl, hlen⟩ := State.joinRod_slotted hx
      have hjoined : (s.joinOpRod o).StringCore := by
        rw [State.joinOpRod, hor]
        exact h.toStringCore.joined hsl (State.joinRod_frame i s) hx hout hp hl hlen hroom hin (by simp [rosterParts])
      exact hjoined.endOp ..
    · exact hraised

/-- A rod broken out of the string (R47, R62). -/
theorem State.StringSound.takeJointBroken (h : s.StringSound) (ho : s.engine.op = some o) (hfit : o.Fits s.arbiter)
    (hs : o.step = .awaitBreak) : (takeJointBroken o s).StringSound := by
  have hk : o.kind = .breakOut := by
    have hstep := hfit.step
    rw [hs] at hstep
    cases hk : o.kind <;> simp [hk, OpKind.steps] at hstep ⊢
  obtain ⟨hin, i, x, hor, hx, h1, _⟩ := (h.op o ho).breakOut hk
  obtain ⟨htop, hno⟩ := h1 (by rw [hs]; rfl)
  obtain ⟨hsl, hlen⟩ := State.unjoinRod_slotted hx
  have hf := State.unjoinRod_frame i s
  have hcore : (s.unjoinOpRod o).StringCore := by
    rw [State.unjoinOpRod, hor]
    exact h.toStringCore.unjoined hsl hf hx htop rfl hno hlen hin (by simp [rosterParts])
  have hsound : (s.unjoinOpRod o).OpSound { o with step := .awaitLoader } := by
    have hrod : (s.unjoinOpRod o).rod? i = some { x with place := .centre } := by
      rw [State.unjoinOpRod, hor]
      exact hsl.1
    have hb : (s.unjoinOpRod o).bhaIn = true := by
      rw [State.unjoinOpRod, hor]
      exact (hf.bha_eq (by simp [rosterParts])).1.trans hin
    refine ⟨by simp [hk], fun _ => ⟨hb, i, _, hor, hrod, fun hb => (by cases hb), fun _ => rfl⟩, by simp [hk], by simp [hk],
      by simp [hk]⟩
  exact ((hcore.setStep hsound).strung (State.engineRequest_strung ..)).strung (State.engineRelease_strung ..)

/-! ### BHAs run and pulled (R64) -/

theorem State.rodsLength_zero (h : s.stringCount = 0) : s.rodsLength = 0 := by
  have hempty : s.strung = ∅ := Finset.card_eq_zero.1 (s.stringCount_card ▸ h)
  rw [State.rodsLength_eq, State.tallyRods_eq]
  refine Finset.sum_eq_zero fun i _ => ?_
  cases hx : s.rod? i with
  | none => rfl
  | some x =>
    have hin : x.inString = false := by
      by_contra hin
      have hmem : i ∈ s.strung := by simp [State.strung, hx, Bool.not_eq_false _ ▸ hin]
      rw [hempty] at hmem
      cases hmem
    simp [Rod.strungLength, hin]

theorem State.moveBha_eq (ha : ActiveIs s a j) (q : BhaPlace) (len : Nat → Nat → Nat) : s.moveBha q len
    = (s.setJob a { j with bha := { j.bha with place := q } }).setStringLen (len s.roster.stringLen j.bha.length) := by
  rw [State.moveBha, ha.1]
  simp only [ha.2]

/-- The ACTIVE job's BHA moved while no rod is in the string. -/
theorem State.StringCore.bhaMoved (h : s.StringCore) (ha : ActiveIs s a j) (hn : s.stringCount = 0)
    {q : BhaPlace} {len : Nat → Nat → Nat}
    (hlen : len s.roster.stringLen j.bha.length = if q = .inString then j.bha.length else 0) : (s.moveBha q len).StringCore := by
  rw [State.moveBha_eq ha]
  have hst : s.Staged (s.setJob a { j with bha := { j.bha with place := q } }) := .setJob ha.2 rfl
  have hat : ActiveIs ((s.setJob a { j with bha := { j.bha with place := q } }).setStringLen
      (len s.roster.stringLen j.bha.length)) a { j with bha := { j.bha with place := q } } :=
    ⟨hst.active?.trans ha.1, State.setJob_job?_same⟩
  have hrods : s.Stands ((s.setJob a { j with bha := { j.bha with place := q } }).setStringLen
      (len s.roster.stringLen j.bha.length)) := fun _ => rfl
  have hb := State.bhaIn_of hat
  have hbound := (h.bhas a j ha.2).1
  refine ⟨hrods.rodsSound h.rods, ?_, ?_, fun _ => hrods.stringCount.trans hn, fun k x hx => ?_⟩
  · rw [hrods.rodsLength, State.rodsLength_zero hn, Nat.add_zero]
    show len s.roster.stringLen j.bha.length = _
    by_cases hq : q = .inString
    · exact (hlen.trans (if_pos hq)).trans (State.bhaLen_of hat hq).symm
    · exact (hlen.trans (if_neg hq)).trans (State.bhaLen_out (hb.trans (by simpa using hq))).symm
  · show len s.roster.stringLen j.bha.length ≤ 100000
    rw [hlen]
    split <;> omega
  · by_cases hk : k = a
    · obtain rfl := State.setJob_only (hk ▸ hx)
      exact ⟨hbound, fun _ => ha.phase⟩
    · exact h.bhas k x ((State.setJob_job?_other (Ne.symm hk)).symm.trans hx)

theorem State.active_of_bhaIn (h : s.active? ≠ none) : ∃ a j, ActiveIs s a j := by
  obtain ⟨a, ha⟩ := Option.ne_none_iff_exists'.1 h
  obtain ⟨j, hj, _⟩ := State.active?_job ha
  exact ⟨a, j, hj⟩

theorem State.StringSound.takeBhaSet (h : s.StringSound) (ho : s.engine.op = some o)
    (hfit : o.Fits s.arbiter) (hs : o.step = .awaitSet) : (takeBhaSet o s).StringSound := by
  have hk : o.kind = .runBha := by
    have hstep := hfit.step
    rw [hs] at hstep
    cases hk : o.kind <;> simp [hk, OpKind.steps] at hstep ⊢
  obtain ⟨hact, hout⟩ := (h.op o ho).runBha hk
  obtain ⟨a, j, ha⟩ := State.active_of_bhaIn hact
  have hn := h.bare hout
  have hzero : s.roster.stringLen = 0 := by
    rw [h.length, State.bhaLen_out hout, State.rodsLength_zero hn]
  exact (h.toStringCore.bhaMoved ha hn (q := .inString) (len := (· + ·)) (by simp [hzero])).finished ..

theorem State.StringSound.takeBhaClear (h : s.StringSound) (ho : s.engine.op = some o)
    (hfit : o.Fits s.arbiter) (hs : o.step = .awaitClear) : (takeBhaClear o s).StringSound := by
  have hk : o.kind = .pullBha := by
    have hstep := hfit.step
    rw [hs] at hstep
    cases hk : o.kind <;> simp [hk, OpKind.steps] at hstep ⊢
  obtain ⟨hin, hn⟩ := (h.op o ho).pullBha hk
  have hact : s.active? ≠ none := fun hnone => by
    rw [State.bhaIn_idle hnone] at hin
    cases hin
  obtain ⟨a, j, ha⟩ := State.active_of_bhaIn hact
  have hlen : s.roster.stringLen = j.bha.length := by
    rw [State.bhaIn_of ha, beq_iff_eq] at hin
    rw [h.length, State.bhaLen_of ha hin, State.rodsLength_zero hn, Nat.add_zero]
  exact (h.toStringCore.bhaMoved ha hn (q := .stowed) (len := (· - ·)) (by simp [hlen])).finished ..

end Operations

end Sys2Proof.Machine
end

section
/-! PROOFS. The string lost, and the string through every command. -/

namespace Sys2Proof.Machine

-- One proof at a time: proofs elaborated at once add up past the memory of the check.
set_option Elab.async false

section Lost

variable {s t : State} {a : Fin 4} {i k : Fin 128} {j : Job} {x : Rod}

/-! ### The string lost (R51) -/

theorem State.loseRod_slotted (i : Fin 128) (s : State) : s.Slotted i none (s.loseRod i) :=
  State.removeRod_slotted i { s with roster := { s.roster with lost := tallyUp s.roster.lost } }

/-- Rods lost one after another leave their slots, and no other rod does. -/
theorem State.loseRods_rod? (rods : List (Fin 128)) (s : State) (k : Fin 128) :
    (rods.foldl State.loseRod s).rod? k = if k ∈ rods then none else s.rod? k := by
  induction rods generalizing s with
  | nil => simp
  | cons i rods ih =>
    have hsl := State.loseRod_slotted i s
    rw [List.foldl_cons, ih]
    by_cases hk : k ∈ rods
    · simp [hk]
    · by_cases hki : k = i
      · subst hki
        simp [hk, hsl.1]
      · simp [hk, hki, hsl.2 k hki]

theorem State.addUnsettleds_frame (a : Fin 4) (types : List (Fin 4)) (s : State) :
    Frame [.jobs, .attn] s (types.foldl (fun s t => s.addUnsettled a (rodsLostLine t) 1) s) :=
  Frame.foldl _ (fun s t => State.addUnsettled_frame a (rodsLostLine t) 1 s) types s

/-- The rods of the string leave it, and no other rod changes (R51). -/
theorem State.rodsLost_rod? (a : Fin 4) (s : State) (k : Fin 128) :
    (s.rodsLost a).rod? k = if k ∈ s.stringRods then none else s.rod? k := by
  unfold State.rodsLost
  rw [(State.addUnsettleds_frame a _ _).rod?_eq, State.loseRods_rod?]
  simp only [List.mem_reverse]

/-- The jobs' BHAs as the string's rods leave. -/
theorem State.rodsLost_bhaHeld (a : Fin 4) (s : State) : s.BhaHeld (s.rodsLost a) := by
  have hrods : s.BhaHeld (s.stringRods.reverse.foldl State.loseRod s) :=
    (Frame.foldl _ (fun s i => State.loseRod_frame s i) _ s).bhaHeld
  refine hrods.trans (State.Logged.bhaHeld ?_)
  exact .foldl (f := fun s t => s.addUnsettled a (rodsLostLine t) 1) (fun _ _ => State.addUnsettled_logged ..) _ _

/-- After the loss of the BHA no BHA is in the string, and none is longer (R51). -/
theorem State.loseBha_bhas (ha : ActiveIs s a j) (hb : ∀ i j, s.job? i = some j → j.BhaSound) (h1 : s.OneActive) (k : Fin 4) (x : Job)
    (hx : (s.loseBha a j).job? k = some x) : x.bha.length ≤ 2000 ∧ x.bha.place ≠ .inString := by
  have hother : ∀ k y, k ≠ a → s.job? k = some y → y.bha.place ≠ .inString := fun k y hk hy =>
    (hb k y hy).out fun hp => hk (h1 k a (State.isActive_iff.2 ⟨y, hy, hp⟩) (State.isActive_iff.2 ⟨j, ha.2, ha.phase⟩))
  unfold State.loseBha at hx
  split at hx
  next hin =>
    have hheld := ((State.addUnsettled_logged a bhaLostLine 1
      (s.modifyJob a fun j => { j with bha := { j.bha with place := .lost } })).bhaHeld).trans
      (State.markGeometry_frame true _).bhaHeld
    obtain ⟨y, hy, _, hbha⟩ := hheld.some hx
    rw [State.modifyJob_some ha.2] at hy
    by_cases hk : k = a
    · obtain rfl := State.setJob_only (hk ▸ hy)
      rw [← hbha]
      exact ⟨(hb a j ha.2).1, by simp⟩
    · rw [State.setJob_job?_other (Ne.symm hk)] at hy
      rw [← hbha]
      exact ⟨(hb k y hy).1, hother k y hk hy⟩
  next hout =>
    refine ⟨(hb k x hx).1, ?_⟩
    by_cases hk : k = a
    · subst hk
      obtain rfl := Option.some.inj (ha.2.symm.trans hx)
      exact hout
    · exact hother k x hk hx

theorem State.setStringLen_stringLen (n : Nat) (s : State) : (s.setStringLen n).roster.stringLen = n := rfl

/-- Nothing is left of the string (R51). -/
theorem State.StringSound.lost (h : s.StringSound) (h1 : s.OneActive) (ha : ActiveIs s a j) (hidle : s.engine.op = none) :
    (s.loseString a j).StringSound := by
  have hrodsf := State.rodsLost_frame a s
  have hheld := State.rodsLost_bhaHeld a s
  obtain ⟨j', hj', hphase, hbha⟩ : ∃ j', (s.rodsLost a).job? a = some j' ∧ j'.phase = j.phase ∧ j'.bha = j.bha := by
    have hsig := hheld a
    rw [ha.2] at hsig
    obtain ⟨j', hj', he⟩ := Option.map_eq_some_iff.1 hsig
    exact ⟨j', hj', Prod.mk.inj he⟩
  have hactive : ActiveIs (s.rodsLost a) a j' := ⟨hheld.active?.trans ha.1, hj'⟩
  have hlose : (s.rodsLost a).loseBha a j = (s.rodsLost a).loseBha a j' := by
    simp only [State.loseBha, hbha]
  have hbhas := State.loseBha_bhas hactive (hheld.bhas h.bhas) (oneActive_staged h1 hheld.staged)
  have hend : ∀ u : State, u.BhaHeld (((u.setStringLen 0).modifyJob a fun j => { j with bitDepth := 0 }).dropHeld) := by
    intro u
    refine State.BhaHeld.trans (t := (u.setStringLen 0).modifyJob a fun j => { j with bitDepth := 0 }) ?_
      (State.dropHeld_frame _).bhaHeld
    exact State.BhaHeld.trans (t := u.setStringLen 0) (fun _ => rfl) (.modifyJob fun _ => rfl)
  rw [State.loseString_eq, hlose]
  have hbend := hend ((s.rodsLost a).loseBha a j')
  generalize hu : (s.rodsLost a).loseBha a j' = u at hbhas hbend
  have huf : Frame [.roster, .jobs, .attn, .mode] s u :=
    hu ▸ (hrodsf.mono (by simp)).trans ((State.loseBha_frame a j' _).mono (by simp))
  have hout : ∀ k x, (((u.setStringLen 0).modifyJob a fun j => { j with bitDepth := 0 }).dropHeld).job? k = some x →
      x.bha.length ≤ 2000 ∧ x.bha.place ≠ .inString := by
    intro k x hx
    obtain ⟨y, hy, _, hby⟩ := hbend.some hx
    exact hby ▸ hbhas k y hy
  have hrod : ∀ k, (((u.setStringLen 0).modifyJob a fun j => { j with bitDepth := 0 }).dropHeld).rod? k
      = if k ∈ s.stringRods then none else s.rod? k := by
    intro k
    have hmod : ((u.setStringLen 0).modifyJob a fun j => { j with bitDepth := 0 }).rod? k = (u.setStringLen 0).rod? k :=
      (State.modifyJob_frame ..).rod?_eq (by simp) k
    have hlb : u.rod? k = (s.rodsLost a).rod? k := hu ▸ (State.loseBha_frame a j' _).rod?_eq (by simp) k
    rw [← State.rodsLost_rod? a s k, ← hlb]
    exact hmod
  have hroster : (((u.setStringLen 0).modifyJob a fun j => { j with bitDepth := 0 }).dropHeld).roster.stringLen = 0 := by
    have hmod : ((u.setStringLen 0).modifyJob a fun j => { j with bitDepth := 0 }).roster = (u.setStringLen 0).roster :=
      (State.modifyJob_frame ..).kept .roster (by simp)
    show ((u.setStringLen 0).modifyJob a fun j => { j with bitDepth := 0 }).roster.stringLen = 0
    rw [hmod, State.setStringLen_stringLen]
  have hengine : (((u.setStringLen 0).modifyJob a fun j => { j with bitDepth := 0 }).dropHeld).engine.op = none := by
    have hmod : ((u.setStringLen 0).modifyJob a fun j => { j with bitDepth := 0 }).engine = (u.setStringLen 0).engine :=
      (State.modifyJob_frame ..).kept .engine (by simp)
    have hue : u.engine = s.engine := huf.kept .engine (by simp)
    show ((u.setStringLen 0).modifyJob a fun j => { j with bitDepth := 0 }).engine.op = none
    rw [hmod]
    show u.engine.op = none
    rw [hue, hidle]
  generalize ((u.setStringLen 0).modifyJob a fun j => { j with bitDepth := 0 }).dropHeld = t at hout hrod hroster hengine
  have hlive : ∀ {k x}, t.rod? k = some x → s.rod? k = some x ∧ x.inString = false := by
    intro k x hx
    rw [hrod] at hx
    split at hx
    · cases hx
    next hk =>
      refine ⟨hx, ?_⟩
      by_contra hin
      exact hk (h.rods.mem_stringRods.2 ⟨x, hx, Bool.not_eq_false _ ▸ hin⟩)
  have hcount : t.stringCount = 0 := by
    rw [State.stringCount_card, Finset.card_eq_zero, State.strung, Finset.filter_eq_empty_iff]
    intro k _
    cases hx : t.rod? k with
    | none => simp
    | some x => simp [(hlive hx).2]
  have hbhaIn : t.bhaIn = false := by
    cases hact : t.active? with
    | none => exact State.bhaIn_idle hact
    | some b =>
      obtain ⟨y, hy, _⟩ := State.active?_job hact
      rw [State.bhaIn_of hy]
      simpa using (hout b y hy.2).2
  refine ⟨⟨⟨fun k l x y p hx hy hp _ => ?_, fun k l x y hx hy => h.rods.centre k l x y (hlive hx).1 (hlive hy).1,
    fun k x p hx hp => ?_⟩, ?_, by rw [hroster]; exact Nat.zero_le _, fun _ => hcount,
    fun k x hx => ⟨(hout k x hx).1, fun hin => absurd hin (hout k x hx).2⟩⟩, fun o ho => by simp [hengine] at ho⟩
  · have := (hlive hx).2
    rw [Rod.inString_iff.2 ⟨p, hp⟩] at this
    cases this
  · have := (hlive hx).2
    rw [Rod.inString_iff.2 ⟨p, hp⟩] at this
    cases this
  · rw [hroster, State.bhaLen_out hbhaIn, State.rodsLength_zero hcount]

theorem State.initialised_rod? (s : State) (k : Fin 128) : s.initialised.rod? k = none := by
  show (Vector.ofFn fun i => (s.roster.slots[i]).initialised)[k].rod = none
  rw [Fin.getElem_fin, Vector.getElem_ofFn]
  unfold RodSlot.initialised
  split
  · rfl
  next hn => simpa using hn

/-- No rod, no job and no operation: no string. -/
theorem State.stringSound_of_bare {s : State} (hrod : ∀ k, s.rod? k = none) (hjob : ∀ k, s.job? k = none)
    (hzero : s.roster.stringLen = 0) (hop : s.engine.op = none) : s.StringSound := by
  have hcount : s.stringCount = 0 := by
    rw [State.stringCount_card, Finset.card_eq_zero, State.strung, Finset.filter_eq_empty_iff]
    intro k _
    simp [hrod k]
  have hidle : s.active? = none := State.active?_none_iff.2 fun k => by simp [State.isActive, hjob k]
  refine ⟨⟨⟨fun k l x y p hx => ?_, fun k l x y hx => ?_, fun k x p hx => ?_⟩, ?_, by rw [hzero]; exact Nat.zero_le _,
    fun _ => hcount, fun k x hx => ?_⟩, fun o ho => by rw [hop] at ho; cases ho⟩
  · simp [hrod k] at hx
  · simp [hrod k] at hx
  · simp [hrod k] at hx
  · rw [hzero, State.bhaLen_out (State.bhaIn_idle hidle), State.rodsLength_zero hcount]
  · simp [hjob k] at hx

/-- No string is left by INITIALISE (R14). -/
theorem State.initialised_stringSound (s : State) : s.initialised.StringSound :=
  State.stringSound_of_bare s.initialised_rod? (initialised_job? s) rfl rfl

end Lost

/-! ### Every command -/

section Every

variable {s t : State}

theorem settled_stringSound : Settled [.jobs, .roster, .engine] State.StringSound where
  depends := fun s t hag h => by
    have hj : t.jobs = s.jobs := hag .jobs (by simp)
    have hr : t.roster = s.roster := hag .roster (by simp)
    have he : t.engine = s.engine := hag .engine (by simp)
    exact h.strung ⟨fun i => by rw [State.rod?, State.rod?, hr], by rw [hr],
      fun i => by rw [State.job?, State.job?, hj], .of_eq (by rw [he])⟩
  aside := by simp

theorem enterOperate_stringSound (h : s.StringSound) : s.enterOperate.StringSound :=
  h.strung ⟨(State.enterOperate_frame s).stands (by simp [operateParts]),
    by rw [((State.enterOperate_frame s).kept .roster (by simp [operateParts]) : s.enterOperate.roster = s.roster)],
    (State.enterOperate_logged s).bhaHeld, enterOperate_eased s⟩

/-- A request keeps the string when what its block accepts, in the state it finds, keeps it. -/
theorem request_stringSound {code : Byte} {required : Nat} {cls : ReqClass} {body : Nat → List Word → State → Reply}
    {r : Request} (hx : takeRequest code required cls body r s = .next t) (h : s.StringSound)
    (hbody : ∀ l ws u, u.StringSound → (s.OneActive → u.OneActive) → Answers State.StringSound (body l ws u)) :
    t.StringSound :=
  settled_stringSound.of_outcome (fun _ => enterOperate_stringSound)
    (takeRequest_outcome (fun l ws => hbody l ws _ (settled_stringSound.heard code r h) fun h1 => h1) hx) h

theorem State.StringSound.freed {i : Fin 4} {j : Job} (h : s.StringSound) (h1 : s.OneActive) (hj : s.job? i = some j)
    (hp : j.phase = .closed) : (s.freeJob i).StringSound := by
  refine h.inactive (ps := [.jobs]) h1 (fun k hk => by rw [State.freeJob_job?_other (Ne.symm hk)])
    (by simp [State.isActive, hj, hp]) (by simp [State.isActive, State.freeJob_job?_same]) (fun x hx => ?_) (frame_jobs s _)
  rw [State.freeJob_job?_same] at hx
  cases hx

theorem RackPlace.place_away (q : RackPlace) (r : Rod) (hr : r.place = q.place) : r.awayFromRacks = false := by
  rw [Rod.awayFromRacks, Rod.inString, hr]
  cases q <;> rfl

theorem Rod.away_congr {x y : Rod} (h : y.place = x.place) : y.awayFromRacks = x.awayFromRacks := by
  rw [Rod.awayFromRacks, Rod.awayFromRacks, Rod.inString, Rod.inString, h]

theorem exec_stringSound {c : Instr} (hx : exec c s = .next t) (h1 : s.OneActive) (hfit : ∀ o, s.engine.op = some o → o.Fits s.arbiter)
    (h : s.StringSound) : t.StringSound := by
  have hset := settled_stringSound
  cases c
  case initialise r =>
    refine request_stringSound hx h fun l ws u hu hu1 => serveInitialise_answers.mono ?_
    rintro v ⟨_, rfl⟩
    exact u.initialised_stringSound
  case openJob r =>
    refine request_stringSound hx h fun l ws u hu hu1 => serveOpenJob_answers.mono ?_
    rintro v ⟨i, number, start, diameter, rodType, b1, b2, bha, hfree, _, _, hplace, hlen, rfl⟩
    refine hu.inactive (hu1 h1) (fun k hk => State.job?_sig_other hk) (by simp [State.isActive, hfree])
      (by simp [State.isActive, Job.fresh]) (fun x hx => ?_) (State.setJob_frame ..)
    obtain rfl := State.setJob_only hx
    exact ⟨hlen, by simp [Job.fresh, hplace]⟩
  case activateJob r =>
    refine request_stringSound hx h fun l ws u hu hu1 => serveActivateJob_answers.mono ?_
    rintro v ⟨i, j, hj, _, hnone, hv⟩
    exact hv ▸ hu.activated hj hnone
  case suspendJob r =>
    refine request_stringSound hx h fun l ws u hu hu1 => serveSuspendJob_answers.mono ?_
    rintro v ⟨i, j, hsus, hv⟩
    exact hv ▸ (hu.suspended (hu1 h1) hsus).1
  case closeJob r =>
    refine request_stringSound hx h fun l ws u hu hu1 => serveCloseJob_answers.mono ?_
    rintro v ⟨i, j, ⟨hsus, hv⟩ | ⟨hj, hphase, hv⟩⟩
    · obtain ⟨hs, hs1⟩ := hu.suspended (hu1 h1) hsus
      exact hv ▸ hs.closed hs1 (State.suspendJob_inactive i u)
    · exact hv ▸ hu.closed (hu1 h1) (by simp [State.isActive, hj, hphase])
  case releaseJob r =>
    refine request_stringSound hx h fun l ws u hu hu1 => serveReleaseJob_answers.mono ?_
    rintro v ⟨i, j, hj, hp, hv⟩
    exact hv ▸ hu.freed (hu1 h1) hj hp
  case setBha r =>
    refine request_stringSound hx h fun l ws u hu hu1 => serveSetBha_answers.mono ?_
    rintro v ⟨i, j, bha, edited, hj, hout, hplace, hlen, hv⟩
    have hst : u.Staged (u.setJob i { j with bha := bha }) := .setJob hj rfl
    have hedited : (u.setJob i { j with bha := bha }).StringSound := by
      refine hu.slot (i := i) (hu1 h1) (oneActive_staged (hu1 h1) hst) (fun k hk => State.job?_sig_other hk)
        (fun x hx => ?_) (fun x hx => ?_) (.inr fun ha => by rwa [hst.active?]) (State.setJob_frame ..)
      · exact Option.some.inj (hj.symm.trans hx) ▸ hout
      · obtain rfl := State.setJob_only hx
        exact ⟨hlen, by simp [hplace]⟩
    exact hv ▸ hedited.strung (State.markGeometry_frame ..).strung
  case declareStringLost r =>
    refine request_stringSound hx h fun l ws u hu hu1 => serveDeclareStringLost_answers.mono ?_
    rintro v ⟨a, j, ha, hidle, _, hv⟩
    exact hv ▸ hu.lost (hu1 h1) ha hidle
  case enrolRod r =>
    refine request_stringSound hx h fun l ws u hu hu1 => serveEnrolRod_answers.mono ?_
    rintro v ⟨i, tag, type, length, place, hfree, _, _, rfl⟩
    refine hu.racked (State.setRod_slotted ..) (frame_roster u _) (fun x hx => by simp [hfree] at hx) (fun x hx => ?_)
      (fun _ => hfree) rfl
    exact Option.some.inj hx ▸ place.place_away _ rfl
  case amendRod r =>
    refine request_stringSound hx h fun l ws u hu hu1 => serveAmendRod_answers.mono ?_
    rintro v ⟨i, r, tag, length, hr, haway, hop, _, rfl⟩
    refine hu.racked (State.setRod_slotted ..) (frame_roster u _) (fun x hx => Option.some.inj (hr.symm.trans hx) ▸ haway)
      (fun x hx => ?_) (fun ho => absurd ho hop) rfl
    exact Option.some.inj hx ▸ (Rod.away_congr rfl).trans haway
  case moveRod r =>
    refine request_stringSound hx h fun l ws u hu hu1 => serveMoveRod_answers.mono ?_
    rintro v (rfl | ⟨i, r, place, hr, haway, hop, _, hv⟩)
    · exact hu
    · have hsl : u.Slotted i (some { r with place := place.place }) (u.placeRod i place.place) := State.placeRod_slotted hr
      have hf : Frame [.roster] u (u.placeRod i place.place) := by
        rw [State.placeRod, State.modifyRod_some hr]
        exact frame_roster u _
      refine hv ▸ hu.racked hsl hf (fun x hx => Option.some.inj (hr.symm.trans hx) ▸ haway) (fun x hx => ?_)
        (fun ho => absurd ho hop) (State.placeRod_stringLen ..)
      exact Option.some.inj hx ▸ place.place_away _ rfl
  case retireRod r =>
    refine request_stringSound hx h fun l ws u hu hu1 => serveRetireRod_answers.mono ?_
    rintro v ⟨i, r, worn, damaged, hr, haway, hop, rfl⟩
    refine hu.racked (State.removeRod_slotted i { u with roster := { u.roster with worn := worn, damaged := damaged } })
      (frame_roster u _) (fun x hx => Option.some.inj (hr.symm.trans hx) ▸ haway) (fun x hx => by cases hx)
      (fun ho => absurd ho hop) rfl
  case makeUp r =>
    refine request_stringSound hx h fun l ws u hu hu1 => serveMakeUp_answers.mono ?_
    rintro v ⟨a, j, i, r, src, hm, ⟨hsrc, hv⟩ | hv⟩
    · exact hv ▸ hu.toStringCore.takeUp (hm.sound hu fun _ => hsrc)
    · exact hv ▸ hu.begun (hm.sound (p := .awaitLoader) hu fun hp => by cases hp) .loader
  case breakOut r =>
    refine request_stringSound hx h fun l ws u hu hu1 => serveBreakOut_answers.mono ?_
    rintro v ⟨a, j, i, r, dest, _, _, hi, hr, hn, _, _, hv⟩
    exact hv ▸ hu.begun (hu.breaking hi hr hn dest) .wrench
  case stow r =>
    refine request_stringSound hx h fun l ws u hu hu1 => serveStow_answers.mono ?_
    rintro v ⟨a, j, i, r, dest, _, _, hi, _, _, hv⟩
    exact hv ▸ hu.begun (State.stowing hi dest) .loader
  case runBha r =>
    refine request_stringSound hx h fun l ws u hu hu1 => serveRunBha_answers.mono ?_
    rintro v ⟨a, j, ha, _, hp, hv⟩
    exact hv ▸ hu.begun (State.running ha hp) .tongs
  case pullBha r =>
    refine request_stringSound hx h fun l ws u hu hu1 => servePullBha_answers.mono ?_
    rintro v ⟨a, j, ha, _, hp, hn, hv⟩
    exact hv ▸ hu.begun (State.pulling ha hp hn) .tongs
  case tag m =>
    exact hset.of_deliver (fun st _ => hset.of_atStep (fun o ho hs => h.takeTag ho hs m.value) h) hx h
  case stowed m =>
    exact hset.of_deliver (fun st _ => hset.of_atStep (fun o ho hs => h.takeStowed ho (hfit o ho) hs) h) hx h
  case torqueMade m => exact hset.of_deliver (fun st _ => h.takeTorqueMade hfit m) hx h
  case jointBroken m =>
    exact hset.of_deliver (fun st _ => hset.of_atStep (fun o ho hs => h.takeJointBroken ho (hfit o ho) hs) h) hx h
  case bhaSet m =>
    exact hset.of_deliver (fun st _ => hset.of_atStep (fun o ho hs => h.takeBhaSet ho (hfit o ho) hs) h) hx h
  case bhaClear m =>
    exact hset.of_deliver (fun st _ => hset.of_atStep (fun o ho hs => h.takeBhaClear ho (hfit o ho) hs) h) hx h
  all_goals exact h.strung ⟨(exec_racked rfl hx).1, (exec_racked rfl hx).2, exec_bhaHeld rfl hx, exec_eased rfl hx⟩

end Every

/-- Settles O28: the string and the operation over it, kept by every command. -/
theorem stringInvariant : Obligations.StringInvariant := by
  intro s t hone hengine hstring hx
  have hs := State.stringSound_iff.2 hstring
  refine State.stringSound_iff.1 ?_
  unfold step at hx
  split at hx
  · exact Host.Outcome.next.inj hx ▸ hs
  next c rest _ =>
    have hqueue : Frame [.pending] s { s with pending := rest } := ⟨fun p hp => by cases p <;> first | rfl | simp at hp⟩
    exact exec_stringSound hx hone (engineOk_iff.1 hengine) (settled_stringSound.depends.frame hqueue (by simp) hs)

end Sys2Proof.Machine
end

section
/-! PROOFS. What the two resets leave, and the requests of the Mode Controller and the Attention Unit. -/

namespace Sys2Proof.Machine

-- One proof at a time: proofs elaborated at once add up past the memory of the check.
set_option Elab.async false

/-! ### An answer, as its block gives it -/

section Taken

variable {code : Byte} {required : Nat} {cls : ReqClass} {ws : List Word} {r : Request} {s t : State}
  {body : Nat → List Word → State → Reply}

/-- A request that gets through is accepted where its block accepts it (R31). -/
theorem takeRequest_accepted {status : Status} {payload : List Word} (h : Taken code required cls ws r s)
    (hb : body r.level.toNat ws (s.heard code r) = .ok ⟨status, payload, t⟩) :
    takeRequest code required cls body r s = accepted cls status payload t := by
  rw [takeRequest_taken body h, hb, reply_accept]

/-- A request that gets through is refused where its block refuses it (R31). -/
theorem takeRequest_refused {status : Status} (h : Taken code required cls ws r s)
    (hb : body r.level.toNat ws (s.heard code r) = .error status) :
    takeRequest code required cls body r s = refusedWith status (s.heard code r) := by
  rw [takeRequest_taken body h, hb, reply_refuse]

end Taken

theorem within_true {lo hi n : Nat} (h1 : lo ≤ n) (h2 : n ≤ hi) : within lo hi n = true := (within_iff ..).2 ⟨h1, h2⟩

/-! ### POWER_UP -/

/-- Settles O14: each record as its block's own power-up leaves it. -/
theorem powerUpLeaves : Obligations.PowerUpLeaves := by
  intro s
  refine ⟨s.comeUp.raise .powerUp .none, exec_powerUp s, execPowerUp_frame rfl, rfl, rfl, rfl, rfl, rfl, rfl, rfl,
    rfl, rfl, fun i => ?slots, rfl, rfl⟩
  show (Vector.ofFn fun i => (s.roster.slots[i]).doubtCentre)[i] = _
  simp [RodSlot.doubtCentre]

/-! ### INITIALISE -/

theorem State.initialised_jobSlot (i : Fin 4) (s : State) : s.initialised.jobs[i] = (s.jobs[i]).initialised :=
  Vector.getElem_ofFn i.isLt

theorem State.initialised_rodSlot (i : Fin 128) (s : State) :
    s.initialised.roster.slots[i] = (s.roster.slots[i]).initialised :=
  Vector.getElem_ofFn i.isLt

theorem State.initialised_additiveSlot (i : Fin 16) (s : State) :
    s.initialised.tanks.additives[i] = (s.tanks.additives[i]).initialised :=
  Vector.getElem_ofFn i.isLt

/-- A slot that held a job is a generation on and empty, and an empty one as it was (R29). -/
theorem JobSlot.initialised_eq (x : JobSlot) :
    x.initialised = ⟨if x.job.isSome then nextGen x.gen else x.gen, none⟩ := by
  obtain ⟨gen, _ | j⟩ := x <;> rfl

theorem RodSlot.initialised_eq (x : RodSlot) :
    x.initialised = ⟨if x.rod.isSome then nextGen x.gen else x.gen, none⟩ := by
  obtain ⟨gen, _ | r⟩ := x <;> rfl

theorem AdditiveSlot.initialised_eq (x : AdditiveSlot) :
    x.initialised = ⟨if x.item.isSome then nextGen x.gen else x.gen, none⟩ := by
  obtain ⟨gen, _ | a⟩ := x <;> rfl

/-- Settles O15: the refusal while circulation runs, and each record as its block's own initialisation leaves it. -/
theorem initialiseLeaves : Obligations.InitialiseLeaves := by
  intro r s taken
  constructor
  · intro hrun
    exact takeRequest_refused taken (if_neg hrun)
  · intro hstop
    refine ⟨(s.heard 5 r).initialised, takeRequest_accepted taken (if_pos hstop), ?frame, rfl, fun i => ?jobs,
      fun i => ?rods, rfl, rfl, rfl, rfl, rfl, fun i => ?store, rfl, rfl, rfl, rfl, rfl,
      fun k => State.initialised_attn k _⟩
    case frame =>
      exact ((State.heard_frame 5 r s).mono (by simp [touched, requestParts])).trans
        ((State.initialised_frame _).mono (by simp [touched, requestParts]))
    case jobs => exact (State.initialised_jobSlot i _).trans (JobSlot.initialised_eq _)
    case rods => exact (State.initialised_rodSlot i _).trans (RodSlot.initialised_eq _)
    case store => exact (State.initialised_additiveSlot i _).trans (AdditiveSlot.initialised_eq _)

/-! ### The Mode Controller and the Attention Unit -/

theorem within_false {lo hi n : Nat} (h : n < lo ∨ hi < n) : within lo hi n = false := by
  rw [Bool.eq_false_iff, ne_eq, within_iff]
  omega

/-- The kinds READ_ATTENTION shows are those pending from its first kind on (R187). -/
theorem pendingFrom_eq {first : Nat} (attn : Vector AttnEntry 22) (h : 1 ≤ first) :
    pendingFrom attn (first - 1)
      = ((List.finRange 22).filter fun k => attn[k].pending).filter fun k => first ≤ k.val + 1 := by
  rw [List.filter_filter, pendingFrom]
  refine List.filter_congr fun k _ => ?_
  congr 1
  exact decide_eq_decide.2 (by omega)

theorem pendingFrom_zero (attn : Vector AttnEntry 22) :
    pendingFrom attn 0 = (List.finRange 22).filter fun k => attn[k].pending := by
  simp [pendingFrom]

/-- Settles O16: each request gets through, and its block answers it by one branch. -/
theorem modeAndAttentionRequestsComplete : Obligations.ModeAndAttentionRequestsComplete := by
  intro r s
  refine ⟨fun taken => takeRequest_accepted taken rfl, fun n taken => ⟨fun hlo hhi => ?_, fun hout => ?_⟩,
    fun hi lo taken => takeRequest_accepted taken rfl, fun first taken hlo hhi => ?_, fun hi lo taken hn => ?_,
    fun hi lo taken hn => ?_⟩
  · exact takeRequest_accepted taken (if_pos (within_true hlo hhi))
  · exact takeRequest_refused taken (if_neg (by rw [within_false (by omega)]; decide))
  · refine takeRequest_accepted taken ((if_pos (within_true hlo hhi)).trans ?_)
    rw [State.attentionWords, pendingFrom_eq _ hlo, pendingFrom_zero]
    rfl
  · exact takeRequest_accepted taken (if_pos hn)
  · exact takeRequest_accepted taken (if_pos hn)

/-! ### The reset state -/

theorem State.reset_job? (i : Fin 4) : State.reset.job? i = none := by
  show (Vector.replicate 4 (⟨1, none⟩ : JobSlot))[i].job = none
  rw [Fin.getElem_fin, Vector.getElem_replicate]

theorem State.reset_rod? (i : Fin 128) : State.reset.rod? i = none := by
  show (Vector.replicate 128 (⟨1, none⟩ : RodSlot))[i].rod = none
  rw [Fin.getElem_fin, Vector.getElem_replicate]

theorem State.reset_additive? (i : Fin 16) : State.reset.additive? i = none := by
  show (Vector.replicate 16 (⟨1, none⟩ : AdditiveSlot))[i].item = none
  rw [Fin.getElem_fin, Vector.getElem_replicate]

theorem Roster.doubtCentre_reset : State.reset.roster.doubtCentre = State.reset.roster := by
  have hslots : (Vector.ofFn fun i : Fin 128 => (State.reset.roster.slots[i]).doubtCentre) = State.reset.roster.slots := by
    refine Vector.ext fun n hn => ?_
    rw [Vector.getElem_ofFn]
    show ((Vector.replicate 128 (⟨1, none⟩ : RodSlot))[n]).doubtCentre = (Vector.replicate 128 (⟨1, none⟩ : RodSlot))[n]
    rw [Vector.getElem_replicate]
    rfl
  rw [Roster.doubtCentre, hslots]

theorem State.reset_raised : (State.reset.comeUp.raise .powerUp .none).attn = State.reset.attn := by
  decide

/-- A power-up finds every reset value as it would leave it. -/
theorem State.reset_comeUp_raised : State.reset.comeUp.raise .powerUp .none = State.reset :=
  calc State.reset.comeUp.raise .powerUp .none
      = { State.reset with
          roster := State.reset.roster.doubtCentre, attn := (State.reset.comeUp.raise .powerUp .none).attn } := rfl
    _ = State.reset := by rw [Roster.doubtCentre_reset, State.reset_raised]

theorem State.reset_generationsOk : State.reset.GenerationsOk := by
  refine ⟨fun i => ?_, fun i => ?_, fun i => ?_⟩
  · show GenOk (Vector.replicate 4 (⟨1, none⟩ : JobSlot))[i].gen
    rw [Fin.getElem_fin, Vector.getElem_replicate]
    decide
  · show GenOk (Vector.replicate 128 (⟨1, none⟩ : RodSlot))[i].gen
    rw [Fin.getElem_fin, Vector.getElem_replicate]
    decide
  · show GenOk (Vector.replicate 16 (⟨1, none⟩ : AdditiveSlot))[i].gen
    rw [Fin.getElem_fin, Vector.getElem_replicate]
    decide

/-- Settles O13: with no record in any table each invariant speaks of the reset values alone. -/
theorem resetIsSound : Obligations.ResetIsSound := by
  have hidle : State.reset.active? = none :=
    State.active?_none_iff.2 fun k => by rw [State.isActive, State.reset_job?]; rfl
  have hstring := State.stringSound_of_bare State.reset_rod? State.reset_job? rfl rfl
  have hjobs : ∀ (P : Job → Bool) i, (State.reset.job? i).all P = true := fun P i => by rw [State.reset_job?]; rfl
  refine ⟨?power, ?clock, ?window, ?one, ?forming, hjobs _, State.reset_generationsOk, ?tags, ?racks, ?centre, ?engine,
    ?pumps, ?circ, State.stringSound_iff.1 hstring, ?tanks, ?store, ?depth, ?attn, ?transit, ?parcels, hjobs _, ?lith, hjobs _,
    hjobs _, hjobs _⟩
  case power => rw [exec_powerUp, State.reset_comeUp_raised]
  case clock => decide
  case window => decide
  case centre => decide
  case engine => rfl
  case pumps => decide
  case circ => decide
  case depth => decide
  case tanks => decide
  case transit => decide
  case parcels => rw [State.ParcelsOk, State.activeJob?, hidle]; rfl
  case lith => rfl
  case one =>
    intro a b ha
    rw [State.isActive, State.reset_job?] at ha
    cases ha
  case forming => exact ⟨fun _ => ⟨rfl, rfl⟩, fun hn => absurd hidle hn⟩
  case tags =>
    intro i k x y hx
    rw [State.reset_rod?] at hx
    cases hx
  case racks =>
    refine ⟨fun i k x y slot hx => ?_, fun i x slot hx => ?_⟩ <;>
    · rw [State.reset_rod?] at hx
      cases hx
  case store =>
    intro i
    rw [State.reset_additive?]
    rfl
  case attn =>
    intro k
    decide +revert

end Sys2Proof.Machine
end

section
/-! PROOFS. The well centre: how it passes, the requests and releases of the stations, and the reports of the head. -/

namespace Sys2Proof.Machine

-- One proof at a time: proofs elaborated at once add up past the memory of the check.
set_option Elab.async false

/-! ### A grant, as the engine hears of it -/

section Granted

variable {s : State} {o : Operation} {st : Station}

/-- The operation at the step that follows a grant to the station (R60 to R64). -/
def Operation.granted (st : Station) (o : Operation) : Operation :=
  if o.step.awaits = some st then
    match o.kind with
    | .makeUp =>
      if o.source = some .centre then { o with step := .awaitTag, tagReg := none } else { o with step := .awaitPresent }
    | .breakOut =>
      if o.step = .awaitWrench then { o with step := .awaitBreak } else { o with step := .awaitTag, tagReg := none }
    | .stow => { o with step := .awaitTag, tagReg := none }
    | .runBha => { o with step := .awaitSet }
    | .pullBha => { o with step := .awaitClear }
  else o

theorem State.withOp_present {op : Option Operation} (h : s.engine.op = op) :
    ({ s with engine := { s.engine with op := op } } : State) = s := by
  rw [← h]

theorem State.onGrant_awaiting (ho : s.engine.op = some o) (haw : o.step.awaits = some st) :
    s.onGrant st = { s with engine := { s.engine with op := some (o.granted st) } } := by
  obtain ⟨kind, step, rod, expected, source, dest, tagReg⟩ := o
  simp only [State.onGrant, ho, haw, ne_eq, not_true_eq_false, if_false, Operation.granted, if_true]
  cases kind
  case makeUp =>
    cases source with
    | none => rfl
    | some src => cases src <;> rfl
  case breakOut =>
    simp only
    split <;> rfl
  all_goals rfl

/-- A grant moves the operation that waits for it, and nothing else. -/
theorem State.onGrant_eq (st : Station) (s : State) :
    s.onGrant st = { s with engine := { s.engine with op := s.engine.op.map (Operation.granted st) } } := by
  cases ho : s.engine.op with
  | none =>
    rw [onGrant_unawaited (by simp [ho])]
    exact (State.withOp_present ho).symm
  | some o =>
    by_cases haw : o.step.awaits = some st
    · exact State.onGrant_awaiting ho haw
    · rw [onGrant_unawaited fun o' ho' => Option.some.inj (ho.symm.trans ho') ▸ haw]
      have hstays : o.granted st = o := if_neg haw
      rw [Option.map_some, hstays]
      exact (State.withOp_present ho).symm

end Granted

/-! ### The next station (R54) -/

section Next

variable {s : State}

theorem State.nextStation_wrench (h : s.arbiter.wrench = true) (hc : s.pumps.circ = .stopped) :
    s.nextStation = some .wrench := if_pos ⟨h, hc⟩

theorem State.nextStation_loader (h : s.arbiter.wrench = false ∨ s.pumps.circ ≠ .stopped) (hl : s.arbiter.loader = true) :
    s.nextStation = some .loader := by
  rw [State.nextStation, if_neg (by simpa [imp_iff_not_or] using h), if_pos hl]

theorem State.nextStation_tongs (h : s.arbiter.wrench = false ∨ s.pumps.circ ≠ .stopped) (hl : s.arbiter.loader = false)
    (ht : s.arbiter.tongs = true) : s.nextStation = some .tongs := by
  rw [State.nextStation, if_neg (by simpa [imp_iff_not_or] using h), if_neg (by simp [hl]), if_pos ht]

theorem State.nextStation_none (h : s.arbiter.wrench = false ∨ s.pumps.circ ≠ .stopped) (hl : s.arbiter.loader = false)
    (ht : s.arbiter.tongs = false) : s.nextStation = none := by
  rw [State.nextStation, if_neg (by simpa [imp_iff_not_or] using h), if_neg (by simp [hl]), if_neg (by simp [ht])]

theorem State.grantTest_eq (hh : s.arbiter.holder = .head) (hc : s.depth.coupled = false) :
    s.grantTest = (s.nextStation.map fun st => s.grant st).getD s := by
  rw [State.grantTest, if_pos ⟨hh, hc⟩]
  cases s.nextStation <;> rfl

theorem State.grantTest_of_not (h : ¬ (s.arbiter.holder = .head ∧ s.depth.coupled = false)) : s.grantTest = s := if_neg h

theorem State.endHolding_coupled (h : s.depth.coupled = true) :
    s.endHolding = { s with arbiter := { s.arbiter with holder := .head } } := if_pos h

theorem State.endHolding_free (h : s.depth.coupled = false) :
    s.endHolding = (s.nextStation.map fun st => s.grant st).getD { s with arbiter := { s.arbiter with holder := .head } } := by
  simp only [State.endHolding, h, Bool.false_eq_true, if_false]
  cases s.nextStation <;> rfl

end Next

/-! ### The withdrawal (R67) -/

theorem State.withdraw_of_awaits {o : Operation} {st : Station} {s : State} (h : o.step.awaits = some st) :
    s.withdraw o = { s with arbiter := s.arbiter.put st false } := by
  have hh : o.step.holds = none := by
    obtain hn | hn := o.step.awaits_or_holds
    · simp [h] at hn
    · exact hn
  simp only [State.withdraw, h, hh]

theorem State.withdraw_of_holds {o : Operation} {st : Station} {s : State} (h : o.step.holds = some st) :
    s.withdraw o = s.engineRelease st := by
  have ha : o.step.awaits = none := by
    obtain hn | hn := o.step.awaits_or_holds
    · exact hn
    · simp [h] at hn
  simp only [State.withdraw, h, ha]

theorem State.withdraw_of_neither {o : Operation} {s : State} (ha : o.step.awaits = none) (hh : o.step.holds = none) :
    s.withdraw o = s := by
  simp only [State.withdraw, ha, hh]

/-- Settles O33, by the station that is next and by what the engine hears of a grant. -/
theorem grantRule : Obligations.GrantRule := by
  intro s served passed noneEligible returned
  have hpassed : ∀ t, (∀ st, s.nextStation = some st → t = s.grant st) → passed t := by
    intro t ht
    have hgrant : ∀ st, s.nextStation = some st → t = (s.passTo st).onGrant st := ht
    refine ⟨fun hw hc => ?_, fun hw hl => ?_, fun hw hl htongs => ?_⟩
    · exact (hgrant _ (State.nextStation_wrench hw hc)).trans (State.onGrant_eq ..)
    · exact (hgrant _ (State.nextStation_loader hw hl)).trans (State.onGrant_eq ..)
    · exact (hgrant _ (State.nextStation_tongs hw hl htongs)).trans (State.onGrant_eq ..)
  have hnone : noneEligible → s.nextStation = none := fun ⟨hw, hl, ht⟩ => State.nextStation_none hw hl ht
  refine ⟨fun hh hc => hpassed _ fun st hst => ?tested, fun h => ?untested, fun hc => hpassed _ fun st hst => ?ended,
    fun h => ?returned, fun st => ⟨fun hh => ?serves, fun hh hhas => ?asked, fun hh hhas => ?joins, fun hh => if_pos hh,
    fun hh => if_neg hh⟩, fun o => ⟨fun _ _ _ => rfl, fun st => State.withdraw_of_awaits, fun st => State.withdraw_of_holds,
    State.withdraw_of_neither⟩⟩
  case tested => rw [State.grantTest_eq hh hc, hst]; rfl
  case untested =>
    by_cases hg : s.arbiter.holder = .head ∧ s.depth.coupled = false
    · have hn : noneEligible := by
        obtain h | h | h := h
        · exact absurd hg.1 h
        · simp [hg.2] at h
        · exact h
      rw [State.grantTest_eq hg.1 hg.2, hnone hn]
      rfl
    · exact State.grantTest_of_not hg
  case ended => rw [State.endHolding_free hc, hst]; rfl
  case returned =>
    obtain hc | hn := h
    · exact State.endHolding_coupled hc
    · cases hc : s.depth.coupled with
      | true => exact State.endHolding_coupled hc
      | false => rw [State.endHolding_free hc, hnone hn]; rfl
  case serves => exact (if_pos hh).trans (State.onGrant_eq ..)
  case asked => exact (if_neg hh).trans (if_pos hhas)
  case joins => exact (if_neg hh).trans (if_neg (by simp [hhas]))

/-! ### REQUEST and RELEASE -/

/-- Settles O32, station by station. -/
theorem requestAndReleaseComplete : Obligations.RequestAndReleaseComplete := by
  intro m s st
  refine ⟨fun hd => ?request, fun hd => ?release⟩
  case request =>
    have hx : exec (.request m) s = .next (takeRequestReport m st s) := deliver_good _ s hd
    rw [hx]
    refine ⟨fun hg => ?_, fun h hg => ?_, fun hhead hg hh hhas => ?_⟩
    · rw [takeRequestReport, if_pos hg]; rfl
    · have hstays : s.stationRequest st = s := by
        by_cases hp : st = .head ∨ s.arbiter.holder = st
        · exact if_pos hp
        · exact (if_neg hp).trans (if_pos ((h.resolve_left (not_or.1 hp).1).resolve_left (not_or.1 hp).2))
      rw [takeRequestReport, if_neg hg, hstays]
    · have hjoins : s.stationRequest st = ({ s with arbiter := s.arbiter.put st true } : State).grantTest :=
        (if_neg (not_or.2 ⟨hhead, hh⟩)).trans (if_neg (by simp [hhas]))
      rw [takeRequestReport, if_neg hg, hjoins]
  case release =>
    have hx : exec (.release m) s = .next (takeReleaseReport m st s) := deliver_good _ s hd
    rw [hx]
    refine ⟨fun hg => ?_, fun hhead => ?_, fun hhead hg hh hhas => ?_, fun hhead hg hh => ?_, fun hhead hg hh hhas => ?_⟩
    · rw [takeReleaseReport, if_pos hg]; rfl
    · rw [takeReleaseReport, if_neg (by rw [hhead]; decide), State.stationRelease, if_pos hhead]
    · rw [takeReleaseReport, if_neg hg, State.stationRelease, if_neg hhead, if_neg hh, if_neg (by simp [hhas])]
    · rw [takeReleaseReport, if_neg hg, State.stationRelease, if_neg hhead, if_pos hh]
      cases ho : s.engine.op with
      | none => exact ⟨fun _ => rfl, fun o hs => by cases hs⟩
      | some o =>
        refine ⟨fun hno => by simp only [if_neg (hno o rfl)], fun o' hs hheld => ?_⟩
        cases hs
        simp only [if_pos hheld]
    · rw [takeReleaseReport, if_neg hg, State.stationRelease, if_neg hhead, if_neg hh, if_pos hhas]
      cases ho : s.engine.op with
      | none => exact ⟨fun _ => rfl, fun o hs => by cases hs⟩
      | some o =>
        refine ⟨fun hno => by simp only [if_neg (hno o rfl)], fun o' hs hawaited => ?_⟩
        cases hs
        simp only [if_pos hawaited]

/-! ### COUPLED, FREE and HEIGHT -/

theorem exec_coupled_delivered {m : Message} {st : Station} {s : State} (h : Delivered 11 st m) :
    exec (.coupled m) s = .next (takeCoupledReport m st s) := deliver_good _ s h

theorem exec_free_delivered {m : Message} {st : Station} {s : State} (h : Delivered 12 st m) :
    exec (.free m) s = .next (takeFreeReport m st s) := deliver_good _ s h

theorem exec_height_delivered {m : Message} {st : Station} {s : State} (h : Delivered 13 st m) :
    exec (.height m) s = .next (takeHeightReport m st s) := deliver_good _ s h

/-- A height is clamped to 0 and to the head stroke (R73). -/
theorem State.clampHeight_eq (v : Int) (s : State) :
    s.clampHeight v = if v < 0 then 0 else min v.toNat s.depth.headStroke := by
  rw [State.clampHeight]
  split <;> omega

/-- The clamp leaves a height exactly when it lies in its range. -/
theorem State.clampHeight_eq_iff (v : Int) (s : State) :
    ((s.clampHeight v : Int) = v) ↔ ¬ (v < 0 ∨ (s.depth.headStroke : Int) < v) := by
  rw [State.clampHeight]
  omega

theorem State.tracked_eq (v : Int) (s : State) : s.tracked v =
    { (if v < 0 ∨ (s.depth.headStroke : Int) < v then s.raise .sensorRange (.sensor .head none v) else s) with
      depth := { s.depth with lastHeight := s.clampHeight v } } := by
  rw [State.tracked, if_congr (s.clampHeight_eq_iff v) rfl rfl, ite_not]
  split <;> rfl

theorem State.takeHeight_idle {v : Int} {s : State} (h : s.depth.coupled = false ∨ s.active? = none) :
    s.takeHeight v = s.tracked v := by
  rw [State.takeHeight_eq, State.tracked_depth, (s.tracked_frame v).active?_eq (by simp)]
  obtain h | h := h
  · simp [h]
  · simp [h]

theorem State.takeHeight_active {v : Int} {s : State} {a : Fin 4} {j : Job} (hc : s.depth.coupled = true) (ha : ActiveIs s a j) :
    s.takeHeight v = (s.tracked v).testCandidate a j (s.roster.stringLen - s.clampHeight v) := by
  have hroster : (s.tracked v).roster = s.roster := (s.tracked_frame v).kept .roster (by simp)
  have hactive : (s.tracked v).active? = some a := ((s.tracked_frame v).active?_eq (by simp)).trans ha.1
  have hjob : (s.tracked v).job? a = some j := ((s.tracked_frame v).job?_eq (by simp) a).trans ha.2
  simp only [State.takeHeight_eq, State.tracked_depth, hc, if_true, hactive, hjob, hroster]

theorem State.heightWakes_depth (v : Int) (s : State) : (s.heightWakes v).depth = s.depth :=
  (s.heightWakes_frame v).kept .depth (by simp)

theorem State.heightWakes_clampHeight (v : Int) (s : State) : (s.heightWakes v).clampHeight v = s.clampHeight v := by
  rw [State.clampHeight, State.heightWakes_depth]
  rfl

/-- Settles O35; a HEIGHT by what is tracked of it and whether a job is ACTIVE under a coupled head. -/
theorem depthReportsComplete : Obligations.DepthReportsComplete := by
  intro m s st discarded
  refine ⟨fun hd => ?coupled, fun hd => ?free, fun hd => ?height⟩
  case coupled =>
    rw [exec_coupled_delivered hd, takeCoupledReport]
    split <;> rfl
  case free =>
    rw [exec_free_delivered hd]
    refine ⟨fun hst => ?_, fun hst hc => ?_, fun hst hc => ?_⟩
    · rw [takeFreeReport, if_neg hst]; rfl
    · rw [takeFreeReport, if_pos hst, State.takeFree, if_neg (by simp [hc])]
    · rw [takeFreeReport, if_pos hst, State.takeFree, if_pos hc]; rfl
  case height =>
    refine ⟨fun hst => by rw [exec_height_delivered hd, takeHeightReport, if_neg hst]; rfl, fun hst => ?_⟩
    intro v h woken ranged taken
    have hclamp : s.clampHeight v = h := s.clampHeight_eq v
    have hwoken : s.heightWakes v = woken := by
      rw [State.heightWakes, hclamp, ite_not]
    have htaken : (s.heightWakes v).tracked v = taken := by
      rw [State.tracked_eq, State.heightWakes_clampHeight, State.heightWakes_depth, hclamp, hwoken]
    have hactive : (s.heightWakes v).active? = s.active? := (s.heightWakes_frame v).active?_eq (by simp)
    rw [exec_height_delivered hd, takeHeightReport, if_pos hst]
    refine ⟨fun hno => ?_, fun a j hc ha => ?_⟩
    · rw [State.takeHeight_idle (by rwa [State.heightWakes_depth, hactive]), htaken]
    · have ha' : ActiveIs (s.heightWakes v) a j := ⟨hactive.trans ha.1, ((s.heightWakes_frame v).job?_eq (by simp) a).trans ha.2⟩
      have hroster : (s.heightWakes v).roster = s.roster := (s.heightWakes_frame v).kept .roster (by simp)
      rw [State.takeHeight_active (by rwa [State.heightWakes_depth]) ha', htaken, State.heightWakes_clampHeight, hclamp,
        hroster]

end Sys2Proof.Machine
end

section
/-! PROOFS. The reports that carry a rod operation forward. -/

namespace Sys2Proof.Machine

-- One proof at a time: proofs elaborated at once add up past the memory of the check.
set_option Elab.async false

/-! ### What a join and a break-out leave (R46, R47) -/

section Joined

variable {s : State} {i : Fin 128} {x r r' : Rod}

theorem State.setRod_setRod (s : State) (i : Fin 128) (r r' : Rod) : (s.setRod i r).setRod i r' = s.setRod i r' := by
  have hslots : (s.setRod i r).roster.slots.set i { (s.setRod i r).roster.slots[i] with rod := some r' }
      = s.roster.slots.set i { s.roster.slots[i] with rod := some r' } := by simp
  rw [State.setRod, hslots]
  rfl

theorem State.setRod_handle (s : State) (i : Fin 128) (r : Rod) : (s.setRod i r).rodHandle i = s.rodHandle i := by
  simp [State.rodHandle]

theorem State.regrade_some (hr : s.rod? i = some r) : s.regrade i =
    if r.wear.code < (r.grade s.roster.types[r.type]).code then
      (s.setRod i { r with wear := r.grade s.roster.types[r.type] }).raise .rodWorn
        (.worn (s.rodHandle i) (r.grade s.roster.types[r.type]))
    else s.setRod i { r with wear := r.grade s.roster.types[r.type] } := by
  rw [State.regrade, hr]

theorem State.setStringLen_setRod (n : Nat) (s : State) :
    (s.setStringLen n).setRod i r = (s.setRod i r).setStringLen n := rfl

/-- A rod joined is graded anew in its slot, and ROD_WORN says so where its class rose (R46, R49). -/
theorem State.joinRod_graded (hx : s.rod? i = some x) :
    let graded : Rod := { s.joinedRod x with wear := (s.joinedRod x).grade s.roster.types[x.type] }
    let up : State := (s.setRod i graded).setStringLen (s.roster.stringLen + x.length)
    s.joinRod i = if x.wear.code < graded.wear.code then up.raise .rodWorn (.worn (s.rodHandle i) graded.wear) else up := by
  intro graded up
  have hrod : ((s.setRod i (s.joinedRod x)).setStringLen (s.roster.stringLen + x.length)).rod? i = some (s.joinedRod x) :=
    (State.setRod_slotted i (s.joinedRod x) s).1
  have hup : ((s.setRod i (s.joinedRod x)).setStringLen (s.roster.stringLen + x.length)).setRod i graded = up := by
    rw [State.setStringLen_setRod, State.setRod_setRod]
  have hhandle : ((s.setRod i (s.joinedRod x)).setStringLen (s.roster.stringLen + x.length)).rodHandle i = s.rodHandle i :=
    s.setRod_handle i (s.joinedRod x)
  rw [State.joinRod_eq hx, State.regrade_some hrod, hhandle, ← hup]
  rfl

theorem State.unjoinRod_eq (hx : s.rod? i = some x) :
    s.unjoinRod i = (s.setRod i { x with place := .centre }).setStringLen (s.roster.stringLen - x.length) := by
  rw [State.unjoinRod, hx, State.placeRod, State.modifyRod_some hx]

end Joined

/-! ### A report to the engine -/

section Reports

variable {s : State} {o : Operation} {m : Message} {st : Station}

/-- A report that fits neither the step nor the station of an operation in flight is discarded (R69). -/
theorem atStep_discarded {step : OpStep} {want : Station} {kind : Nat} {k : Operation → State → State}
    (h : ∀ o, s.engine.op = some o → o.step ≠ step ∨ st ≠ want) :
    atStep step want kind k m st s
      = s.raise .stationUnexpected (.unexpected m.address.toNat kind (s.engine.op.map Operation.step)) := by
  cases ho : s.engine.op with
  | none => rw [atStep, ho, State.notFitting, ho]; rfl
  | some o => rw [atStep_misfits ho (h o ho)]; rfl

theorem takeTorqueMade_fits (ho : s.engine.op = some o) (hs : o.step = .awaitTorque) (hh : s.arbiter.holder = .head) :
    takeTorqueMade m .head s = (s.joinOpRod o).endOp o .done none 0 := by
  rw [takeTorqueMade, ho]
  exact if_pos ⟨rfl, hs, hh⟩

theorem takeTorqueMade_discarded
    (h : (∀ o, s.engine.op = some o → o.step ≠ .awaitTorque ∨ st ≠ .head) ∨ s.arbiter.holder ≠ .head) :
    takeTorqueMade m st s
      = s.raise .stationUnexpected (.unexpected m.address.toNat 6 (s.engine.op.map Operation.step)) := by
  cases ho : s.engine.op with
  | none => rw [takeTorqueMade, ho, State.notFitting, ho]; rfl
  | some o =>
    have hmis : ¬ (st = .head ∧ o.step = .awaitTorque ∧ s.arbiter.holder = .head) := fun ⟨hst, hs, hh⟩ =>
      h.elim (fun h => (h o ho).elim (· hs) (· hst)) (· hh)
    rw [takeTorqueMade, ho]
    simp only [if_neg hmis, State.notFitting, ho]
    rfl

theorem takeFault_discarded (h : ∀ o, s.engine.op = some o → st ∉ o.kind.stations) :
    takeFault m st s
      = s.raise .stationUnexpected (.unexpected m.address.toNat 10 (s.engine.op.map Operation.step)) := by
  cases ho : s.engine.op with
  | none => rw [takeFault, ho, State.notFitting, ho]; rfl
  | some o =>
    rw [takeFault, ho]
    simp only [if_neg (h o ho), State.notFitting, ho]
    rfl

/-- A tag confirmed brings the rod of a MAKE_UP to CENTRE, unless it stands there, and releases LOADER (R60). -/
theorem State.tagMatched_makeUp {i : Fin 128} {src : OpSource} (hk : o.kind = .makeUp) (hi : o.rod = some i)
    (hsrc : o.source = some src) : s.tagMatched o
      = ((if src = .centre then s else s.placeRod i .centre).setStep .awaitTorque o).engineRelease .loader := by
  simp only [State.tagMatched, hk, hsrc, hi]
  cases src <;> rfl

theorem State.tagMatched_stow (hk : o.kind = .breakOut ∨ o.kind = .stow) : s.tagMatched o = s.setStep .awaitStow o := by
  obtain hk | hk := hk <;> simp only [State.tagMatched, hk]

/-- A tag confirmed that differs ends the operation, its rod unverified (R66). -/
theorem State.tagDiffers_eq {i : Fin 128} {e : Nat} (n : Nat) (hi : o.rod = some i) (he : o.expected = some e) :
    s.tagDiffers o n = (((s.modifyRod i fun x => { x with unverified := true }).raise .tagMismatch
      (.tags e n)).endOp o .mismatch none 0).engineRelease .loader := by
  have hdoubt : s.doubtRod o = s.modifyRod i fun x => { x with unverified := true } := by rw [State.doubtRod, hi]
  rw [State.tagDiffers, hdoubt, he]
  rfl

end Reports

/-- Settles O30: a report that fits by its receiver, what a join and a break-out leave by the rod's slot, and the
reports that do not fit by the one discard they share. -/
theorem engineReportsComplete : Obligations.EngineReportsComplete := by
  refine ⟨fun m s o ho => ?fits, fun s i x hx => ⟨?joined, ?unjoined⟩, fun m s st => ?misfits⟩
  case fits =>
    intro at_ done
    refine ⟨fun hd hs => ?presented, fun hd hs hv hr => ⟨fun i src he hk hi hsrc => ?matched, fun he hk => ?stows,
      fun i e he hne hi => ?differs⟩, fun i place hd hs hi hp => ?stowed, fun i hd hs hh hi => ?torque,
      fun i hd hs hi => ?broken, fun a j hd hs ha => ?bhaSet, fun a j hd hs ha => ?bhaClear, fun st hd hst => ?fault⟩
    case presented => exact (deliver_good _ s hd).trans (congrArg _ (atStep_fits ho hs))
    case matched =>
      rw [exec_tag_delivered hd, atStep_fits ho hs, takeTag_confirms hv hr, if_pos he,
        State.tagMatched_makeUp (o := { o with tagReg := none }) hk hi hsrc]
      rfl
    case stows =>
      rw [exec_tag_delivered hd, atStep_fits ho hs, takeTag_confirms hv hr, if_pos he,
        State.tagMatched_stow (o := { o with tagReg := none }) hk]
      rfl
    case differs =>
      rw [exec_tag_delivered hd, atStep_fits ho hs, takeTag_confirms hv hr,
        if_neg (by rw [he]; exact fun h => hne (Option.some.inj h))]
      exact congrArg _ (State.tagDiffers_eq (o := { o with tagReg := none }) _ hi he)
    case stowed =>
      refine (deliver_good _ s hd).trans (congrArg _ ((atStep_fits ho hs).trans ?_))
      have hrack : s.rackOpRod o = s.rackRod i place := by rw [State.rackOpRod, hi, hp]
      rw [takeStowed, hrack]
      rfl
    case torque =>
      refine (deliver_good _ s hd).trans (congrArg _ ((takeTorqueMade_fits ho hs hh).trans ?_))
      have hjoin : s.joinOpRod o = s.joinRod i := by rw [State.joinOpRod, hi]
      rw [hjoin]
    case broken =>
      refine (deliver_good _ s hd).trans (congrArg _ ((atStep_fits ho hs).trans ?_))
      have hunjoin : s.unjoinOpRod o = s.unjoinRod i := by rw [State.unjoinOpRod, hi]
      rw [takeJointBroken, hunjoin]
      rfl
    case bhaSet =>
      refine (deliver_good _ s hd).trans (congrArg _ ((atStep_fits ho hs).trans ?_))
      rw [takeBhaSet, State.moveBha_eq ha]
    case bhaClear =>
      refine (deliver_good _ s hd).trans (congrArg _ ((atStep_fits ho hs).trans ?_))
      rw [takeBhaClear, State.moveBha_eq ha]
    case fault =>
      refine (deliver_good _ s hd).trans (congrArg _ ?_)
      rw [takeFault, ho]
      exact if_pos hst
  case joined => exact State.joinRod_graded hx
  case unjoined => exact State.unjoinRod_eq hx
  case misfits =>
    intro discarded misfits
    exact ⟨fun hd h => (deliver_good _ s hd).trans (congrArg _ (atStep_discarded h)),
      fun hd h => (deliver_good _ s hd).trans (congrArg _ (atStep_discarded h)),
      fun hd h => (deliver_good _ s hd).trans (congrArg _ (atStep_discarded h)),
      fun hd h => (deliver_good _ s hd).trans (congrArg _ (takeTorqueMade_discarded h)),
      fun hd h => (deliver_good _ s hd).trans (congrArg _ (atStep_discarded h)),
      fun hd h => (deliver_good _ s hd).trans (congrArg _ (atStep_discarded h)),
      fun hd h => (deliver_good _ s hd).trans (congrArg _ (atStep_discarded h)),
      fun hd h => (deliver_good _ s hd).trans (congrArg _ (takeFault_discarded h))⟩

end Sys2Proof.Machine
end

section
/-! PROOFS. The requests on the well centre. -/

namespace Sys2Proof.Machine

-- One proof at a time: proofs elaborated at once add up past the memory of the check.
set_option Elab.async false

section Begun

variable {s : State} {o : Operation} {a : Fin 4} {j : Job}

/-- The engine's request of a station leaves the handles, so an acceptance names the rod by its own (R58). -/
theorem State.beginOp_eq (o : Operation) (st : Station) (s : State) : s.beginOp o st
    = .ok ⟨.pending, u16 o.kind.code ++ handleWord (o.rod.map s.rodHandle), (s.takeUp o).engineRequest st⟩ := by
  have hroster : ((s.takeUp o).engineRequest st).roster = s.roster :=
    (State.engineRequest_frame st (s.takeUp o)).kept .roster (by simp [centreParts])
  have hhandle : ((s.takeUp o).engineRequest st).rodHandle = s.rodHandle :=
    funext fun i => by rw [State.rodHandle, State.rodHandle, hroster]
  rw [State.beginOp, pendingOp, hhandle]

theorem serveMakeUp_found {l : Nat} {pk p1 p0 : Word} {src : OpSource} {i : Fin 128} {x : Rod} (ha : ActiveIs s a j)
    (ho : s.engine.op = none) (hsrc : opSourceOf pk p1 p0 = some src) (hb : j.bha.place = .inString)
    (hc : src ≠ .centre → s.rodAtCentre = none) (hi : s.rodAtSource src = some i) (hx : s.rod? i = some x)
    (ht : x.type = j.rodType) (hl : s.roster.stringLen + x.length ≤ 100000) (hw : x.wear = .d → l ≤ 1) :
    serveMakeUp l [pk, p1, p0] s = s.acceptMakeUp i x src := by
  have hfree : ¬(src ≠ .centre ∧ s.rodAtCentre.isSome = true) := fun ⟨h1, h2⟩ => by simp [hc h1] at h2
  have hrefusal : s.makeUpRefusal l j x = none := by
    rw [State.makeUpRefusal, if_neg (not_not.2 ht), if_neg (by omega), if_neg (fun h => absurd (hw h.1) (by omega))]
  simp only [serveMakeUp, hsrc, withIdleJob_active _ ha ho, hb, ne_eq, not_true_eq_false, if_false, if_neg hfree, hi, hx,
    hrefusal]

theorem serveBreakOut_found {l : Nat} {pk p1 p0 : Word} {dest : RackPlace} {i : Fin 128} {x : Rod} (ha : ActiveIs s a j)
    (ho : s.engine.op = none) (hd : rackPlaceOf pk p1 p0 = some dest) (hi : s.rodAtPosition s.stringCount = some i)
    (hx : s.rod? i = some x) (hc : s.rodAtCentre = none) (hf : s.rackFree dest = true) (hp : s.pumps.circ = .stopped) :
    serveBreakOut l [pk, p1, p0] s = s.beginOp (stowingOp .breakOut .awaitWrench i x dest) .wrench := by
  simp [serveBreakOut, hd, withIdleJob_active _ ha ho, hi, hx, hc, hf, hp]

theorem serveStow_found {l : Nat} {pk p1 p0 : Word} {dest : RackPlace} {i : Fin 128} {x : Rod} (ha : ActiveIs s a j)
    (ho : s.engine.op = none) (hd : rackPlaceOf pk p1 p0 = some dest) (hi : s.rodAtCentre = some i)
    (hx : s.rod? i = some x) (hf : s.rackFree dest = true) :
    serveStow l [pk, p1, p0] s = s.beginOp (stowingOp .stow .awaitLoader i x dest) .loader := by
  simp [serveStow, hd, withIdleJob_active _ ha ho, hi, hx, hf]

theorem serveRunBha_found {l : Nat} (ha : ActiveIs s a j) (ho : s.engine.op = none) (hb : j.bha.place = .stowed)
    (hc : s.rodAtCentre = none) : serveRunBha l [] s = s.beginOp (bhaOp .runBha) .tongs := by
  simp [serveRunBha, withIdleJob_active _ ha ho, hb, hc]

theorem servePullBha_found {l : Nat} (ha : ActiveIs s a j) (ho : s.engine.op = none) (hb : j.bha.place = .inString)
    (hn : s.stringCount = 0) (hc : s.rodAtCentre = none) (hp : s.pumps.circ = .stopped) :
    servePullBha l [] s = s.beginOp (bhaOp .pullBha) .tongs := by
  simp [servePullBha, withIdleJob_active _ ha ho, hb, hn, hc, hp]

end Begun

/-! ### An operation aborted (R67) -/

section Aborted

variable {s : State} {o : Operation} {st : Station}

/-- An idle engine hears nothing of a grant. -/
theorem State.grant_idle (h : s.engine.op = none) : s.grant st = s.passTo st := by
  rw [State.grant_eq, onGrant_unawaited (by simp [State.passTo, h])]

theorem State.endHolding_idle_engine (h : s.engine.op = none) : s.endHolding.engine = s.engine := by
  cases hc : s.depth.coupled with
  | true => rw [State.endHolding_coupled hc]
  | false =>
    rw [State.endHolding_free hc]
    cases s.nextStation with
    | none => rfl
    | some st => rw [Option.map_some, Option.getD_some, State.grant_idle h]; rfl

theorem State.withdraw_idle_engine (h : s.engine.op = none) (o : Operation) : (s.withdraw o).engine = s.engine := by
  cases haw : o.step.awaits with
  | some st => rw [State.withdraw_of_awaits haw]
  | none =>
    cases hh : o.step.holds with
    | none => rw [State.withdraw_of_neither haw hh]
    | some st =>
      rw [State.withdraw_of_holds hh, State.engineRelease]
      split
      · exact State.endHolding_idle_engine h
      · rfl

theorem State.onGrant_arbiter (st : Station) (s : State) : (s.onGrant st).arbiter = s.arbiter := by
  rw [State.onGrant_eq]

/-- Who holds the centre after a holding ends depends on the arbiter, the head and circulation alone (R55). -/
theorem State.endHolding_arbiter (s : State) : s.endHolding.arbiter =
    if s.depth.coupled then { s.arbiter with holder := .head }
    else (s.nextStation.map fun st => { s.arbiter.put st false with holder := st }).getD { s.arbiter with holder := .head } := by
  cases hc : s.depth.coupled with
  | true => rw [State.endHolding_coupled hc]; rfl
  | false =>
    rw [State.endHolding_free hc]
    cases s.nextStation with
    | none => rfl
    | some st => rw [Option.map_some, Option.getD_some, State.grant_eq, State.onGrant_arbiter]; rfl

end Aborted

/-- Settles O29: an operation by its checks and its record, and an abort by what the withdrawal of an ended operation
leaves. -/
theorem centreRequestsComplete : Obligations.CentreRequestsComplete := by
  refine ⟨fun r s a j ha ho => ?operations, fun r s => ?others⟩
  case operations =>
    intro took rodWord
    refine ⟨fun pk p1 p0 src i x taken hsrc hb hc hi hx ht hl hw => ?makeUp,
      fun pk p1 p0 dest i x taken hd hi hx hc hf hp => ?breakOut, fun pk p1 p0 dest i x taken hd hi hx hf => ?stow,
      fun taken hb hc => ?runBha, fun taken hb hn hc hp => ?pullBha⟩
    case makeUp =>
      intro o
      have hserve : serveMakeUp r.level.toNat [pk, p1, p0] (s.heard 50 r) = (s.heard 50 r).acceptMakeUp i x src :=
        serveMakeUp_found (s := s.heard 50 r) ha ho hsrc hb hc hi hx ht hl hw
      refine ⟨fun hcentre hv => takeRequest_accepted taken (hserve.trans ?_), fun hneeds =>
        takeRequest_accepted taken (hserve.trans ?_)⟩
      · rw [State.acceptMakeUp, if_pos ⟨hcentre, hv⟩]
        rfl
      · have hno : ¬(src = .centre ∧ x.unverified = false) := fun ⟨h1, h2⟩ =>
          hneeds.elim (· h1) fun h => by simp [h2] at h
        rw [State.acceptMakeUp, if_neg hno, State.beginOp_eq]
        rfl
    case breakOut =>
      exact takeRequest_accepted taken ((serveBreakOut_found (s := s.heard 51 r) ha ho hd hi hx hc hf hp).trans
        (State.beginOp_eq ..))
    case stow =>
      exact takeRequest_accepted taken ((serveStow_found (s := s.heard 52 r) ha ho hd hi hx hf).trans (State.beginOp_eq ..))
    case runBha =>
      exact takeRequest_accepted taken ((serveRunBha_found (s := s.heard 53 r) ha ho hb hc).trans (State.beginOp_eq ..))
    case pullBha =>
      exact takeRequest_accepted taken
        ((servePullBha_found (s := s.heard 54 r) ha ho hb hn hc hp).trans (State.beginOp_eq ..))
  case others =>
    refine ⟨fun taken => takeRequest_accepted taken rfl, fun taken => ⟨fun ho => ?idle, fun o ho => ?running⟩,
      fun o taken ho => ?abort, fun taken => takeRequest_accepted taken rfl,
      fun stroke jump taken h1 h2 h3 h4 => ?config⟩
    case idle =>
      have hwords : (s.heard 49 r).operationWords = List.replicate 13 0 ++ flag s.engine.tripping := by
        simp only [State.operationWords, State.heard_engine, ho]
      rw [← hwords]
      exact takeRequest_accepted taken rfl
    case running =>
      have hwords : (s.heard 49 r).operationWords = u16 o.kind.code ++ u16 o.step.code
          ++ handleWord (o.rod.map s.rodHandle) ++ u32 (o.expected.getD 0) ++ opSourceWords o.source
          ++ rackPlaceWords o.dest ++ u32 (o.tagReg.getD 0) ++ flag s.engine.tripping := by
        simp only [State.operationWords, State.heard_engine, ho]
        rfl
      rw [← hwords]
      exact takeRequest_accepted taken rfl
    case abort =>
      have hserve : serveAbortOp r.level.toNat [] (s.heard 55 r) = accept ((s.heard 55 r).abandon o .aborted none 0) := by
        simp only [serveAbortOp, State.heard_engine, ho]
      have hframe := State.withdraw_frame o ((s.heard 55 r).endOp o .aborted none 0)
      refine ⟨_, takeRequest_accepted taken hserve, ?_, State.withdraw_idle_engine rfl o, fun st haw => ?_, fun st hh hholds => ?_,
        fun haw hh => ?_, ?_⟩
      · exact ((State.heard_frame 55 r s).mono (by simp)).trans ((State.abandon_frame ..).mono (by simp))
      · rw [State.abandon, State.withdraw_of_awaits haw]
        rfl
      · have hheld : ((s.heard 55 r).endOp o .aborted none 0).arbiter.holder = st := hholds
        rw [State.abandon, State.withdraw_of_holds hh, State.engineRelease, if_pos hheld, State.endHolding_arbiter,
          State.endHolding_arbiter]
        rfl
      · rw [State.abandon, State.withdraw_of_neither haw hh]
        rfl
      · have hattn : ((s.heard 55 r).abandon o .aborted none 0).attn = ((s.heard 55 r).endOp o .aborted none 0).attn :=
          hframe.kept .attn (by simp [centreParts])
        rw [hattn, State.endOp, State.raise_attn_same]
        rfl
    case config =>
      exact takeRequest_accepted taken (if_pos (by rw [within_true h1 h2, within_true h3 h4]; rfl))

end Sys2Proof.Machine
end

section
/-! PROOFS. The requests of the Pump Controller, what a target and a ceiling in force do, and the strokes. -/

namespace Sys2Proof.Machine

-- One proof at a time: proofs elaborated at once add up past the memory of the check.
set_option Elab.async false

/-! ### Codes -/

@[simp] theorem pumpOf_pumpCode (p : Pump) : pumpOf (pumpCode p) = some p := by cases p <;> rfl

@[simp] theorem TankId.ofCode_code (t : TankId) : TankId.ofCode t.code = some t := by cases t <;> rfl

/-! ### Targets and ceilings -/

section Targets

variable {s : State} {p : Pump} {n : Nat}

theorem State.targetCirculation_stopped (hc : s.pumps.circ = .stopped) :
    s.targetCirculation p n = if 0 < n then s.startCirculation .target p else s := by
  rw [State.targetCirculation, hc]

theorem State.targetCirculation_stopping (hc : s.pumps.circ = .stopping) :
    s.targetCirculation p n = if 0 < n then s.setPumps s.pumps.run else s := by
  rw [State.targetCirculation, hc]

theorem State.targetCirculation_running (hc : s.pumps.circ = .running) :
    s.targetCirculation p n = if s.pumps.targetsZero then s.setPumps s.pumps.beginStop else s := by
  rw [State.targetCirculation, hc]

/-- A ceiling in force that falls clamps setpoint and target, and stops the ramp timer where they meet; one that rises
changes neither (R82). -/
theorem PumpRec.withCeiling_eq (x : PumpRec) (ceiling : Nat) : x.withCeiling ceiling =
    if ceiling < x.inForce then { x with
      inForce := ceiling, setpoint := min x.setpoint ceiling, target := min x.target ceiling
      rampTimer := if min x.setpoint ceiling = min x.target ceiling then none else x.rampTimer }
    else { x with inForce := ceiling } := by
  rw [PumpRec.withCeiling, PumpRec.clampTo]
  split
  · simp only
    split <;> rfl
  · rfl

/-- The stop handshake begins exactly where a fall leaves both targets at 0 in RUNNING (R82, log 21). -/
theorem PumpCtl.stopped_if {fallen : Prop} [Decidable fallen] (d : PumpCtl) :
    let e := if fallen ∧ d.targetsZero = true ∧ d.circ = .running then d.beginStop else d
    (fallen ∧ d.p1.target = 0 ∧ d.p2.target = 0 ∧ d.circ = .running → e = d.beginStop)
      ∧ (¬(fallen ∧ d.p1.target = 0 ∧ d.p2.target = 0 ∧ d.circ = .running) → e = d) := by
  intro e
  refine ⟨fun ⟨hf, h1, h2, hr⟩ => if_pos ⟨hf, targetsZero_iff.2 ⟨h1, h2⟩, hr⟩, fun hno => if_neg ?_⟩
  rintro ⟨hf, hz, hr⟩
  obtain ⟨h1, h2⟩ := targetsZero_iff.1 hz
  exact hno ⟨hf, h1, h2, hr⟩

end Targets

/-- Settles O37: the requests by their checks, a target by the circulation it finds, and a ceiling in force by
`withCeiling_eq` and `stopped_if`. -/
theorem pumpRequestsComplete : Obligations.PumpRequestsComplete := by
  refine ⟨fun r s => ?requests, fun p target s => ?targets, fun condition c => ?ceilings⟩
  case requests =>
    refine ⟨fun taken => takeRequest_accepted taken rfl,
      fun pump disp eff ceil stp interval p taken hp h1 h2 h3 h4 h5 h6 h7 h8 h9 h10 => takeRequest_accepted taken ?config,
      fun hold still taken h1 h2 h3 => takeRequest_accepted taken ?circ,
      fun pump rate p taken hp => takeRequest_accepted taken ?rate,
      fun taken => ⟨fun hc => takeRequest_accepted taken ?stopped, fun hc => takeRequest_accepted taken ?stopping,
        fun hc => takeRequest_accepted taken ?running⟩,
      fun taken => takeRequest_accepted taken rfl⟩
    case config =>
      simp only [serveSetPumpConfig, hp, pumpOf_pumpCode, within_true h1 h2, within_true h3 h4, within_true h5 h6,
        within_true h7 h8, within_true h9 h10, Bool.and_self, if_true]
      rfl
    case circ =>
      simp only [serveSetCircConfig, h1, decide_true, within_true h2 h3, Bool.and_self, if_true]
      rfl
    case rate =>
      simp only [serveSetPumpRate, hp, pumpOf_pumpCode]
      rfl
    case stopped => simp only [serveStopCirculation, State.heard_pumps, hc]; rfl
    case stopping => simp only [serveStopCirculation, State.heard_pumps, hc]
    case running => simp only [serveStopCirculation, State.heard_pumps, hc]; rfl
  case targets =>
    refine ⟨fun hc hn => ?_, fun hc hn => ?_, fun hc hn => ?_, fun hc hz => ?_, fun hc hz => ?_⟩
    · rw [State.targetCirculation_stopped hc, if_pos hn]; rfl
    · rw [State.targetCirculation_stopping hc, if_pos hn]; rfl
    · cases hcirc : s.pumps.circ with
      | stopped => rw [State.targetCirculation_stopped hcirc, if_neg (by omega)]
      | stopping => rw [State.targetCirculation_stopping hcirc, if_neg (by omega)]
      | running => exact absurd hcirc hc
    · rw [State.targetCirculation_running hc, if_pos (targetsZero_iff.2 hz)]; rfl
    · rw [State.targetCirculation_running hc, if_neg fun h => hz (targetsZero_iff.1 h)]
  case ceilings =>
    intro ceiling held settled
    have hceiling : ∀ x, ceilingFor condition c.holdRate x.ceiling = ceiling x := fun x => by cases condition <;> rfl
    have hheld : ∀ x : PumpRec, x.withCeiling (ceiling x) = held x := fun x => x.withCeiling_eq (ceiling x)
    refine ⟨?_, fun p => ?_⟩
    · simp only [PumpCtl.rework, hheld, hceiling]
      exact PumpCtl.stopped_if (fallen := ceiling c.p1 < c.p1.inForce ∨ ceiling c.p2 < c.p2.inForce)
        { c with p1 := held c.p1, p2 := held c.p2 }
    · simp only [PumpCtl.reworkPump, hheld, hceiling]
      exact PumpCtl.stopped_if (fallen := ceiling (c.pump p) < (c.pump p).inForce) (c.setPump p (held (c.pump p)))

/-! ### Strokes -/

/-- Settles O38: the counts, the parcels and the wake first, then circulation by the state it is found in. -/
theorem strokeCompletes : Obligations.StrokeCompletes := by
  intro p s rec_ counted moved started
  have hframe : Frame [.transit, .jobs, .mode, .attn] ({ s with pumps := counted } : State) moved :=
    ((State.advanceParcels_frame ..).mono (by simp [transitParts])).trans ((State.wake_frame ..).mono (by simp))
  have hpumps : moved.pumps = counted := hframe.kept .pumps (by simp)
  have harbiter : moved.arbiter = s.arbiter := hframe.kept .arbiter (by simp)
  have hexec : exec (.strokePulse p) s = .next (moved.strokeCirculation p) := rfl
  have hcirc : moved.pumps.circ = s.pumps.circ := by rw [hpumps]; cases p <;> rfl
  rw [hexec, State.strokeCirculation, hcirc]
  refine ⟨fun hc => by rw [hc], fun hc => ?_, fun hc => ?_⟩
  · simp only [hc, hpumps]
    cases p <;> rfl
  · have hstart : moved.setPumps moved.pumps.run = started := by rw [hpumps]; rfl
    simp only [hc, State.startCirculation, hstart, State.leftStopped]
    have hholder : started.arbiter = s.arbiter := harbiter
    rw [hholder]

end Sys2Proof.Machine
end

section
/-! PROOFS. The expiries, and what a second and a minute do to each timer. -/

namespace Sys2Proof.Machine

-- One proof at a time: proofs elaborated at once add up past the memory of the check.
set_option Elab.async false

section Timers

variable {s : State}

theorem setpointsZero_iff {c : PumpCtl} : c.setpointsZero = true ↔ c.p1.setpoint = 0 ∧ c.p2.setpoint = 0 := by
  simp [PumpCtl.setpointsZero]

/-- A still expiry stops circulation with both setpoints at 0 (R86). -/
theorem State.stillExpiry_rest (h1 : s.pumps.p1.setpoint = 0) (h2 : s.pumps.p2.setpoint = 0) :
    s.stillExpiry = ((s.setPumps { s.pumps with circ := .stopped, still := none }).raise .circStopped
      (.volume s.pumps.total)).grantTest := if_pos (setpointsZero_iff.2 ⟨h1, h2⟩)

theorem State.stillExpiry_restart (h : s.pumps.p1.setpoint ≠ 0 ∨ s.pumps.p2.setpoint ≠ 0) :
    s.stillExpiry = s.setPumps { s.pumps with still := some s.pumps.stillHold } :=
  if_neg fun hz => by
    obtain ⟨h1, h2⟩ := setpointsZero_iff.1 hz
    exact h.elim (· h1) (· h2)

theorem State.windowExpiry_none (h : s.mode.window = none) : s.windowExpiry = s := by rw [State.windowExpiry, h]

theorem State.windowExpiry_some {w : WakeWindow} (h : s.mode.window = some w) :
    s.windowExpiry = (s.enterMode .standby).raise .unexplainedWake (.wake w.source) := by rw [State.windowExpiry, h]

theorem State.stillTick_none (h : s.pumps.still = none) : s.stillTick = s := by rw [State.stillTick, h]

theorem State.stillTick_some {n : Nat} (h : s.pumps.still = some n) :
    s.stillTick = if n ≤ 1 then s.stillExpiry else s.setPumps { s.pumps with still := some (n - 1) } := by
  rw [State.stillTick, h]

theorem State.mixMinute_none (h : s.tanks.mixCount = none) : s.mixMinute = s := by rw [State.mixMinute, h]

theorem State.mixMinute_some {n : Nat} (h : s.tanks.mixCount = some n) :
    s.mixMinute = if n ≤ 1 then s.mixExpiry else s.setTanks { s.tanks with mixCount := some (n - 1) } := by
  rw [State.mixMinute, h]

theorem State.windowMinute_idle (h : s.mode.mode ≠ .waking ∨ s.mode.window = none) : s.windowMinute = s := by
  cases hw : s.mode.window with
  | none => rw [State.windowMinute, hw]
  | some w =>
    have hm : s.mode.mode ≠ .waking := h.resolve_right (by simp [hw])
    simp only [State.windowMinute, hw, if_pos hm]

theorem State.windowMinute_waking {w : WakeWindow} (hm : s.mode.mode = .waking) (hw : s.mode.window = some w) :
    s.windowMinute = if w.count ≤ 1 then s.windowExpiry
      else s.setMode { s.mode with window := some { w with count := w.count - 1 } } := by
  simp only [State.windowMinute, hw, hm, ne_eq, not_true_eq_false, if_false]

theorem State.balanceSecond_none (h : s.tanks.reference = none) : s.balanceSecond = s := by
  rw [State.balanceSecond, h]
  rfl

theorem State.balanceSecond_valid (h : s.tanks.reference ≠ none) : s.balanceSecond =
    let u := s.setTanks { s.tanks with elapsed := s.tanks.elapsed + 1 }
    if s.tanks.period ≤ s.tanks.elapsed + 1 then u.reading s.tanks.activeTank.volume else u := by
  rw [State.balanceSecond, if_neg (by simpa using h)]
  rfl

/-- The Pump Controller's second, once both ramp timers are counted down (R88). -/
theorem State.pumpSecond_eq (s : State) : s.pumpSecond =
    let c : PumpCtl := { s.pumps with p1 := s.pumps.p1.tick, p2 := s.pumps.p2.tick }
    if c.circ = .running ∧ c.targetsZero then s.setPumps c.beginStop else (s.setPumps c).stillTick := rfl

end Timers

/-- Settles O40: each expiry by whether its timer runs, and the receivers by the order drawn for them. -/
theorem expiriesComplete : Obligations.ExpiriesComplete := by
  refine ⟨fun s => ⟨fun p => ?ramp, fun h => ?_, fun h hset => ?_, fun h h1 h2 => ?_, fun h => ?_, fun h => ?_, fun h => ?_,
    fun h => ?_, fun h => ?_, fun w h => ?_⟩, fun s h => congrArg _ (if_pos h), fun s h => congrArg _ (if_neg (by omega)),
    fun s => rfl, fun n => ⟨permuteBy_perm 5 n _, permuteBy_perm 3 n _⟩⟩
  case ramp => exact ⟨fun h => if_pos h, fun h => if_neg h⟩
  · exact congrArg _ (if_pos h)
  · exact congrArg _ ((if_neg h).trans (State.stillExpiry_restart hset))
  · exact congrArg _ ((if_neg h).trans (State.stillExpiry_rest h1 h2))
  · exact if_pos (by simp [h])
  · exact if_neg (by simpa using h)
  · exact congrArg _ (if_pos h)
  · exact congrArg _ (if_neg h)
  · exact congrArg _ (State.windowExpiry_none h)
  · exact congrArg _ (State.windowExpiry_some h)

/-- Settles O41, timer by timer. -/
theorem timerRule : Obligations.TimerRule := by
  intro s ramped c idle
  have hc : ({ s.pumps with p1 := s.pumps.p1.tick, p2 := s.pumps.p2.tick } : PumpCtl) = c := rfl
  have htargets : c.targetsZero = true ↔ s.pumps.p1.target = 0 ∧ s.pumps.p2.target = 0 := by
    rw [targetsZero_iff, ← hc]
    simp only [PumpRec.tick_target]
  have hidle : (c.circ = .running ∧ c.targetsZero = true) ↔ idle := and_congr Iff.rfl htargets
  have hsecond : s.pumpSecond = if c.circ = .running ∧ c.targetsZero then s.setPumps c.beginStop
      else (s.setPumps c).stillTick := s.pumpSecond_eq
  refine ⟨fun hi => ?begins, fun hi hs => ?still, fun n hi hs => ⟨fun hn => ?counts, fun hn hset => ?restarts,
    fun hn h1 h2 => ?stops⟩, State.balanceSecond_none, fun hr => ?balance, State.mixMinute_none, fun n hn => ?mix,
    State.windowMinute_idle, fun w hm hw => ?window⟩
  case begins => rw [hsecond, if_pos (hidle.2 hi)]; rfl
  case still => rw [hsecond, if_neg (mt hidle.1 hi), State.stillTick_none (s := s.setPumps c) hs]; rfl
  case counts =>
    rw [hsecond, if_neg (mt hidle.1 hi), State.stillTick_some (s := s.setPumps c) hs, if_neg (by omega)]; rfl
  case restarts =>
    rw [hsecond, if_neg (mt hidle.1 hi), State.stillTick_some (s := s.setPumps c) hs, if_pos hn,
      State.stillExpiry_restart (s := s.setPumps c) hset]
    rfl
  case stops =>
    rw [hsecond, if_neg (mt hidle.1 hi), State.stillTick_some (s := s.setPumps c) hs, if_pos hn,
      State.stillExpiry_rest (s := s.setPumps c) h1 h2]
    rfl
  case balance =>
    intro counted period
    refine ⟨fun hlt => ?_, fun hle => ?_⟩
    · rw [State.balanceSecond_valid hr]
      exact if_neg (Nat.not_le.2 hlt)
    · rw [State.balanceSecond_valid hr]
      exact if_pos hle
  case mix =>
    refine ⟨fun h1 => ?_, fun h1 => ?_⟩
    · rw [State.mixMinute_some hn, if_neg (by omega)]; rfl
    · rw [State.mixMinute_some hn, if_pos h1]; rfl
  case window =>
    refine ⟨fun h1 => ?_, fun h1 => ?_⟩
    · rw [State.windowMinute_waking hm hw, if_neg (by omega)]; rfl
    · rw [State.windowMinute_waking hm hw, if_pos h1, State.windowExpiry_some hw]; rfl

end Sys2Proof.Machine
end

section
/-! PROOFS. The requests of the Tank and Balance Unit and of the additive store. -/

namespace Sys2Proof.Machine

-- One proof at a time: proofs elaborated at once add up past the memory of the check.
set_option Elab.async false

/-! ### Tanks and balance -/

section Tanks

variable {s : State} {u : TankUnit} {t : TankId} {x : Tank}

@[simp] theorem TankUnit.setTank_active (u : TankUnit) (t : TankId) (x : Tank) : (u.setTank t x).active = u.active := by
  cases t <;> rfl

@[simp] theorem TankUnit.setTank_reference (u : TankUnit) (t : TankId) (x : Tank) :
    (u.setTank t x).reference = u.reference := by
  cases t <;> rfl

theorem TankUnit.setTank_activeTank (h : t = u.active) : (u.setTank t x).activeTank = x := by
  subst h
  cases hu : u.active <;> simp [TankUnit.setTank, TankUnit.activeTank, TankUnit.tank, hu]

theorem State.configured_standby (h : t ≠ s.tanks.active) : s.configured t = s.reworkStandby.suctionTest := by
  rw [State.configured, if_pos h]

theorem State.configured_invalid (h : t = s.tanks.active) (hr : s.tanks.reference = none) :
    s.configured t = s.suctionTest := by
  rw [State.configured, if_neg (not_not.2 h), hr]
  rfl

theorem State.configured_valid (h : t = s.tanks.active) (hr : s.tanks.reference ≠ none) :
    s.configured t = (s.setTanks s.tanks.rebase).suctionTest := by
  rw [State.configured, if_neg (not_not.2 h), if_pos (by simpa [Option.isSome_iff_ne_none] using hr)]

theorem State.addWater_standby {n : Nat} (h : t ≠ s.tanks.active) : s.addWater t n = s.standbyAddition := if_pos h

theorem State.addWater_active {n : Nat} (h : t = s.tanks.active) : s.addWater t n =
    if s.tanks.reference.isSome then s.setTanks { s.tanks with additions := satAdd32 s.tanks.additions (n * 1000) }
    else s := if_neg (not_not.2 h)

end Tanks

/-- Settles O42; a configuration and an addition by the role of the tank and by the reference. -/
theorem tankRequestsComplete : Obligations.TankRequestsComplete := by
  intro r s
  refine ⟨fun taken => takeRequest_accepted taken rfl,
    fun tank c1 c0 m1 m0 l1 l0 e1 e0 r1 r0 mix t taken ht h1 h2 h3 h4 h5 h6 h7 h8 h9 => ?config,
    fun taken => ⟨fun hr => takeRequest_accepted taken (if_pos hr), fun hr => takeRequest_refused taken (if_neg hr)⟩,
    fun tank l1 l0 t taken ht h1 h2 => ?water, fun coarse fine taken h1 h2 => takeRequest_accepted taken (if_pos ?period),
    fun taken => takeRequest_accepted taken rfl,
    fun gain seepage severe taken h1 h2 h3 h4 h5 h6 => takeRequest_accepted taken (if_pos ?thresholds)⟩
  case config =>
    intro x level held
    have hok : tankConfigOk (two c1 c0) (two m1 m0) (two l1 l0) (two e1 e0) (two r1 r0) (one mix) = true := by
      simp only [tankConfigOk, within_true h1 h2, within_true h3 h4, within_true h8 h9, h5, h6, h7, decide_true,
        Bool.and_self]
    have hserve : serveSetTankConfig r.level.toNat [tank, c1, c0, m1, m0, l1, l0, e1, e0, r1, r0, mix] (s.heard 81 r)
        = accept (held.configured t) := by
      simp only [serveSetTankConfig, ht, TankId.ofCode_code, hok, if_true]
      rfl
    have hactive : held.tanks.active = s.tanks.active := TankUnit.setTank_active ..
    have href : held.tanks.reference = s.tanks.reference := TankUnit.setTank_reference ..
    refine ⟨fun hta hr => takeRequest_accepted taken (hserve.trans ?_), fun hta hr =>
      takeRequest_accepted taken (hserve.trans ?_), fun hta => takeRequest_accepted taken (hserve.trans ?_)⟩
    · have hvolume : held.tanks.activeTank.volume = level * two m1 m0 :=
        congrArg Tank.volume (TankUnit.setTank_activeTank hta)
      rw [State.configured_valid (hta.trans hactive.symm) (by rwa [href]), TankUnit.rebase, hvolume]
      rfl
    · rw [State.configured_invalid (hta.trans hactive.symm) (by rwa [href])]
      rfl
    · rw [State.configured_standby (by rwa [hactive])]
      rfl
  case water =>
    have hserve : serveAddWater r.level.toNat [tank, l1, l0] (s.heard 83 r)
        = accept ((s.heard 83 r).addWater t (two l1 l0)) := by
      simp only [serveAddWater, ht, TankId.ofCode_code, within_true h1 h2, if_true]
    refine ⟨fun hta hr => takeRequest_accepted taken (hserve.trans ?_), fun hta hr =>
      takeRequest_accepted taken (hserve.trans ?_), fun hta => takeRequest_accepted taken (hserve.trans ?_)⟩
    · rw [State.addWater_active (s := s.heard 83 r) hta, if_pos (by simpa [Option.isSome_iff_ne_none] using hr)]
      rfl
    · rw [State.addWater_active (s := s.heard 83 r) hta, if_neg (by simp [hr])]
      rfl
    · rw [State.addWater_standby (s := s.heard 83 r) hta]
      rfl
  case period => simp [h1, h2]
  case thresholds => simp [within_true h1 h2, within_true h3 h4, h5, h6]

/-! ### The additive store -/

section Store

variable {s : State} {i : Fin 16} {x : Additive}

theorem additiveNameOk_of {n : Name} (h : ∀ c ∈ n.toList, 32 ≤ c.toNat ∧ c.toNat ≤ 126)
    (hb : ∃ c ∈ n.toList, c.toNat ≠ 32) : additiveNameOk n = true := by
  have hprintable : printable n = true := by
    rw [printable, List.all_eq_true]
    intro c hc
    simpa using h c hc
  have hblank : n ≠ blankName := by
    rintro rfl
    obtain ⟨c, hc, hne⟩ := hb
    have hc32 : c = 32 := by simpa [blankName] using hc
    exact hne (by rw [hc32]; rfl)
  simp [additiveNameOk, hprintable, hblank]

theorem State.additiveNameHeld_false {n : Name} (h : ∀ k x, s.additive? k = some x → x.name ≠ n) :
    s.additiveNameHeld n = false := by
  simp only [State.additiveNameHeld, List.any_eq_false, Option.any_eq_true, not_exists, not_and, beq_iff_eq]
  exact fun k _ x hx => h k x hx

theorem Additive.short_eq_zero_iff {n : Nat} : x.short n = 0 ↔ n ≤ x.onHand := Nat.sub_eq_zero_iff_le

/-- What a draw has done before it reaches the tank (R102, R166). -/
theorem State.drawBilled_eq (a : Fin 4) (i : Fin 16) (x : Additive) (n : Nat) (s : State) :
    s.drawBilled a i x n = (if n ≤ x.onHand then s.setAdditive i (x.draw n)
      else (s.setAdditive i (x.draw n)).raise .inventoryShort (.short (s.additiveHandle i) (x.short n))).addUnsettled a
        (consumableLine i) n := by
  have hhandle : (s.setAdditive i (x.draw n)).additiveHandle i = s.additiveHandle i := by
    simp [State.additiveHandle]
  rw [State.drawBilled, State.drawDown, hhandle]
  simp only [Additive.short_eq_zero_iff]

theorem State.drawBilled_tanks (a : Fin 4) (i : Fin 16) (x : Additive) (n : Nat) (s : State) :
    (s.drawBilled a i x n).tanks = (s.setAdditive i (x.draw n)).tanks := by
  rw [State.drawBilled, (State.addUnsettled_frame a (consumableLine i) n (s.drawDown i x n)).kept .tanks (by simp)]
  rw [State.drawDown]
  split <;> rfl

theorem State.additiveInUse_true {a : Fin 4} {j : Job} (hj : s.job? a = some j)
    (h : j.sheet[consumableLine i].settled ≠ 0 ∨ j.sheet[consumableLine i].unsettled ≠ 0) : s.additiveInUse i = true := by
  rw [State.additiveInUse, List.any_eq_true]
  exact ⟨a, List.mem_finRange a, by simpa [hj, bne_iff_ne] using h⟩

theorem State.additiveInUse_false (h : ∀ a j, s.job? a = some j →
    j.sheet[consumableLine i].settled = 0 ∧ j.sheet[consumableLine i].unsettled = 0) : s.additiveInUse i = false := by
  rw [State.additiveInUse, List.any_eq_false]
  intro a _
  rw [Option.any_eq_true]
  rintro ⟨j, hj, hb⟩
  obtain ⟨h1, h2⟩ := h a j hj
  rw [h1, h2] at hb
  exact absurd hb (by decide)

end Store

/-- Settles O43: the record the handle names, written by each request, and a draw by `drawBilled_eq`. -/
theorem additiveRequestsComplete : Obligations.AdditiveRequestsComplete := by
  refine fun r s => ⟨fun n0 n1 n2 n3 p1 p0 i taken hname hblank hp hdup hi => takeRequest_accepted taken ?add,
    fun w i x hx => ⟨fun p1 p0 taken hp => takeRequest_accepted taken ?price,
    fun taken => takeRequest_accepted taken (withAdditive_named (s := s.heard 89 r) _ hx),
    fun units taken h1 h2 h3 => takeRequest_accepted taken ?receive,
    fun q1 q0 taken => takeRequest_accepted taken (withAdditive_named (s := s.heard 91 r) _ hx),
    fun units tank t a taken ht h1 h2 h3 ha => ?draw,
    fun taken => ⟨fun hfree => takeRequest_accepted taken ?retire, fun a j hj hused => takeRequest_refused taken ?used⟩⟩⟩
  case add =>
    have hno : ¬(additiveNameOk (nameOf n0 n1 n2 n3) = false ∨ 2147483647 < two p1 p0) := by
      rw [additiveNameOk_of hname hblank]
      simpa using hp
    have hheld : (s.heard 87 r).additiveNameHeld (nameOf n0 n1 n2 n3) = false := State.additiveNameHeld_false hdup
    have hslot : (s.heard 87 r).emptyAdditiveSlot = some i := hi
    simp only [serveAddAdditive, if_neg hno, hheld, Bool.false_eq_true, if_false, hslot]
    rfl
  case price =>
    exact (withAdditive_named (s := s.heard 88 r) _ hx).trans (if_neg (by omega))
  case receive =>
    exact (withAdditive_named (s := s.heard 90 r) _ hx).trans (if_neg (by simp only [max32]; omega))
  case draw =>
    intro drawn noted billed
    refine takeRequest_accepted taken ((withAdditive_named (s := s.heard 92 r) _ hx).trans ?_)
    have hactive : (s.heard 92 r).active? = some a := ha
    have hno : ¬(one units = 0 ∨ max32 < x.drawn + one units ∨ max32 < x.shortfall + x.short (one units)) := by
      simp only [max32, Additive.short]
      omega
    have hbilled : (s.heard 92 r).drawBilled a i x (one units) = billed := State.drawBilled_eq ..
    have htanks : billed.tanks = ((s.heard 92 r).setAdditive i (x.draw (one units))).tanks := by
      rw [← hbilled, State.drawBilled_tanks]
    have hta : billed.tanks.active = s.tanks.active := by rw [htanks]; rfl
    have hmix : billed.tanks.standbyTank = s.tanks.standbyTank := by rw [htanks]; rfl
    simp only [ht, TankId.ofCode_code, if_neg hno, hactive, State.drawAdditive_eq, hbilled, hta, ite_not,
      State.standbyAddition, hmix]
    rfl
  case retire =>
    have huse : (s.heard 93 r).additiveInUse i = false := State.additiveInUse_false hfree
    refine (withAdditive_named (s := s.heard 93 r) _ hx).trans ?_
    simp only [ne_eq, not_true_eq_false, if_false, huse, Bool.false_eq_true]
    rfl
  case used =>
    have huse : (s.heard 93 r).additiveInUse i = true := State.additiveInUse_true hj hused
    refine (withAdditive_named (s := s.heard 93 r) _ hx).trans ?_
    simp only [ne_eq, not_true_eq_false, if_false, huse, if_true]

end Sys2Proof.Machine
end

section
/-! PROOFS. The loss classes and the reports of GAUGE. -/

namespace Sys2Proof.Machine

-- One proof at a time: proofs elaborated at once add up past the memory of the check.
set_option Elab.async false

/-! ### A change of loss class (R109) -/

section Losses

variable {s : State} {a : Fin 4} {j : Job} {c : LossClass} {y : Nat}

/-- The class written, with LOSS_CLASS and the bit depth. -/
def State.classed (c : LossClass) (s : State) : State :=
  (s.setTanks { s.tanks with lossClass := c }).raise .lossClass (.loss c (s.activeJob?.map Job.bitDepth))

theorem State.classed_frame (c : LossClass) (s : State) : Frame [.tanks, .attn] s (s.classed c) :=
  ((frame_tanks s _).mono (by simp)).trans ((State.raise_frame ..).mono (by simp))

theorem State.classed_active (ha : ActiveIs s a j) : ActiveIs (s.classed c) a j :=
  ⟨((s.classed_frame c).active?_eq (by simp)).trans ha.1, ((s.classed_frame c).job?_eq (by simp) a).trans ha.2⟩

theorem State.changeLoss_same (y : Nat) (s : State) : s.changeLoss s.tanks.lossClass y = s := if_pos rfl

theorem State.changeLoss_eq (h : c ≠ s.tanks.lossClass) : s.changeLoss c y =
    (lossMark s.tanks.lossClass c y).elim (if c = .total then (s.classed c).wipe else s.classed c)
      fun f => (if c = .total then (s.classed c).wipe else s.classed c).markBit f := by
  simp only [State.changeLoss, if_neg h]
  cases lossMark s.tanks.lossClass c y <;> rfl

theorem State.markBit_idle (h : s.active? = none) (f : Interval → Interval) : s.markBit f = s := by
  rw [State.markBit, h]

theorem State.markBit_active (ha : ActiveIs s a j) (f : Interval → Interval) :
    s.markBit f = s.setJob a { j with column := markContaining j.bitDepth f j.column } := by
  rw [State.markBit, ha.1]
  exact State.modifyJob_some ha.2

theorem State.markBit_own_frame (f : Interval → Interval) (s : State) : Frame [.jobs] s (s.markBit f) := by
  unfold State.markBit
  split
  · exact Frame.rfl' _ s
  · exact State.modifyJob_frame ..

theorem State.wipe_idle (h : s.active? = none) : s.wipe = s := by rw [State.wipe, h]

theorem State.wipe_logged (s : State) : s.Logged s.wipe := by
  unfold State.wipe
  split
  · exact .refl s
  · exact (State.Logged.setParcels ..).trans (State.markParcels_logged ..)

end Losses

/-! ### A LEVEL report (R94) -/

section Levels

variable {s : State} {k : TankId} {v : Int}

theorem State.clampedLevel_eq (k : TankId) (v : Int) (s : State) :
    s.clampedLevel k v = if v < 0 then 0 else min v.toNat (s.tanks.tank k).depth := by
  rw [State.clampedLevel]
  split <;> omega

theorem State.clampedLevel_eq_iff (k : TankId) (v : Int) (s : State) :
    ((s.clampedLevel k v : Int) = v) ↔ ¬ (v < 0 ∨ ((s.tanks.tank k).depth : Int) < v) := by
  rw [State.clampedLevel]
  omega

theorem State.levelled_eq (k : TankId) (v : Int) (s : State) : s.levelled k v =
    { (if v < 0 ∨ ((s.tanks.tank k).depth : Int) < v then s.raise .sensorRange (.sensor .gauge (some k) v) else s) with
      tanks := s.tanks.setTank k { s.tanks.tank k with level := s.clampedLevel k v, fresh := true } } := by
  rw [State.levelled, if_congr (s.clampedLevel_eq_iff k v) rfl rfl, ite_not]
  split <;> rfl

theorem takeLevelReport_discarded {m : Message} {st : Station} (h : st ≠ .gauge ∨ levelTank m.value = none) :
    takeLevelReport m st s = s.raise .stationUnexpected (.unexpected m.address.toNat 14 none) := by
  unfold takeLevelReport
  cases hl : levelTank m.value with
  | none => rfl
  | some t => exact if_neg (h.resolve_right (by simp [hl]))

theorem takeLevelReport_taken {m : Message} (h : levelTank m.value = some k) :
    takeLevelReport m .gauge s = s.takeLevel k (levelValue m.value) := by
  simp only [takeLevelReport, h, if_true]

theorem takeFlowReport_discarded {m : Message} {st : Station} (h : st ≠ .gauge ∨ flowOf m.value = none) :
    takeFlowReport m st s = s.raise .stationUnexpected (.unexpected m.address.toNat 15 none) := by
  unfold takeFlowReport
  cases hl : flowOf m.value with
  | none => rfl
  | some t => exact if_neg (h.resolve_right (by simp [hl]))

theorem takeFlowReport_taken {m : Message} {v : Flow} (h : flowOf m.value = some v) :
    takeFlowReport m .gauge s = s.takeFlow v := by
  simp only [takeFlowReport, h, if_true]

/-- A value is accepted when it repeats the last, and one accepted before stays so (R110). -/
theorem accepted_iff {v : Flow} {last held : Option Flow} :
    (if last = some v then some v else held) = some v ↔ last = some v ∨ held = some v := by
  split <;> simp [*]

/-- What a FLOW report brings, by the value it carries and what the filter accepts (R110, R111). -/
theorem State.takeFlow_eq (v : Flow) (s : State) : s.takeFlow v =
    if v = .noFlow ∧ (s.tanks.flowLast = some v ∨ s.tanks.flowAccepted = some v) ∧ s.pumps.circ = .running then
      (s.setTanks (s.tanks.filter v)).changeLoss .total 0
    else if v = .flow ∧ s.tanks.flowLast = some .flow ∧ s.tanks.flowAccepted ≠ some .flow ∧ s.tanks.lossClass = .total then
      (s.setTanks (s.tanks.filter v)).changeLoss .normal 0
    else s.setTanks (s.tanks.filter v) := by
  have haccepted : ∀ v, (s.tanks.filter v).flowAccepted = some v ↔ s.tanks.flowLast = some v ∨ s.tanks.flowAccepted = some v :=
    fun v => accepted_iff
  cases v with
  | noFlow =>
    simp only [State.takeFlow, State.setTanks_tanks, State.setTanks_pumps, haccepted, true_and, reduceCtorEq, false_and,
      if_false]
  | flow =>
    have hnew : (s.tanks.filter .flow).flowAccepted = some .flow ∧ s.tanks.flowAccepted ≠ some .flow
          ∧ (s.tanks.filter .flow).lossClass = .total
        ↔ s.tanks.flowLast = some .flow ∧ s.tanks.flowAccepted ≠ some .flow ∧ s.tanks.lossClass = .total := by
      rw [haccepted]
      show (_ ∨ _) ∧ _ ∧ s.tanks.lossClass = .total ↔ _
      tauto
    simp only [State.takeFlow, State.setTanks_tanks, hnew, reduceCtorEq, false_and, if_false, true_and]

end Levels

/-- Settles O44: a LEVEL by the tank's role and the reference, a FLOW by `takeFlow_eq`, a change of class by
`changeLoss_eq`. -/
theorem gaugeReportsComplete : Obligations.GaugeReportsComplete := by
  refine ⟨fun m s st => ⟨fun hd => ⟨fun h => ?levelOut, fun t hst ht => ?level⟩,
    fun hd => ⟨fun h => ?flowOut, fun v hst hv => ?flow⟩⟩, fun s => ?classes⟩
  case levelOut => exact (deliver_good _ s hd).trans (congrArg _ (takeLevelReport_discarded h))
  case flowOut => exact (deliver_good _ s hd).trans (congrArg _ (takeFlowReport_discarded h))
  case level =>
    intro v x level ranged taken
    subst hst
    have htaken : s.levelled t v = taken := by
      rw [State.levelled_eq, State.clampedLevel_eq]
    have hexec : exec (.level m) s = .next (s.takeLevel t v) :=
      (deliver_good _ s hd).trans (congrArg _ (takeLevelReport_taken ht))
    have hactive : taken.tanks.active = s.tanks.active := TankUnit.setTank_active ..
    have href : taken.tanks.reference = s.tanks.reference := TankUnit.setTank_reference ..
    rw [hexec, State.takeLevel_eq, htaken, hactive, href]
    refine ⟨fun hta => by rw [if_pos hta], fun hta hr => ?_, fun hta hr => ?_⟩
    · rw [if_neg (not_not.2 hta), if_neg (by simpa using hr)]
    · have hvolume : taken.tanks.activeTank.volume = level * x.mlPerMm :=
        congrArg Tank.volume (TankUnit.setTank_activeTank hta)
      rw [if_neg (not_not.2 hta), if_pos (by simp [hr]), hvolume]
      rfl
  case flow =>
    subst hst
    exact (deliver_good _ s hd).trans (congrArg _ ((takeFlowReport_taken hv).trans (State.takeFlow_eq v s)))
  case classes =>
    intro raised
    refine ⟨fun y => State.changeLoss_same y s, fun ht => ?_, fun ht hno => ?_, fun ht => ?_, fun a j ht hsev ha => ?_⟩
    · rw [State.changeLoss_eq (by rw [ht]; decide)]
      rfl
    · have hidle : (s.classed .total).active? = none := ((s.classed_frame .total).active?_eq (by simp)).trans hno
      rw [State.changeLoss_eq (Ne.symm ht), if_pos rfl, State.wipe_idle hidle]
      cases lossMark s.tanks.lossClass .total 0 with
      | none => rfl
      | some f => exact State.markBit_idle hidle f
    · rw [State.changeLoss_eq (by rw [ht]; decide), ht]
      rfl
    · have hraised : ActiveIs (raised .total) a j := State.classed_active ha
      have hlogged := (raised .total).wipe_logged
      obtain ⟨j', hj', hlog⟩ := hlogged.some a j hraised.2
      have hbit : j'.bitDepth = j.bitDepth := by rw [hlog]
      have hgen : (raised .total).wipe.jobs[a].gen = s.jobs[a].gen := hlogged.gen a
      have hactive : ActiveIs (raised .total).wipe a j' := ⟨hlogged.active?.trans hraised.1, hj'⟩
      refine ⟨j', hj', hbit, ?_⟩
      have hmark : lossMark s.tanks.lossClass .total 0 = some fun iv => { iv with lossZone := true } := if_neg hsev
      rw [State.changeLoss_eq (Ne.symm ht), if_pos rfl, hmark]
      rw [← hgen, ← hbit]
      exact State.markBit_active hactive _

end Sys2Proof.Machine
end

section
/-! PROOFS. The standby state, the suction test and the swap, and the balance reading. -/

namespace Sys2Proof.Machine

-- One proof at a time: proofs elaborated at once add up past the memory of the check.
set_option Elab.async false

/-! ### Suction and swaps (R95 to R97) -/

section Suction

variable {s : State}

theorem State.reworkStandby_ready (h : s.tanks.workStandby = .ready) (hn : s.tanks.standby ≠ .ready) :
    s.reworkStandby = (s.setTanks s.tanks.reworked).suctionTest := if_pos ⟨h, hn⟩

theorem State.reworkStandby_quiet (h : s.tanks.workStandby ≠ .ready ∨ s.tanks.standby = .ready) :
    s.reworkStandby = s.setTanks s.tanks.reworked := if_neg fun ⟨h1, h2⟩ => h.elim (· h1) (h2 ·)

theorem State.suctionTest_swaps (h : s.tanks.activeTank.volume ≤ s.tanks.activeTank.low * 1000 ∧ s.tanks.standby = .ready) :
    s.suctionTest = s.swap .automatic := if_pos h

theorem State.suctionTest_decides
    (h : ¬(s.tanks.activeTank.volume ≤ s.tanks.activeTank.low * 1000 ∧ s.tanks.standby = .ready)) :
    s.suctionTest = s.decideSuction := if_neg h

theorem State.decideSuction_same (h : s.tanks.activeTank.suction = s.tanks.condition) : s.decideSuction = s := if_pos h

/-- The suction condition of the ACTIVE tank written, with the ceilings worked out under it. -/
def State.suctioned (s : State) : State :=
  { s with
    tanks := { s.tanks with condition := s.tanks.activeTank.suction }
    pumps := s.pumps.rework s.tanks.activeTank.suction }

/-- A change of the suction condition has the ceilings worked out, and raises its attention but into NORMAL (R96). -/
theorem State.decideSuction_changed (h : s.tanks.activeTank.suction ≠ s.tanks.condition) : s.decideSuction =
    match s.tanks.activeTank.suction with
    | .normal => s.suctioned
    | .low => s.suctioned.raise .lowSuction (.suction s.tanks.active (s.tanks.activeTank.volume / 1000))
    | .empty => s.suctioned.raise .suctionEmpty (.suction s.tanks.active (s.tanks.activeTank.volume / 1000)) := by
  unfold State.suctioned
  simp only [State.decideSuction, if_neg h]
  cases s.tanks.activeTank.suction <;> rfl

theorem State.decideSuction_active (s : State) : s.decideSuction.tanks.active = s.tanks.active := by
  by_cases h : s.tanks.activeTank.suction = s.tanks.condition
  · rw [State.decideSuction_same h]
  · rw [State.decideSuction_changed h]
    cases s.tanks.activeTank.suction <;> rfl

theorem TankId.other_eq (t : TankId) : t.other = if t = .a then .b else .a := by cases t <;> rfl

theorem TankId.other_other (t : TankId) : t.other.other = t := by cases t <;> rfl

/-- The roles exchanged: the outgoing tank in its mix hold, so never READY (R97). -/
theorem TankUnit.exchange_eq (u : TankUnit) : u.exchange = { u with
    active := u.active.other, mixCount := some u.activeTank.mixHold
    standby := if u.activeTank.volume < u.activeTank.ready * 1000 then .filling else .mixing
    reference := if u.standbyTank.fresh then some u.standbyTank.volume else none, additions := 0, elapsed := 0 } := by
  have hout : u.tank u.active.other.other = u.activeTank := by rw [TankId.other_other]; rfl
  have hwork : ({ u with active := u.active.other, mixCount := some u.activeTank.mixHold } : TankUnit).workStandby
      = if u.activeTank.volume < u.activeTank.ready * 1000 then .filling else .mixing := by
    rw [← hout]
    rfl
  rw [TankUnit.exchange, TankUnit.reworked, hwork]
  rfl

theorem TankUnit.exchange_not_ready (u : TankUnit) : u.exchange.standby ≠ .ready := by
  rw [TankUnit.exchange_eq]
  show (if _ then StandbyState.filling else StandbyState.mixing) ≠ .ready
  split <;> decide

/-- The test of a swap decides the condition alone, and leaves the incoming tank ACTIVE (R97). -/
theorem State.swap_eq (cause : SwapCause) (s : State) :
    let u := s.reading s.tanks.activeTank.volume
    s.swap cause = ((u.setTanks u.tanks.exchange).suctionTest).raise .tankSwapped (.swapped u.tanks.active.other cause) := by
  intro u
  have hno : ¬((u.setTanks u.tanks.exchange).tanks.activeTank.volume
      ≤ (u.setTanks u.tanks.exchange).tanks.activeTank.low * 1000 ∧ (u.setTanks u.tanks.exchange).tanks.standby = .ready) :=
    fun h => u.tanks.exchange_not_ready h.2
  have hactive : (u.setTanks u.tanks.exchange).decideSuction.tanks.active = u.tanks.active.other := by
    rw [State.decideSuction_active, State.setTanks_tanks, TankUnit.exchange_eq]
  rw [State.suctionTest_decides hno, ← hactive]
  rfl

theorem Balanced.active {t : State} (h : Balanced s t) : t.tanks.active = s.tanks.active := by rw [h.tanks]

theorem Balanced.activeTank {t : State} (h : Balanced s t) : t.tanks.activeTank = s.tanks.activeTank := by
  rw [h.tanks]
  rfl

theorem Balanced.standbyTank {t : State} (h : Balanced s t) : t.tanks.standbyTank = s.tanks.standbyTank := by
  rw [h.tanks]
  rfl

end Suction

/-! ### The balance reading (R107 to R109) -/

section Readings

variable {s : State} {a : Fin 4} {j : Job} {loss : Int}

/-- The class a loss is found to be, TOTAL staying (R108). -/
def TankUnit.found (u : TankUnit) (loss : Int) : LossClass :=
  if u.lossClass = .total then .total else u.classify loss

/-- The column of the ACTIVE job as a change into a class marks it (R109). -/
def TankUnit.lossColumn (u : TankUnit) (c : LossClass) (y bit : Nat) (col : List Interval) : List Interval :=
  if c = u.lossClass then col else (lossMark u.lossClass c y).elim col fun f => markContaining bit f col

theorem TankUnit.classify_ne_total (u : TankUnit) (loss : Int) : u.classify loss ≠ .total := by
  unfold TankUnit.classify
  split_ifs <;> decide

/-- A reading's classification is the change into the class found. -/
theorem State.classifyReading_eq (loss : Int) (s : State) : s.classifyReading loss =
    if s.tanks.found loss = s.tanks.lossClass then s
    else (lossMark s.tanks.lossClass (s.tanks.found loss) (gainYield loss s.tanks.elapsed)).elim
      (s.classed (s.tanks.found loss)) fun f => (s.classed (s.tanks.found loss)).markBit f := by
  by_cases ht : s.tanks.lossClass = .total
  · have hfound : s.tanks.found loss = s.tanks.lossClass := (if_pos ht).trans ht.symm
    rw [if_pos hfound]
    exact if_pos ht
  · have hfound : s.tanks.found loss = s.tanks.classify loss := if_neg ht
    rw [State.classifyReading, if_neg ht, hfound]
    split
    next he => rw [he, State.changeLoss_same]
    next hne => rw [State.changeLoss_eq hne, if_neg (s.tanks.classify_ne_total loss)]

theorem State.classifyReading_tanks (loss : Int) (s : State) :
    (s.classifyReading loss).tanks = { s.tanks with lossClass := s.tanks.found loss } := by
  rw [State.classifyReading_eq]
  split
  next he => rw [he]
  · cases lossMark s.tanks.lossClass (s.tanks.found loss) (gainYield loss s.tanks.elapsed) with
    | none => rfl
    | some f => exact (State.markBit_own_frame f _).kept .tanks (by simp)

theorem State.classifyReading_attn_same (h : s.tanks.found loss = s.tanks.lossClass) :
    (s.classifyReading loss).attn = s.attn := by
  rw [State.classifyReading_eq, if_pos h]

theorem State.classifyReading_attn_changed (h : s.tanks.found loss ≠ s.tanks.lossClass) :
    (s.classifyReading loss).attn = (s.classed (s.tanks.found loss)).attn := by
  rw [State.classifyReading_eq, if_neg h]
  cases lossMark s.tanks.lossClass (s.tanks.found loss) (gainYield loss s.tanks.elapsed) with
  | none => rfl
  | some f => exact (State.markBit_own_frame f _).kept .attn (by simp)

theorem State.classifyReading_own_frame (loss : Int) (s : State) : Frame [.tanks, .jobs, .attn] s (s.classifyReading loss) := by
  rw [State.classifyReading_eq]
  split
  · exact Frame.rfl' _ s
  · have hclassed := (s.classed_frame (s.tanks.found loss)).mono (qs := [.tanks, .jobs, .attn]) (by simp)
    cases lossMark s.tanks.lossClass (s.tanks.found loss) (gainYield loss s.tanks.elapsed) with
    | none => exact hclassed
    | some f => exact hclassed.trans ((State.markBit_own_frame f _).mono (by simp))

theorem State.classifyReading_wrote (ha : ActiveIs s a j) : s.Wrote a { j with
    column := s.tanks.lossColumn (s.tanks.found loss) (gainYield loss s.tanks.elapsed) j.bitDepth j.column }
    (s.classifyReading loss) := by
  rw [State.classifyReading_eq, TankUnit.lossColumn]
  split
  · exact .refl ha.2
  · cases lossMark s.tanks.lossClass (s.tanks.found loss) (gainYield loss s.tanks.elapsed) with
    | none => exact .of_frame ha.2 (s.classed_frame _)
    | some f =>
      show s.Wrote a _ ((s.classed (s.tanks.found loss)).markBit f)
      rw [State.markBit_active (State.classed_active ha)]
      exact State.Wrote.setJob.frame_left (s.classed_frame _)

theorem State.classifyReading_idle (h : s.active? = none) : (s.classifyReading loss).jobs = s.jobs := by
  rw [State.classifyReading_eq]
  split
  · rfl
  · have hidle : (s.classed (s.tanks.found loss)).active? = none := ((s.classed_frame _).active?_eq (by simp)).trans h
    cases lossMark s.tanks.lossClass (s.tanks.found loss) (gainYield loss s.tanks.elapsed) with
    | none => rfl
    | some f =>
      show ((s.classed (s.tanks.found loss)).markBit f).jobs = s.jobs
      rw [State.markBit_idle hidle]
      rfl

/-- What a loss leaves in the remainder (R107). -/
def TankUnit.billed (u : TankUnit) (loss : Int) : TankUnit :=
  { u with remainder := if 0 < loss then (u.remainder + loss.toNat) % 1000 else u.remainder }

theorem State.billLoss_pos (h : 0 < loss) : s.billLoss loss =
    (s.active?.elim (s.setTanks (s.tanks.billed loss)) fun i =>
      (s.setTanks (s.tanks.billed loss)).addUnsettled i lostMudLine ((s.tanks.remainder + loss.toNat) / 1000 : Nat)) := by
  have hbilled : ({ s.tanks with remainder := (s.tanks.remainder + loss.toNat) % 1000 } : TankUnit) = s.tanks.billed loss := by
    rw [TankUnit.billed, if_pos h]
  have hactive : (s.setTanks (s.tanks.billed loss)).active? = s.active? := rfl
  simp only [State.billLoss, if_neg (Int.not_le.2 h), hbilled, hactive]
  cases s.active? <;> rfl

theorem State.billLoss_not_pos (h : ¬0 < loss) : s.billLoss loss = s := if_pos (Int.not_lt.1 h)

theorem TankUnit.billed_not_pos {u : TankUnit} (h : ¬0 < loss) : u.billed loss = u := by
  rw [TankUnit.billed, if_neg h]

theorem State.billLoss_tanks (loss : Int) (s : State) : (s.billLoss loss).tanks = s.tanks.billed loss := by
  by_cases h : 0 < loss
  · rw [State.billLoss_pos h]
    cases s.active? with
    | none => rfl
    | some i => exact (State.addUnsettled_frame i _ _ _).kept .tanks (by simp)
  · rw [State.billLoss_not_pos h, TankUnit.billed_not_pos h]

theorem State.billLoss_own_frame (loss : Int) (s : State) : Frame [.tanks, .jobs, .attn] s (s.billLoss loss) := by
  by_cases h : 0 < loss
  · rw [State.billLoss_pos h]
    have hset := (frame_tanks s (s.tanks.billed loss)).mono (qs := [.tanks, .jobs, .attn]) (by simp)
    cases s.active? with
    | none => exact hset
    | some i => exact hset.trans ((State.addUnsettled_frame i _ _ _).mono (by simp))
  · rw [State.billLoss_not_pos h]
    exact Frame.rfl' _ s

/-- A posting raises no kind but AMOUNT_SATURATED. -/
theorem State.addUnsettled_attn {k : Fin 22} (hk : k ≠ AttnKind.amountSaturated.ix) (i : Fin 4) (line : Fin 40) (q : Int)
    (s : State) : (s.addUnsettled i line q).attn[k] = s.attn[k] := by
  unfold State.addUnsettled
  split
  · rfl
  · simp only
    split
    · rfl
    · exact State.raise_attn_other _ _ hk

theorem State.billLoss_attn {k : Fin 22} (hk : k ≠ AttnKind.amountSaturated.ix) (loss : Int) (s : State) :
    (s.billLoss loss).attn[k] = s.attn[k] := by
  by_cases h : 0 < loss
  · rw [State.billLoss_pos h]
    cases s.active? with
    | none => rfl
    | some i => exact State.addUnsettled_attn hk i _ _ _
  · rw [State.billLoss_not_pos h]

/-- The ACTIVE job as the bill of a loss leaves it. -/
def Job.billedLoss (j : Job) (u : TankUnit) (loss : Int) : Job :=
  if 0 < loss then j.post (lostMudLine, (((u.remainder + loss.toNat) / 1000 : Nat) : Int)) else j

theorem State.billLoss_wrote (ha : ActiveIs s a j) : s.Wrote a (j.billedLoss s.tanks loss) (s.billLoss loss) := by
  unfold Job.billedLoss
  split
  next h =>
    rw [State.billLoss_pos h, ha.1]
    exact (State.addUnsettled_wrote (s := s.setTanks (s.tanks.billed loss)) ha.2 _ _).frame_left (frame_tanks s _)
  next h =>
    rw [State.billLoss_not_pos h]
    exact .refl ha.2

theorem State.billLoss_idle (h : s.active? = none) : (s.billLoss loss).jobs = s.jobs := by
  by_cases hl : 0 < loss
  · rw [State.billLoss_pos hl, h]
    rfl
  · rw [State.billLoss_not_pos hl]

/-- A reading's loss classified and billed, the accumulator's whole hundredths taken out first (R107). -/
def State.accounted (loss : Int) (s : State) : State :=
  ((s.setTanks { s.tanks with fill := s.tanks.fill % 100 }).classifyReading loss).billLoss loss

theorem State.reading_eq {reference measured : Nat} (h : s.tanks.reference = some reference)
    (hl : (reference : Int) + s.tanks.additions - (s.tanks.fill / 100 : Nat) - measured = loss) :
    s.reading measured = (s.accounted loss).setTanks
      { (s.accounted loss).tanks with reference := some measured, additions := 0, elapsed := 0 } := by
  rw [State.reading, h, ← hl]
  rfl

theorem State.accounted_tanks (loss : Int) (s : State) : (s.accounted loss).tanks =
    ({ s.tanks with fill := s.tanks.fill % 100, lossClass := s.tanks.found loss } : TankUnit).billed loss := by
  rw [State.accounted, State.billLoss_tanks, State.classifyReading_tanks]
  rfl

theorem State.accounted_attn_same (h : s.tanks.found loss = s.tanks.lossClass) :
    (s.accounted loss).attn[AttnKind.lossClass.ix] = s.attn[AttnKind.lossClass.ix] := by
  rw [State.accounted, State.billLoss_attn (by decide),
    State.classifyReading_attn_same (s := s.setTanks { s.tanks with fill := s.tanks.fill % 100 }) h]
  rfl

theorem State.accounted_attn_changed (h : s.tanks.found loss ≠ s.tanks.lossClass) :
    (s.accounted loss).attn[AttnKind.lossClass.ix].detail
      = some (.loss (s.tanks.found loss) (s.activeJob?.map Job.bitDepth)) := by
  rw [State.accounted, State.billLoss_attn (by decide),
    State.classifyReading_attn_changed (s := s.setTanks { s.tanks with fill := s.tanks.fill % 100 }) h,
    State.classed, State.raise_attn_same]
  rfl

theorem State.classifyReading_logged (loss : Int) (s : State) : s.Logged (s.classifyReading loss) := by
  rw [State.classifyReading_eq]
  split
  · exact .refl s
  · have hclassed : s.Logged (s.classed (s.tanks.found loss)) := (s.classed_frame _).logged
    cases lossMark s.tanks.lossClass (s.tanks.found loss) (gainYield loss s.tanks.elapsed) with
    | none => exact hclassed
    | some f => exact hclassed.trans (State.markBit_logged f _)

theorem State.accounted_idle (h : s.active? = none) : (s.accounted loss).jobs = s.jobs := by
  let u : State := s.setTanks { s.tanks with fill := s.tanks.fill % 100 }
  have hidle : (u.classifyReading loss).active? = none := (u.classifyReading_logged loss).active?.trans h
  exact (State.billLoss_idle hidle).trans (State.classifyReading_idle (s := u) h)

/-- The ACTIVE job as a reading leaves it. -/
def Job.accounted (j : Job) (u : TankUnit) (loss : Int) : Job :=
  { j with column := u.lossColumn (u.found loss) (gainYield loss u.elapsed) j.bitDepth j.column }.billedLoss u loss

theorem State.accounted_wrote (ha : ActiveIs s a j) : s.Wrote a (j.accounted s.tanks loss) (s.accounted loss) := by
  let u : State := s.setTanks { s.tanks with fill := s.tanks.fill % 100 }
  have hclass := State.classifyReading_wrote (s := u) (loss := loss) ha
  have hactive : ActiveIs (u.classifyReading loss) a _ := ⟨(u.classifyReading_logged loss).active?.trans ha.1, hclass.job?⟩
  have hbill := State.billLoss_wrote (loss := loss) hactive
  have hrem : (u.classifyReading loss).tanks.remainder = s.tanks.remainder := by
    rw [State.classifyReading_tanks]
    rfl
  rw [Job.billedLoss, hrem] at hbill
  exact (hclass.trans hbill).frame_left (frame_tanks s _)

theorem State.accounted_frame (loss : Int) (s : State) : Frame [.tanks, .jobs, .attn] s (s.accounted loss) :=
  (((frame_tanks s _).mono (by simp)).trans (State.classifyReading_own_frame ..)).trans (State.billLoss_own_frame ..)

end Readings

/-- Settles O45, from the standby state worked out to the swap. -/
theorem suctionRule : Obligations.SuctionRule := by
  intro s x y volume found worked condition changed swaps
  have hfound : s.tanks.workStandby = found := by
    simp only [TankUnit.workStandby, found]
    congr 1
    cases s.tanks.mixCount <;> rfl
  have hworked : s.setTanks s.tanks.reworked = worked := by
    rw [TankUnit.reworked, hfound]
    rfl
  have hcondition : s.tanks.activeTank.suction = condition := rfl
  refine ⟨fun h hn => ?_, fun h => ?_, fun h => State.suctionTest_swaps h, fun h hc => ?_, fun h hc => ?_, fun cause => ?_⟩
  · rw [State.reworkStandby_ready (hfound.trans h) hn, hworked]
  · rw [State.reworkStandby_quiet (by rwa [hfound]), hworked]
  · rw [State.suctionTest_decides h, State.decideSuction_same hc]
  · have htest := (State.suctionTest_decides h).trans (State.decideSuction_changed (s := s) hc)
    rw [hcondition] at htest
    exact ⟨fun hn => by rw [hn] at htest; exact htest, fun hl => by rw [hl] at htest; exact htest,
      fun he => by rw [he] at htest; exact htest⟩
  · intro u incoming
    have hkept := s.reading_balanced (volume x)
    have hout : u.activeTank = x := hkept.activeTank
    have hin : u.standbyTank = y := hkept.standbyTank
    have hother : u.active.other = incoming := by
      rw [hkept.active]
      exact s.tanks.active.other_eq
    have hexchange := u.exchange_eq
    rw [hout, hin] at hexchange
    rw [← hother]
    exact (s.swap_eq cause).trans (congrArg (fun v => (((s.reading (volume x)).setTanks v).suctionTest).raise .tankSwapped
      (.swapped u.active.other cause)) hexchange)

/-- A change of class marks LOSS_ZONE into SEVERE and WATER with the yield into GAIN (R109, R156). -/
theorem TankUnit.lossColumn_eq (u : TankUnit) (loss : Int) (y bit : Nat) (col : List Interval) :
    u.lossColumn (u.found loss) y bit col =
      if u.found loss = u.lossClass then col
      else match u.found loss with
        | .severe => markContaining bit (fun iv => { iv with lossZone := true }) col
        | .gain => markContaining bit (fun iv => { iv with water := true, yield := some (iv.yield.getD y) }) col
        | _ => col := by
  have hyield : (fun iv : Interval => { iv with water := true, yield := iv.yield <|> some y })
      = fun iv : Interval => { iv with water := true, yield := some (iv.yield.getD y) } :=
    funext fun iv => by cases hy : iv.yield <;> rfl
  rw [TankUnit.lossColumn]
  split
  · rfl
  next hne =>
    have hold : u.lossClass ≠ .total := fun ht => hne ((if_pos ht).trans ht.symm)
    cases hf : u.found loss with
    | severe => simp only [lossMark, if_neg hold, Option.elim_some]
    | gain => simp only [lossMark, hyield, Option.elim_some]
    | total => exact absurd hf ((if_neg hold).trans_ne (u.classify_ne_total loss))
    | normal | seepage => rfl

/-- Settles O46: what the classification and the bill of a reading each leave, put together. -/
theorem balanceReadingRule : Obligations.BalanceReadingRule := by
  intro s measured u t
  refine ⟨fun hn => ?none, fun reference hr => ?valid⟩
  case none =>
    show s.reading measured = s
    rw [State.reading, hn]
  case valid =>
    intro loss found yield marked
    have hloss : (reference : Int) + s.tanks.additions - (s.tanks.fill / 100 : Nat) - measured = loss := by
      rw [← Nat.cast_add]
    have hfound : s.tanks.found loss = found := rfl
    have ht : t = (s.accounted loss).setTanks
        { (s.accounted loss).tanks with reference := some measured, additions := 0, elapsed := 0 } :=
      State.reading_eq hr hloss
    rw [ht]
    refine ⟨?tanks, fun h => State.accounted_attn_same (hfound.trans h), fun h => State.accounted_attn_changed h,
      fun h => State.accounted_idle h, fun a j ha => ?jobs, ?frame⟩
    case tanks => rw [State.setTanks_tanks, State.accounted_tanks]; rfl
    case jobs =>
      refine (State.accounted_wrote (loss := loss) ha).jobs.trans ?_
      have hcol : u.lossColumn found (gainYield loss u.elapsed) j.bitDepth j.column = marked j.bitDepth j.column :=
        u.lossColumn_eq loss yield j.bitDepth j.column
      have hjob : j.accounted u loss = { j with
          column := marked j.bitDepth j.column
          sheet :=
            if 0 < loss then j.sheet.set 34 { j.sheet[34] with
              unsettled := clampLine (j.sheet[34].unsettled + ((u.remainder + loss.toNat) / 1000 : Nat)) }
            else j.sheet } := by
        rw [Job.accounted, hfound, hcol, Job.billedLoss]
        split <;> rfl
      rw [hjob]
      rfl
    case frame => exact (State.accounted_frame loss s).trans ((frame_tanks _ _).mono (by simp))

end Sys2Proof.Machine
end

section
/-! PROOFS. The requests of the Lag Calculator, of the Transit List and of the Strata Column. -/

namespace Sys2Proof.Machine

-- One proof at a time: proofs elaborated at once add up past the memory of the check.
set_option Elab.async false

theorem indexFrom0_val {n : Nat} {k : Nat} {i : Fin n} (h : k = i.val) : indexFrom0 n k = some i := by
  subst h
  exact dif_pos i.isLt

/-! ### Samples -/

section Samples

variable {s : State} {a : Fin 4} {p : Parcel}

theorem withSample_found (k : Fin 4 → Parcel → Reply) (ha : s.active? = some a) (hp : s.oldestArrived = some p) :
    withSample s k = k a p := by
  simp only [withSample, ha, hp]

theorem serveTakeSample_eq (level : Nat) {lith : Word} {l : Fin 64} (yield : List Word) (hy : yield.length ≤ 1)
    (hl : one lith = l.val) (s : State) :
    serveTakeSample level (lith :: yield) s = s.takeSample l.val (yield.head?.map one) := by
  match yield with
  | [] => exact congrArg (fun k => s.takeSample k none) hl
  | [y] => exact congrArg (fun k => s.takeSample k (some (one y))) hl
  | _ :: _ :: _ => simp at hy

theorem State.takeSample_of_some {l : Fin 64} {yield : Option Nat} {t : State} (ha : s.active? = some a)
    (hp : s.oldestArrived = some p) (ht : s.bindRange a (.sample l yield) p.top p.bottom = some t) :
    s.takeSample l.val yield = answer (u32 p.ordinal ++ u32 p.top ++ u32 p.bottom ++ flag p.merged)
      { t with transit := { s.transit with parcels := removeArrived s.transit.parcels } } := by
  have htransit : t.transit = s.transit := (State.bindRange_frame _ _ _ _ _ _ ht).kept .transit (by simp)
  simp only [State.takeSample, indexFrom0_val rfl, withSample_found _ ha hp, ht, State.dropSample, State.setParcels,
    htransit]

theorem State.takeSample_of_none {l : Fin 64} {yield : Option Nat} (ha : s.active? = some a)
    (hp : s.oldestArrived = some p) (hn : s.bindRange a (.sample l yield) p.top p.bottom = none) :
    s.takeSample l.val yield = .error .columnFull := by
  simp only [State.takeSample, indexFrom0_val rfl, withSample_found _ ha hp, hn]

end Samples

/-- Settles O49; a sample by whether its range can be bound. -/
theorem lagAndTransitRequestsComplete : Obligations.LagAndTransitRequestsComplete := by
  refine fun r s => ⟨fun w z1 z0 first i j taken hj hz h1 h9 => ?lag,
    fun v1 v0 taken hv => takeRequest_accepted taken (if_pos hv), fun taken => takeRequest_accepted taken rfl,
    fun n taken h1 h48 => ⟨fun p hp => takeRequest_accepted taken ?parcel, fun hn => takeRequest_refused taken ?absent⟩,
    fun n taken h10 h200 => takeRequest_accepted taken (if_pos (within_true h10 h200)),
    fun lith l yield a p hy taken hl ha hp => ⟨fun t ht => takeRequest_accepted taken ?bound,
      fun hn => takeRequest_refused taken ?unbound⟩,
    fun a p taken ha hp => takeRequest_accepted taken (withSample_found (s := s.heard 116 r) _ ha hp)⟩
  case lag =>
    refine takeRequest_accepted taken ((withJob_named (s := s.heard 96 r) _ hj).trans (if_pos ?_))
    simp [hz, within_true h1 h9]
  case parcel =>
    have hheard : (s.heard 113 r).transit.parcels[one n - 1]? = some p := hp
    simp only [serveReadParcel, within_true h1 h48, if_true, hheard]
    rfl
  case absent =>
    have hheard : (s.heard 113 r).transit.parcels[one n - 1]? = none :=
      List.getElem?_eq_none (Nat.le_sub_one_of_lt hn)
    simp only [serveReadParcel, within_true h1 h48, if_true, hheard]
  case bound =>
    exact (serveTakeSample_eq _ yield hy hl _).trans (State.takeSample_of_some (s := s.heard 115 r) ha hp ht)
  case unbound =>
    exact (serveTakeSample_eq _ yield hy hl _).trans (State.takeSample_of_none (s := s.heard 115 r) ha hp hn)

/-! ### The Strata Column's requests -/

section Strata

variable {table : Vector LithEntry 64} {l : Fin 64} {hole : Nat} {j : Job} {above : List Interval} {deepest : Interval}

@[simp] theorem RockClass.ofCode_code (c : RockClass) : RockClass.ofCode c.code = some c := by cases c <;> rfl

theorem printable_iff {n : Name} : printable n = true ↔ ∀ c ∈ n.toList, 32 ≤ c.toNat ∧ c.toNat ≤ 126 := by
  rw [printable, List.all_eq_true]
  exact forall₂_congr fun c _ => by simp

/-- The bed a change of formation opens under a deepest interval that has some thickness (R145). -/
def freshBed (table : Vector LithEntry 64) (l : Fin 64) (hole : Nat) : Interval :=
  { top := hole, bottom := hole, lith := l, cls := table[l].cls, source := .driller
    status := .pending, lossZone := false, water := false, merged := false, yield := none, minutes := 0 }

theorem openBed_thin (ht : deepest.top = deepest.bottom) :
    openBed table l hole (above ++ [deepest]) = some (above ++ [{ deepest with lith := l, cls := table[l].cls }]) := by
  simp [openBed, ht]

theorem openBed_thick (ht : deepest.top ≠ deepest.bottom) : openBed table l hole (above ++ [deepest])
    = (seekRoom (fun _ => 1) columnLimit (above ++ [deepest])).map fun roomy => roomy ++ [freshBed table l hole] := by
  simp [openBed, ht, freshBed]

theorem seekRoom_one_of_lt {col : List Interval} (h : col.length < 96) :
    seekRoom (fun _ => 1) columnLimit col = some col :=
  seekRoom_of_room (Nat.le_sub_of_add_le (by simpa [columnLimit, Nat.add_comm] using h)) _

theorem seekRoom_one_of_full {col : List Interval} (h : col.length = 96) :
    seekRoom (fun _ => 1) columnLimit col = (capacityMerge col).bind (seekRoom (fun _ => 1) columnLimit) :=
  seekRoom_again (fuel := 95) (Nat.le_of_eq h) (by simp [columnLimit, h])

theorem seekRoom_one_of_merge {col merged : List Interval} (h : col.length = 96) (hm : capacityMerge col = some merged) :
    seekRoom (fun _ => 1) columnLimit col = some merged := by
  have hlen := capacityMerge_length hm
  rw [seekRoom_one_of_full h, hm, Option.bind_some, seekRoom_one_of_lt (by omega)]

theorem seekRoom_one_of_none {col : List Interval} (h : col.length = 96) (hm : capacityMerge col = none) :
    seekRoom (fun _ => 1) columnLimit col = none := by
  rw [seekRoom_one_of_full h, hm, Option.bind_none]

theorem serveFormationChange_some {s : State} {a : Fin 4} {lith : Word} {col : List Interval} (level : Nat)
    (hl : one lith = l.val) (h : ActiveIs s a j) (hcol : openBed s.lith l j.holeDepth j.column = some col) :
    serveFormationChange level [lith] s
      = accept ((s.setJob a { j with column := col, declared := l }).closeForming a) := by
  simp only [serveFormationChange, indexFrom0_val hl, h.1, h.2, hcol]

theorem serveFormationChange_none {s : State} {a : Fin 4} {lith : Word} (level : Nat)
    (hl : one lith = l.val) (h : ActiveIs s a j) (hcol : openBed s.lith l j.holeDepth j.column = none) :
    serveFormationChange level [lith] s = .error .columnFull := by
  simp only [serveFormationChange, indexFrom0_val hl, h.1, h.2, hcol]

theorem Job.readPlace_of_some {k : Nat} {iv : Interval} (s : State) (h : j.column[k]? = some iv) :
    j.readPlace k s
      = answer (iv.words ++ u16 (k + 1) ++ u16 j.column.length ++ u32 j.holeDepth ++ u32 j.settleMark) s := by
  simp only [Job.readPlace, h]

end Strata

/-- Settles O53; FORMATION_CHANGE by how the column takes the new bed. -/
theorem strataRequestsComplete : Obligations.StrataRequestsComplete := by
  refine fun r s => ⟨fun first taken h63 => takeRequest_accepted taken (if_pos h63),
    fun entry n0 n1 n2 n3 cls k c taken hk h0 hc hname => takeRequest_accepted taken ?lithology,
    fun lith l a j above deepest taken hl ha hcol => ?formation,
    fun w t1 t0 b1 b0 lith l i j taken hj hopen hl htb hhole => ?revise,
    fun w d1 d0 yield i j taken hj hopen hd hhole => takeRequest_accepted taken ?water, fun w i j hj => ?interval⟩
  case lithology =>
    have hok : ¬(k = 0 ∨ printable (nameOf n0 n1 n2 n3) = false) := by
      simpa [h0] using printable_iff.2 hname
    simp only [serveSetLithology, indexFrom0_val hk, hc, RockClass.ofCode_code, if_neg hok]
    rfl
  case formation =>
    intro left bed
    have hactive : ActiveIs (s.heard 130 r) a j := ha
    refine ⟨fun hthin => ?_, fun hthick hroom => ?_, fun hthick hfull col hmerge => ?_, fun hthick hfull hmerge => ?_⟩
    · exact takeRequest_accepted taken (serveFormationChange_some _ hl hactive (by rw [hcol]; exact openBed_thin hthin))
    · refine takeRequest_accepted taken (serveFormationChange_some _ hl hactive ?_)
      rw [hcol, openBed_thick hthick, ← hcol, seekRoom_one_of_lt hroom]
      rfl
    · refine takeRequest_accepted taken (serveFormationChange_some _ hl hactive ?_)
      rw [hcol, openBed_thick hthick, ← hcol, seekRoom_one_of_merge hfull hmerge]
      rfl
    · refine takeRequest_refused taken (serveFormationChange_none _ hl hactive ?_)
      rw [hcol, openBed_thick hthick, ← hcol, seekRoom_one_of_none hfull hmerge]
      rfl
  case revise =>
    have hserve : serveReviseInterval r.level.toNat [w, t1, t0, b1, b0, lith] (s.heard 131 r)
        = (s.heard 131 r).reviseInterval r.level.toNat i j (two t1 t0) (two b1 b0) l := by
      refine (withUnclosedJob_named (s := s.heard 131 r) _ hj hopen).trans ?_
      simp only [indexFrom0_val hl]
    have hrange : ¬(two b1 b0 ≤ two t1 t0 ∨ j.holeDepth < two b1 b0) := by omega
    refine ⟨fun hmark hlevel => takeRequest_refused taken (hserve.trans ?_),
      fun hlevel => ⟨fun t ht => takeRequest_accepted taken (hserve.trans ?_),
        fun hn => takeRequest_refused taken (hserve.trans ?_)⟩⟩
    · simp only [State.reviseInterval, if_neg hrange, hmark, hlevel, and_self, if_true]
    · have hfree : ¬(two t1 t0 < j.settleMark ∧ 1 < r.level.toNat) := by omega
      simp only [State.reviseInterval, if_neg hrange, if_neg hfree, ht]
      rfl
    · have hfree : ¬(two t1 t0 < j.settleMark ∧ 1 < r.level.toNat) := by omega
      simp only [State.reviseInterval, if_neg hrange, if_neg hfree, hn]
  case water =>
    have hrange : ¬(100000 < two d1 d0 ∨ j.holeDepth < two d1 d0) := by omega
    have hjob : (s.heard 132 r).job? i = some j := hj.2.1
    refine (withUnclosedJob_named (s := s.heard 132 r) _ hj hopen).trans ((if_neg hrange).trans ?_)
    rw [State.setColumn, State.modifyJob_some hjob]
    rfl
  case interval =>
    intro shown
    refine ⟨fun d1 d0 iv taken hd hhole hiv => takeRequest_accepted taken ?_,
      fun n iv taken h1 h96 hiv => takeRequest_accepted taken ?_⟩
    · refine (withJob_named (s := s.heard 133 r) _ hj).trans ?_
      simp only [if_neg (not_lt.2 hd), if_neg (not_lt.2 hhole), Job.readPlace_of_some _ hiv]
      rfl
    · refine (withJob_named (s := s.heard 133 r) _ hj).trans ?_
      simp only [within_true h1 h96, if_true, Job.readPlace_of_some _ hiv]
      rfl

end Sys2Proof.Machine
end

section
/-! PROOFS. The Job Sheet: a kind raised several times over, the requests, and the minute that has ended. -/

namespace Sys2Proof.Machine

-- One proof at a time: proofs elaborated at once add up past the memory of the check.
set_option Elab.async false

/-! ### One kind raised several times -/

/-- An attention entry after its kind was raised with each of a list of details (R185). -/
def AttnEntry.raisedAll (e : AttnEntry) (ds : List Detail) : AttnEntry := ds.foldl AttnEntry.raised e

section RaisedAll

variable {e : AttnEntry}

theorem AttnEntry.raisedAll_append (e : AttnEntry) (ds ds' : List Detail) :
    e.raisedAll (ds ++ ds') = (e.raisedAll ds).raisedAll ds' := List.foldl_append ..

theorem AttnEntry.raisedAll_mask (e : AttnEntry) (ds : List Detail) : (e.raisedAll ds).mask = e.mask := by
  induction ds generalizing e with
  | nil => rfl
  | cons d ds ih => exact ih (e.raised d)

theorem AttnEntry.raisedAll_count (e : AttnEntry) (ds : List Detail) (m : Nat) :
    min ((e.raisedAll ds).count + m) 255 = min (e.count + (ds.length + m)) 255 := by
  induction ds generalizing e with
  | nil => rw [List.length_nil, Nat.zero_add]; rfl
  | cons d ds ih =>
    have hraised : (e.raised d).count = min (e.count + 1) 255 := rfl
    have hih := ih (e.raised d)
    rw [hraised] at hih
    rw [AttnEntry.raisedAll, List.foldl_cons, List.length_cons]
    exact hih.trans (by omega)

/-- The count of a kind rises once for each raising up to 255, and its detail is the last one's (R185). -/
theorem AttnEntry.raisedAll_concat (e : AttnEntry) (earlier : List Detail) (last : Detail) :
    e.raisedAll (earlier ++ [last])
      = { pending := true, mask := e.mask
          count := min (e.count + (earlier.length + 1)) 255, detail := some last } := by
  rw [AttnEntry.raisedAll_append]
  calc (e.raisedAll earlier).raised last
      = { pending := true, mask := (e.raisedAll earlier).mask
          count := min ((e.raisedAll earlier).count + 1) 255, detail := some last } := rfl
    _ = _ := by rw [AttnEntry.raisedAll_mask, AttnEntry.raisedAll_count]

/-- The same, of details read off a list. -/
theorem AttnEntry.raisedAll_map {α : Type} (e : AttnEntry) (detail : α → Detail) (xs : List α) :
    (xs = [] → e.raisedAll (xs.map detail) = e)
      ∧ ∀ earlier last, xs = earlier ++ [last] → e.raisedAll (xs.map detail) =
        { pending := true, mask := e.mask, count := min (e.count + xs.length) 255, detail := some (detail last) } := by
  refine ⟨fun h => by subst h; rfl, fun earlier last h => ?_⟩
  subst h
  rw [List.map_append, List.map_singleton, AttnEntry.raisedAll_concat, List.length_map, List.length_append,
    List.length_singleton]

end RaisedAll

/-! ### Settlement -/

/-- Settling the line raises AMOUNT_SATURATED (R171; log 24). -/
def State.saturates (s : State) (j : Job) (line : Fin 40) : Bool :=
  let raw := rawAmount line (s.linePrice j line) j.sheet[line].unsettled
  j.sheet[line].unsettled != 0
    && (clampLine raw != raw || atLimit (s.settledLine j line).settled || atLimit (s.settledLine j line).amount)

section Settle

variable {s u : State} {i : Fin 4} {j : Job} {line : Fin 40}

theorem atLimit_iff {z : Int} : atLimit z = true ↔ z = 2147483647 ∨ z = -2147483647 := by
  simp [atLimit, lineLimit]

/-- An amount saturates when its magnitude is past the limit. -/
theorem clampLine_rawAmount_ne_iff {price : Nat} {q : Int} :
    clampLine (rawAmount line price q) ≠ rawAmount line price q ↔ 2147483647 < amountNat line price q.natAbs := by
  simp only [clampLine, lineLimit, rawAmount]
  split <;> omega

theorem State.saturates_iff : s.saturates j line = true ↔ j.sheet[line].unsettled ≠ 0
    ∧ (2147483647 < amountNat line (s.linePrice j line) j.sheet[line].unsettled.natAbs
      ∨ atLimit (s.settledLine j line).settled = true ∨ atLimit (s.settledLine j line).amount = true) := by
  simp only [State.saturates, Bool.and_eq_true, Bool.or_eq_true, bne_iff_ne, clampLine_rawAmount_ne_iff, or_assoc]

theorem State.settledLine_of_ne (h : j.sheet[line].unsettled ≠ 0) : s.settledLine j line =
    { settled := clampLine (j.sheet[line].settled + j.sheet[line].unsettled), unsettled := 0
      amount := clampLine (j.sheet[line].amount + lineAmount line (s.linePrice j line) j.sheet[line].unsettled) } :=
  if_neg h

theorem State.settleLine_attn (hj : s.job? i = some j) (line : Fin 40) : (s.settleLine i line).attn =
    if s.saturates j line then (s.raise .amountSaturated (.saturated (s.jobHandle i) line .settled)).attn
    else s.attn := by
  unfold State.settleLine
  rw [hj]
  simp only
  split
  next hzero => rw [State.saturates, hzero]; rfl
  next hsome =>
    have hsaturates := s.saturates_iff (j := j) (line := line)
    rw [State.settledLine_of_ne hsome, ← clampLine_rawAmount_ne_iff] at hsaturates
    split
    next hlimit => rw [if_pos (hsaturates.2 ⟨hsome, hlimit⟩)]; rfl
    next hlimit => rw [if_neg fun h => hlimit (hsaturates.1 h).2]; rfl

/-- What a line's settlement raises is settled by the line as it stands. -/
theorem State.saturates_congr {sheet : Vector Line 40} (ht : u.tanks = s.tanks) (hr : u.roster = s.roster)
    (hline : sheet[line] = j.sheet[line]) : u.saturates { j with sheet := sheet } line = s.saturates j line := by
  simp only [State.saturates, State.settledLine, hline, State.linePrice_congr ht hr]

/-- Different lines settled one after another raise AMOUNT_SATURATED for each that saturates, in their order. -/
theorem State.settleLines_attn {lines done : List (Fin 40)} (hn : (done ++ lines).Nodup)
    (hf : Frame [.jobs, .attn] s u) (hu : s.Wrote i { j with sheet := s.settledSheet j done } u) :
    let t := lines.foldl (fun s line => s.settleLine i line) u
    (∀ k, k ≠ AttnKind.amountSaturated.ix → t.attn[k] = u.attn[k])
      ∧ t.attn[AttnKind.amountSaturated.ix] = u.attn[AttnKind.amountSaturated.ix].raisedAll
        ((lines.filter (s.saturates j)).map fun line => .saturated (s.jobHandle i) line .settled) := by
  induction lines generalizing done u with
  | nil => exact ⟨fun _ _ => rfl, rfl⟩
  | cons line lines ih =>
    have hl : line ∉ done := fun hm => (List.nodup_append.1 hn).2.2 line hm line List.mem_cons_self rfl
    have hline : (s.settledSheet j done)[line] = j.sheet[line] := by rw [State.settledSheet_get, if_neg hl]
    have hattn := State.settleLine_attn hu.job? line
    rw [State.saturates_congr (hf.kept .tanks (by simp)) (hf.kept .roster (by simp)) hline,
      State.jobHandle, hu.gen, ← State.jobHandle] at hattn
    obtain ⟨hother, hsame⟩ := ih (done := done ++ [line]) (by simpa using hn) (hf.trans (State.settleLine_frame ..))
      (State.settleLine_settledSheet hl hf hu)
    refine ⟨fun k hk => (hother k hk).trans ?_, hsame.trans ?_⟩
    · rw [hattn]
      split
      · exact State.raise_attn_other _ _ hk
      · rfl
    · rw [hattn, List.filter_cons]
      split
      · rw [State.raise_attn_same]; rfl
      · rfl

/-- What a settlement raises (R171). -/
theorem State.settle_attn (hj : s.job? i = some j) :
    (∀ k, k ≠ AttnKind.amountSaturated.ix → (s.settle i).attn[k] = s.attn[k])
      ∧ (s.settle i).attn[AttnKind.amountSaturated.ix] = s.attn[AttnKind.amountSaturated.ix].raisedAll
        (((List.finRange 40).filter (s.saturates j)).map fun line => .saturated (s.jobHandle i) line .settled) := by
  have hn : (List.finRange 40).Nodup := List.nodup_finRange 40
  unfold State.settle
  revert hn
  generalize List.finRange 40 = lines
  intro hn
  have hlines := State.settleLines_attn (done := []) (lines := lines) hn (Frame.rfl' _ s)
    (by rw [State.settledSheet_nil]; exact .refl hj)
  have hmark : ∀ u : State, (u.modifyJob i fun j => { j with settleMark := j.holeDepth }).attn = u.attn := fun u =>
    (State.modifyJob_frame (i := i) (f := fun j => { j with settleMark := j.holeDepth }) (s := u)).kept .attn (by simp)
  rw [hmark]
  exact hlines

theorem State.settledWords_eq (hj : s.job? i = some j) : s.settledWords i = u32 j.settleMark ++ i32 (s.jobTotal j)
    ++ flag (atLimit (s.jobTotal j)) := by
  simp only [State.settledWords, hj]

theorem serveSettle_open {w : Word} (level : Nat) (h : NamesJob w s i j) (hp : j.phase = .active ∨ j.phase = .suspended) :
    serveSettle level [w] s = answer ((s.settle i).settledWords i) (s.settle i) := by
  have hclosed : j.phase ≠ .closed := by rcases hp with hp | hp <;> simp [hp]
  have hopened : j.phase ≠ .opened := by rcases hp with hp | hp <;> simp [hp]
  refine (withUnclosedJob_named _ h hclosed).trans ?_
  simp only [ne_eq, not_true_eq_false, if_false, if_neg hopened]

/-- The price words of the four rod types, in their order. -/
theorem toList_four {α : Type} (v : Vector α 4) : v.toList = [v[0], v[1], v[2], v[3]] := by
  obtain ⟨⟨l⟩, hl⟩ := v
  match l, hl with
  | [_, _, _, _], _ => rfl

end Settle

/-- Settles O57; a settlement by its sheet (`settle_sheet`) and by what it raises (`settle_attn`). -/
theorem sheetRequestsComplete : Obligations.SheetRequestsComplete := by
  refine fun r s w i j hj => ⟨fun first taken h1 h40 => takeRequest_accepted taken ?sheet,
    fun taken => takeRequest_accepted taken ?rates, fun taken hp => ?settle⟩
  case sheet =>
    exact (withJob_named (s := s.heard 144 r) _ hj).trans (if_pos (within_true h1 h40))
  case rates =>
    refine (withJob_named (s := s.heard 145 r) _ hj).trans ((if_pos rfl).trans ?_)
    rw [State.rateWords, toList_four]
    simp only [List.flatMap_cons, List.flatMap_nil, List.append_nil, List.append_assoc]
    rfl
  case settle =>
    have hjob : (s.heard 146 r).job? i = some j := hj.2.1
    have hsheet := State.settle_sheet hjob
    obtain ⟨hother, hraised⟩ := State.settle_attn hjob
    have hserve : serveSettle r.level.toNat [w] (s.heard 146 r) = answer
        (u32 j.holeDepth ++ i32 (((s.heard 146 r).settle i).jobTotal
            { j with sheet := (s.heard 146 r).settledAll j, settleMark := j.holeDepth })
          ++ flag (atLimit (((s.heard 146 r).settle i).jobTotal
            { j with sheet := (s.heard 146 r).settledAll j, settleMark := j.holeDepth }))) ((s.heard 146 r).settle i) := by
      rw [serveSettle_open (s := s.heard 146 r) _ hj hp, State.settledWords_eq hsheet.job?]
    have hline : ∀ line : Fin 40, ((s.heard 146 r).settledAll j)[line] = s.settledLine j line :=
      State.settledAll_get (s.heard 146 r) j
    generalize (s.heard 146 r).settledAll j = sheet at hsheet hserve hline
    refine ⟨(s.heard 146 r).settle i, { j with sheet := sheet, settleMark := j.holeDepth },
      takeRequest_accepted taken hserve, hsheet.job?, rfl, hline, fun k hk => hsheet.slot_other (Ne.symm hk),
      ((State.heard_frame ..).mono (by simp)).trans ((State.settle_frame ..).mono (by simp)), hother, ?_⟩
    intro atLimit increment full
    have hfull : ∀ line, s.saturates j line = true ↔ full line := fun line => by
      rw [State.saturates_iff]
      refine and_congr_right fun hn => ?_
      rw [← hline, atLimit_iff, atLimit_iff]
      rfl
    obtain ⟨hnone, hsome⟩ := AttnEntry.raisedAll_map s.attn[AttnKind.amountSaturated.ix]
      (fun line => .saturated (.job i s.jobs[i].gen) line .settled) ((List.finRange 40).filter (s.saturates j))
    exact ⟨(List.finRange 40).filter (s.saturates j), (List.pairwise_lt_finRange 40).filter _,
      fun line => by rw [List.mem_filter, hfull]; simp, fun h => hraised.trans (hnone h),
      fun earlier last h => hraised.trans (hsome earlier last h)⟩

/-! ### The minute that has ended -/

section Minute

variable {s : State} {a : Fin 4} {j : Job}

/-- What a minute leaves of the 740 before its marks are cleared (R157, R164). -/
def State.minuteBilled (a : Fin 4) (c : Activity) (s : State) : State :=
  if c = .drilling then (s.addUnsettled a c.line 1).modifyJob a fun j => { j with column := creditMinute j.column }
  else s.addUnsettled a c.line 1

theorem State.minuteBilled_frame (a : Fin 4) (c : Activity) (s : State) : Frame [.jobs, .attn] s (s.minuteBilled a c) := by
  unfold State.minuteBilled
  split
  · exact (State.addUnsettled_frame ..).trans ((State.modifyJob_frame ..).mono (by simp))
  · exact State.addUnsettled_frame ..

/-- The job as a minute of an activity leaves it. -/
def Job.minuted (j : Job) (c : Activity) : Job :=
  { j.post (c.line, 1) with column := if c = .drilling then creditMinute j.column else j.column }

theorem Job.minuted_column {c : Activity} (j : Job) (h : c ≠ .drilling) : (j.minuted c).column = j.column := if_neg h

theorem Job.minuted_sheet_same {c : Activity} (j : Job) : (j.minuted c).sheet[c.line] =
    { j.sheet[c.line] with unsettled := clampLine (j.sheet[c.line].unsettled + 1) } := by
  simp [Job.minuted, Job.post]

theorem Job.minuted_sheet_other {c : Activity} {line : Fin 40} (j : Job) (h : c.line ≠ line) :
    (j.minuted c).sheet[line] = j.sheet[line] := by
  have hne : c.line.val ≠ line.val := fun he => h (Fin.ext he)
  simp [Job.minuted, Job.post, Vector.getElem_set_ne _ _ hne]

theorem State.minuteBilled_wrote (hj : s.job? a = some j) (c : Activity) :
    s.Wrote a (j.minuted c) (s.minuteBilled a c) := by
  have hposted := State.addUnsettled_wrote hj c.line 1
  unfold State.minuteBilled Job.minuted
  split
  · exact hposted.trans (.modifyJob hposted.job?)
  · exact hposted

theorem State.sheetMinute_idle (h : s.active? = none) : s.sheetMinute = { s with
    drilling := false, engine := { s.engine with tripping := s.engine.tripping && s.engine.op.isSome } } := by
  simp only [State.sheetMinute, h]

theorem State.sheetMinute_active (h : ActiveIs s a j) : s.sheetMinute = { s.minuteBilled a (s.classifyMinute j) with
    drilling := false, engine := { s.engine with tripping := s.engine.tripping && s.engine.op.isSome } } := by
  have hengine : (s.minuteBilled a (s.classifyMinute j)).engine = s.engine :=
    (State.minuteBilled_frame ..).kept .engine (by simp)
  rw [← hengine]
  simp only [State.sheetMinute, h.1, h.2]
  rfl

theorem State.sheetMinute_jobs (h : ActiveIs s a j) :
    s.sheetMinute.jobs = (s.minuteBilled a (s.classifyMinute j)).jobs := by
  rw [State.sheetMinute_active h]

theorem Activity.line_eq_iff {c : Activity} : c.line.val + 1 = 13 ↔ c = .drilling := by cases c <;> decide

/-- The line of the minute, by its number (R158, R164). -/
theorem State.classifyMinute_line (s : State) (j : Job) : (s.classifyMinute j).line.val + 1 =
    if s.mode.mode = .standby ∨ s.mode.mode = .waking then 17
    else if j.down then 18
    else if s.drilling then 13
    else if s.engine.tripping = true ∨ s.engine.op ≠ none then 15
    else if s.pumps.circ ≠ .stopped then 14
    else 16 := by
  have htrip : (s.engine.tripping || s.engine.op.isSome) = true ↔ s.engine.tripping = true ∨ s.engine.op ≠ none := by
    rw [Bool.or_eq_true, Option.isSome_iff_ne_none]
  simp only [State.classifyMinute, htrip]
  split_ifs <;> rfl

end Minute

/-- Settles O58; the line by `classifyMinute_line`, and what the minute writes by `minuteBilled_wrote`. -/
theorem minuteRule : Obligations.MinuteRule := by
  intro s t
  have hmarks : t.drilling = false
      ∧ t.engine = { s.engine with tripping := s.engine.tripping && s.engine.op.isSome } := by
    cases h : s.active? with
    | none => exact ⟨rfl, congrArg State.engine (State.sheetMinute_idle h)⟩
    | some a =>
      obtain ⟨j, hj, _⟩ := State.active?_job h
      exact ⟨rfl, congrArg State.engine (State.sheetMinute_active hj)⟩
  refine ⟨hmarks.1, hmarks.2, fun h => ?_, fun a j h => ?_⟩
  · have ht : t = _ := State.sheetMinute_idle h
    rw [ht]
    exact ((frame_drilling s false).mono (qs := [.drilling, .engine]) (by simp)).trans
      ((frame_engine ..).mono (by simp))
  · intro number
    have hnumber : (s.classifyMinute j).line.val + 1 = number := s.classifyMinute_line j
    have hjobs : t.jobs = (s.minuteBilled a (s.classifyMinute j)).jobs := State.sheetMinute_jobs h
    have hwrote := State.minuteBilled_wrote h.2 (s.classifyMinute j)
    generalize s.classifyMinute j = c at hnumber hjobs hwrote
    refine ⟨(State.sheetMinute_frame s).mono (by simp), j.minuted c, hjobs.trans hwrote, rfl,
      fun line hline => j.minuted_sheet_other fun he => hline (by rw [← hnumber, he]),
      fun line hline => ?_, fun hne => j.minuted_column fun he => hne (hnumber ▸ Activity.line_eq_iff.2 he),
      fun above deepest he hcol => ?_⟩
    · obtain rfl : c.line = line := Fin.ext (by omega)
      exact j.minuted_sheet_same
    · rw [Job.minuted, if_pos (Activity.line_eq_iff.1 (hnumber.trans he)), hcol, creditMinute_concat]
      rfl

end Sys2Proof.Machine
end

section
/-! PROOFS. The births and the arrivals of the Transit List. -/

namespace Sys2Proof.Machine

-- One proof at a time: proofs elaborated at once add up past the memory of the check.
set_option Elab.async false

/-! ### Births -/

section Births

variable {s : State} {a : Fin 4} {j : Job} {top : Nat}

theorem State.formingLength_eq (hj : s.job? a = some j) (ht : s.transit.formingTop = some top) :
    s.formingLength a = j.holeDepth - top := by
  simp only [State.formingLength, hj, ht]

theorem State.mergeBirth_concat {u : State} {older : List Parcel} {youngest : Parcel} (bottom ordinal : Nat)
    (h : u.transit.parcels = older ++ [youngest]) : u.mergeBirth j bottom ordinal =
      (u.setParcels (older ++ [{ youngest with bottom := bottom, lag := u.lag j bottom, merged := true }])).raise
        .transitMerged (.merged youngest.ordinal youngest.top bottom ordinal) := by
  simp only [State.mergeBirth, h, List.getLast?_concat, List.dropLast_concat]

end Births

/-- Settles O50: a birth by the loss class and the room in the list. -/
theorem transitBirthRule : Obligations.TransitBirthRule := by
  refine ⟨fun s a j top hj ht => ?_, fun s => ⟨fun h => ?_, fun a h => ?_⟩⟩
  · intro ordinal counted fresh born
    have hlen := State.formingLength_eq hj ht
    have hborn : born (s.birth a) := by
      rw [State.birth_eq hj ht]
      refine ⟨fun htotal => ?_, fun hloss hroom => ?_, fun older youngest hloss hfull hps => ?_⟩
      · rw [if_pos htotal]
        exact ⟨rfl, (State.markRange_frame ..).kept .transit (by simp)⟩
      · rw [if_neg hloss, if_neg (show ¬parcelLimit ≤ _ from Nat.not_le.2 hroom)]
        rfl
      · rw [if_neg hloss, if_pos (show parcelLimit ≤ _ from hfull), State.mergeBirth_concat (u := s.numbered j) _ _ hps]
        rfl
    refine ⟨fun hle => ⟨if_neg (by omega), if_neg (by omega)⟩, fun hlt => ?_, fun hlt hstep => ?_,
      fun hstep => if_neg (by omega)⟩
    · rwa [State.closeForming, if_pos (by omega)]
    · rwa [State.growForming, if_pos (by omega)]
  · have hactive := ((State.grantTest_frame s).active?_eq (by simp)).trans h
    simp only [State.headFreed, hactive]
  · have hactive := ((State.grantTest_frame s).active?_eq (by simp)).trans h
    simp only [State.headFreed, hactive]

/-! ### What a change raises -/

theorem AttnEntry.raised_ok (e : AttnEntry) (d : Detail) : (e.raised d).Ok := by
  have hcount : 1 ≤ min (e.count + 1) 255 ∧ min (e.count + 1) 255 ≤ 255 := by omega
  exact ⟨hcount.1, hcount.2, rfl⟩

/-- From `s` to `t` no attention changes but those of some kinds, and sound ones stay sound (R185). -/
structure State.Raises (ks : List AttnKind) (s t : State) : Prop where
  others : ∀ n : Fin 22, (∀ k ∈ ks, n ≠ k.ix) → t.attn[n] = s.attn[n]
  sound : s.AttentionsOk → t.AttentionsOk

section Raises

variable {ks : List AttnKind} {s t u : State} {i : Fin 4}

theorem State.Raises.refl : s.Raises ks s := ⟨fun _ _ => rfl, id⟩

theorem State.Raises.trans (h : s.Raises ks t) (g : t.Raises ks u) : s.Raises ks u :=
  ⟨fun n hn => (g.others n hn).trans (h.others n hn), fun hs => g.sound (h.sound hs)⟩

theorem State.raise_raises {k : AttnKind} (hk : k ∈ ks) (d : Detail) (s : State) : s.Raises ks (s.raise k d) := by
  refine ⟨fun n hn => State.raise_attn_other _ _ (hn k hk), fun hs n => ?_⟩
  by_cases hn : n = k.ix
  · subst hn
    rw [State.raise_attn_same]
    exact AttnEntry.raised_ok ..
  · rw [State.raise_attn_other _ _ hn]
    exact hs n

theorem Frame.raises {ps : List Part} (h : Frame ps s t) (hp : .attn ∉ ps := by simp) : s.Raises ks t := by
  have hattn : t.attn = s.attn := h.kept .attn hp
  refine ⟨fun n _ => by rw [hattn], fun hs n => ?_⟩
  rw [hattn]
  exact hs n

theorem State.Raises.raise {k : AttnKind} (h : s.Raises ks t) (hk : k ∈ ks) (d : Detail) : s.Raises ks (t.raise k d) :=
  h.trans (State.raise_raises hk d t)

theorem State.Raises.foldl {α : Type} {f : State → α → State} (hf : ∀ s x, State.Raises ks s (f s x)) (xs : List α)
    (s : State) : s.Raises ks (xs.foldl f s) := by
  induction xs generalizing s with
  | nil => exact .refl
  | cons x xs ih => exact (hf s x).trans (ih (f s x))

theorem State.addUnsettled_raises (hk : .amountSaturated ∈ ks) (i : Fin 4) (line : Fin 40) (q : Int) (s : State) :
    s.Raises ks (s.addUnsettled i line q) := by
  unfold State.addUnsettled
  split
  · exact .refl
  · simp only
    split
    · exact (frame_jobs s _).raises
    · exact ((frame_jobs s _).raises).raise hk _

theorem State.accrueFootage_raises (hk : .amountSaturated ∈ ks) (i : Fin 4) (top bottom : Nat) (c : RockClass)
    (s : State) : s.Raises ks (s.accrueFootage i top bottom c) := by
  unfold State.accrueFootage
  split
  · exact .refl
  · exact State.Raises.foldl (fun s _ => State.addUnsettled_raises hk i _ _ s) _ s

theorem State.setColumn_raises (i : Fin 4) (col : List Interval) (s : State) : s.Raises ks (s.setColumn i col) :=
  (State.modifyJob_frame ..).raises

/-- New hole raises COLUMN_FULL and AMOUNT_SATURATED only. -/
theorem State.extendColumn_raises (hk : .amountSaturated ∈ ks) (hc : .columnFull ∈ ks) (i : Fin 4) (h1 : Nat) (s : State) :
    s.Raises ks (s.extendColumn i h1) := by
  have hcol : ∀ (col : List Interval) (b : Nat) (c : RockClass),
      s.Raises ks ((s.setColumn i col).accrueFootage i b h1 c) := fun col b c =>
    (State.setColumn_raises i col s).trans (State.accrueFootage_raises hk ..)
  unfold State.extendColumn
  split
  · exact .refl
  · split
    · exact .refl
    · simp only
      split
      · exact .refl
      · split
        · exact hcol ..
        · split
          · exact hcol ..
          · split
            · exact hcol ..
            · exact ((State.setColumn_raises ..).raise hc _).trans (State.accrueFootage_raises hk ..)

/-- A status mark raises COLUMN_FULL and AMOUNT_SATURATED only. -/
theorem State.markRange_raises (hk : .amountSaturated ∈ ks) (hc : .columnFull ∈ ks) (i : Fin 4) (status : CutStatus)
    (a b : Nat) (s : State) : s.Raises ks (s.markRange i status a b) := by
  have hext := State.extendColumn_raises hk hc i b s
  unfold State.markRange
  simp only
  split
  · exact hext
  · split
    · exact hext.trans (State.setColumn_raises ..)
    · exact (hext.trans (State.setColumn_raises ..)).raise hc _

end Raises

/-! ### States that differ in no job -/

/-- Two states with the same jobs and the same lithology table. -/
structure State.JobsAgree (s u : State) : Prop where
  jobs : u.jobs = s.jobs
  lith : u.lith = s.lith

section JobsAgree

variable {s t u : State} {i : Fin 4}

theorem State.JobsAgree.job? (h : s.JobsAgree u) (i : Fin 4) : u.job? i = s.job? i := by
  rw [State.job?, State.job?, h.jobs]

theorem State.JobsAgree.trans (h : s.JobsAgree t) (g : t.JobsAgree u) : s.JobsAgree u :=
  ⟨g.jobs.trans h.jobs, g.lith.trans h.lith⟩

theorem State.JobsAgree.setJob (h : s.JobsAgree u) (j : Job) : (s.setJob i j).JobsAgree (u.setJob i j) :=
  ⟨by simp only [State.setJob, h.jobs], h.lith⟩

theorem State.JobsAgree.raise_both (h : s.JobsAgree u) (k k' : AttnKind) (d d' : Detail) :
    (s.raise k d).JobsAgree (u.raise k' d') := ⟨h.jobs, h.lith⟩

theorem State.JobsAgree.modifyJob (h : s.JobsAgree u) (f : Job → Job) : (s.modifyJob i f).JobsAgree (u.modifyJob i f) := by
  unfold State.modifyJob
  rw [h.job?]
  cases s.job? i with
  | none => exact h
  | some j => exact h.setJob _

theorem State.JobsAgree.addUnsettled (h : s.JobsAgree u) (line : Fin 40) (q : Int) :
    (s.addUnsettled i line q).JobsAgree (u.addUnsettled i line q) := by
  unfold State.addUnsettled
  rw [h.job?]
  cases s.job? i with
  | none => exact h
  | some j =>
    simp only
    split
    · exact h.setJob _
    · exact (h.setJob _).raise_both ..

theorem State.JobsAgree.foldl {α : Type} {f : State → α → State}
    (hf : ∀ {s u : State} (x : α), s.JobsAgree u → (f s x).JobsAgree (f u x)) (xs : List α) (h : s.JobsAgree u) :
    (xs.foldl f s).JobsAgree (xs.foldl f u) := by
  induction xs generalizing s u with
  | nil => exact h
  | cons x xs ih => exact ih (hf x h)

theorem State.JobsAgree.accrueFootage (h : s.JobsAgree u) (top bottom : Nat) (c : RockClass) :
    (s.accrueFootage i top bottom c).JobsAgree (u.accrueFootage i top bottom c) := by
  unfold State.accrueFootage
  rw [h.job?]
  cases s.job? i with
  | none => exact h
  | some j =>
    exact State.JobsAgree.foldl (f := fun s band => s.addUnsettled i (footageLine c band)
      (bandOverlap j.b1 j.b2 (max top j.startDepth) bottom band : Nat)) (fun _ hs => hs.addUnsettled ..) _ h

theorem State.JobsAgree.extendColumn (h : s.JobsAgree u) (h1 : Nat) :
    (s.extendColumn i h1).JobsAgree (u.extendColumn i h1) := by
  have hcol : ∀ (col : List Interval) (b : Nat) (c : RockClass), ((s.setColumn i col).accrueFootage i b h1 c).JobsAgree
      ((u.setColumn i col).accrueFootage i b h1 c) := fun col b c => (h.modifyJob _).accrueFootage ..
  unfold State.extendColumn
  rw [h.job?, h.lith]
  cases s.job? i with
  | none => exact h
  | some j =>
    simp only
    split
    · exact h
    · split
      · exact h
      · split
        · exact hcol ..
        · split
          · exact hcol ..
          · split
            · exact hcol ..
            · exact ((h.modifyJob _).raise_both ..).accrueFootage ..

theorem State.JobsAgree.markRange (h : s.JobsAgree u) (status : CutStatus) (a b : Nat) :
    (s.markRange i status a b).JobsAgree (u.markRange i status a b) := by
  have hext := h.extendColumn (i := i) b
  unfold State.markRange
  simp only
  rw [hext.job?, hext.lith]
  cases (s.extendColumn i b).job? i with
  | none => exact hext
  | some j =>
    simp only
    split
    · exact hext.modifyJob _
    · exact (hext.modifyJob _).raise_both ..

theorem State.JobsAgree.markParcels (h : s.JobsAgree u) (status : CutStatus) (ps : List Parcel) :
    (s.markParcels i status ps).JobsAgree (u.markParcels i status ps) :=
  State.JobsAgree.foldl (fun p hs => hs.markRange status p.top p.bottom) ps h

end JobsAgree

/-! ### Arrivals -/

/-- What PARCEL_ARRIVED tells of a parcel (R132). -/
def Parcel.arrival (p : Parcel) : Detail := .arrived p.ordinal p.top p.bottom p.merged

/-- What SAMPLE_DROPPED tells of a parcel (R132). -/
def Parcel.loss (p : Parcel) : Detail := .dropped p.ordinal p.top p.bottom

/-- The parcel at the shaker (R131). -/
def Parcel.landed (p : Parcel) : Parcel := { p with arrived := true }

/-- The parcel has come as far as its lag (R131). -/
def Parcel.due (p : Parcel) : Bool := p.lag ≤ p.advanced

/-- From `s` to `t` the parcels `coming` have arrived and `dropped` have given way, which leaves the list `left`. -/
structure State.Brought (i : Fin 4) (dropped coming left : List Parcel) (s t : State) : Prop where
  transit : t.transit = { s.transit with parcels := left }
  agree : (s.markParcels i .notSampled dropped).JobsAgree t
  arrived : t.attn[AttnKind.parcelArrived.ix] = s.attn[AttnKind.parcelArrived.ix].raisedAll (coming.map Parcel.arrival)
  gone : t.attn[AttnKind.sampleDropped.ix] = s.attn[AttnKind.sampleDropped.ix].raisedAll (dropped.map Parcel.loss)
  frame : Frame [.transit, .jobs, .attn] s t

section Arrivals

variable {s t u : State} {i : Fin 4} {p q : Parcel} {A M : List Parcel}

theorem State.Brought.refl (h : s.transit.parcels = M) : State.Brought i [] [] M s s :=
  ⟨by rw [← h], ⟨rfl, rfl⟩, rfl, rfl, Frame.rfl' _ s⟩

theorem State.Brought.trans {d c l d' c' l' : List Parcel} (h : State.Brought i d c l s t)
    (g : State.Brought i d' c' l' t u) : State.Brought i (d ++ d') (c ++ c') l' s u := by
  refine ⟨by rw [g.transit, h.transit], ?_, ?_, ?_, h.frame.trans g.frame⟩
  · rw [State.markParcels, List.foldl_append]
    exact (h.agree.markParcels .notSampled d').trans g.agree
  · rw [g.arrived, h.arrived, List.map_append, AttnEntry.raisedAll_append]
  · rw [g.gone, h.gone, List.map_append, AttnEntry.raisedAll_append]

theorem arriveFirst_append (hA : ∀ q ∈ A, q.arrived = true) (hp : p.arrived = false) :
    arriveFirst (A ++ p :: M) = A ++ p.landed :: M := by
  induction A with
  | nil => simp [arriveFirst, hp, Parcel.landed]
  | cons q A ih =>
    obtain ⟨hq, hA⟩ := List.forall_mem_cons.1 hA
    rw [List.cons_append, arriveFirst, if_pos hq, ih hA, List.cons_append]

theorem arrivedCount_parted (hA : ∀ q ∈ A, q.arrived = true) (hM : ∀ q ∈ M, q.arrived = false) :
    arrivedCount (A ++ M) = A.length := by
  have hall : A.filter Parcel.arrived = A := List.filter_eq_self.2 hA
  have hnone : M.filter Parcel.arrived = [] := List.filter_eq_nil_iff.2 fun q hq => by simp [hM q hq]
  rw [arrivedCount, List.filter_append, hall, hnone, List.append_nil]

/-- The oldest parcel in transit landed, once there is room at the shaker (R132). -/
def State.land (p : Parcel) (s : State) : State :=
  (s.setParcels (arriveFirst s.transit.parcels)).raise .parcelArrived (.arrived p.ordinal p.top p.bottom p.merged)

theorem State.arrive_eq (i : Fin 4) (p : Parcel) (s : State) : s.arrive i p = (s.dropOldest i).land p := rfl

theorem State.land_brought (hps : s.transit.parcels = A ++ p :: M) (hA : ∀ q ∈ A, q.arrived = true)
    (hp : p.arrived = false) : State.Brought i [] [p] (A ++ p.landed :: M) s (s.land p) := by
  rw [State.land, hps, arriveFirst_append hA hp]
  exact ⟨rfl, ⟨rfl, rfl⟩, State.raise_attn_same .., State.raise_attn_other _ _ (by decide),
    ((frame_transit s _).mono (by simp)).trans ((State.raise_frame ..).mono (by simp))⟩

theorem State.dropOldest_eq (hps : s.transit.parcels = q :: M) (hfull : ¬arrivedCount s.transit.parcels < arrivedLimit) :
    s.dropOldest i = ((s.setParcels M).markRange i .notSampled q.top q.bottom).raise .sampleDropped
      (.dropped q.ordinal q.top q.bottom) := by
  rw [State.dropOldest, if_neg hfull]
  simp only [hps]

/-- The oldest parcel at the shaker gives way (R132). -/
theorem State.dropOldest_brought (hps : s.transit.parcels = q :: M)
    (hfull : ¬arrivedCount s.transit.parcels < arrivedLimit) : State.Brought i [q] [] M s (s.dropOldest i) := by
  have hframe := State.markRange_frame i .notSampled q.top q.bottom (s.setParcels M)
  have hraises := State.markRange_raises (ks := [.amountSaturated, .columnFull]) (by simp) (by simp) i .notSampled
    q.top q.bottom (s.setParcels M)
  have hset : s.JobsAgree (s.setParcels M) := ⟨rfl, rfl⟩
  have hmark := hset.markRange (i := i) .notSampled q.top q.bottom
  rw [State.dropOldest_eq hps hfull]
  refine ⟨hframe.kept .transit (by simp), ⟨hmark.jobs, hmark.lith⟩, ?_, ?_, ?_⟩
  · exact (State.raise_attn_other _ _ (by decide)).trans (hraises.others _ (by decide))
  · rw [State.raise_attn_same, hraises.others _ (by decide)]
    rfl
  · exact (((frame_transit s _).mono (by simp)).trans (hframe.mono (by simp))).trans
      ((State.raise_frame ..).mono (by simp))

/-- An arrival while there is room at the shaker (R132). -/
theorem State.arrive_room (hps : s.transit.parcels = A ++ p :: M) (hA : ∀ q ∈ A, q.arrived = true)
    (hM : ∀ q ∈ p :: M, q.arrived = false) (hroom : A.length < 4) :
    State.Brought i [] [p] (A ++ p.landed :: M) s (s.arrive i p) := by
  have hdrop : s.dropOldest i = s := if_pos (by rw [hps, arrivedCount_parted hA hM]; exact hroom)
  rw [State.arrive_eq, hdrop]
  exact State.land_brought hps hA (hM p List.mem_cons_self)

/-- An arrival with four at the shaker (R132). -/
theorem State.arrive_full (hps : s.transit.parcels = q :: A ++ p :: M) (hA : ∀ r ∈ q :: A, r.arrived = true)
    (hM : ∀ r ∈ p :: M, r.arrived = false) (hfull : (q :: A).length = 4) :
    State.Brought i [q] [p] (A ++ p.landed :: M) s (s.arrive i p) := by
  have hcount : ¬arrivedCount s.transit.parcels < arrivedLimit := by
    rw [hps, arrivedCount_parted hA hM, hfull]
    decide
  have hdrop := State.dropOldest_brought (i := i) hps hcount
  have hparcels : (s.dropOldest i).transit.parcels = A ++ p :: M := congrArg Transit.parcels hdrop.transit
  exact hdrop.trans (State.land_brought hparcels (fun r hr => hA r (List.mem_cons_of_mem _ hr)) (hM p List.mem_cons_self))

/-- The oldest parcel in transit is the first behind those at the shaker. -/
theorem find?_parted (hA : ∀ q ∈ A, q.arrived = true) (hM : ∀ q ∈ M, q.arrived = false) :
    (A ++ M).find? (fun p => !p.arrived) = M.head? := by
  have hnone : A.find? (fun p => !p.arrived) = none := List.find?_eq_none.2 fun q hq => by simp [hA q hq]
  rw [List.find?_append, hnone, Option.none_or]
  cases M with
  | nil => rfl
  | cons p M => simp [hM p List.mem_cons_self]

/-- The test ends at a parcel that has not come as far as its lag (R131). -/
theorem State.arrivalTest_still (fuel : Nat) (hps : s.transit.parcels = A ++ M) (hA : ∀ q ∈ A, q.arrived = true)
    (hM : ∀ q ∈ M, q.arrived = false) (hstill : ∀ p ∈ M.head?, p.due = false) : State.arrivalTest i fuel s = s := by
  cases fuel with
  | zero => rfl
  | succ fuel =>
    rw [State.arrivalTest, hps, find?_parted hA hM]
    cases M with
    | nil => rfl
    | cons p M => exact if_neg (by simpa [Parcel.due] using hstill p rfl)

theorem State.arrivalTest_due {fuel : Nat} (hps : s.transit.parcels = A ++ p :: M) (hA : ∀ q ∈ A, q.arrived = true)
    (hM : ∀ q ∈ p :: M, q.arrived = false) (hdue : p.due = true) :
    State.arrivalTest i (fuel + 1) s = State.arrivalTest i fuel (s.arrive i p) := by
  rw [State.arrivalTest, hps, find?_parted hA hM]
  exact if_pos (by simpa [Parcel.due] using hdue)

/-- All who stand at the shaker in an arrival test, those who give way among them (R131, R132). -/
def landed (A M : List Parcel) : List Parcel := A ++ (M.takeWhile Parcel.due).map Parcel.landed

theorem landed_due (hdue : p.due = true) : landed A (p :: M) = landed (A ++ [p.landed]) M := by
  simp [landed, hdue]

/-- The whole arrival test (R131, R132). -/
theorem State.arrivalTest_brought {fuel : Nat} (hps : s.transit.parcels = A ++ M) (hA : ∀ q ∈ A, q.arrived = true)
    (hM : ∀ q ∈ M, q.arrived = false) (hlen : A.length ≤ 4) (hfuel : M.length ≤ fuel) :
    State.Brought i ((landed A M).take ((landed A M).length - 4)) (M.takeWhile Parcel.due)
      ((landed A M).drop ((landed A M).length - 4) ++ M.drop (M.takeWhile Parcel.due).length) s
      (State.arrivalTest i fuel s) := by
  induction M generalizing A fuel s with
  | nil =>
    rw [State.arrivalTest_still fuel hps hA hM (by simp)]
    have hlanded : landed A [] = A := by simp [landed]
    have hzero : A.length - 4 = 0 := by omega
    rw [hlanded, hzero]
    exact State.Brought.refl (by simpa using hps)
  | cons p M ih =>
    cases hdue : p.due with
    | false =>
      rw [State.arrivalTest_still fuel hps hA hM (by simpa using hdue)]
      have hcoming : (p :: M).takeWhile Parcel.due = [] := by simp [hdue]
      have hlanded : landed A (p :: M) = A := by simp [landed, hdue]
      have hzero : A.length - 4 = 0 := by omega
      rw [hlanded, hzero, hcoming]
      exact State.Brought.refl hps
    | true =>
      obtain ⟨fuel, rfl⟩ : ∃ n, fuel = n + 1 := ⟨fuel - 1, by simp only [List.length_cons] at hfuel; omega⟩
      have hcoming : (p :: M).takeWhile Parcel.due = p :: M.takeWhile Parcel.due := by simp [hdue]
      have hrest : ∀ q ∈ M, q.arrived = false := fun q hq => hM q (List.mem_cons_of_mem _ hq)
      have hfuel' : M.length ≤ fuel := by simpa using hfuel
      have hshaker : ∀ {B : List Parcel}, (∀ q ∈ B, q.arrived = true) → ∀ q ∈ B ++ [p.landed], q.arrived = true :=
        fun hB q hq => (List.mem_append.1 hq).elim (hB q) fun h => by rw [List.mem_singleton.1 h]; rfl
      rw [State.arrivalTest_due hps hA hM hdue, hcoming]
      by_cases hroom : A.length < 4
      · have hone := State.arrive_room (i := i) hps hA hM hroom
        have hnext := ih (A := A ++ [p.landed]) (s := s.arrive i p)
          ((congrArg Transit.parcels hone.transit).trans (by simp)) (hshaker hA) hrest (by simp; omega) hfuel'
        rw [landed_due hdue]
        simpa using hone.trans hnext
      · match A, hA, hlen, hroom, hps with
        | q :: A, hA, hlen, hroom, hps =>
          have hone := State.arrive_full (i := i) hps hA hM (by omega)
          have hnext := ih (A := A ++ [p.landed]) (s := s.arrive i p)
            ((congrArg Transit.parcels hone.transit).trans (by simp))
            (hshaker fun r hr => hA r (List.mem_cons_of_mem _ hr)) hrest (by simpa using hlen) hfuel'
          have hcons : landed (q :: A) (p :: M) = q :: landed (A ++ [p.landed]) M := landed_due hdue
          have hfour : 4 ≤ (landed (A ++ [p.landed]) M).length := by
            simp only [landed, List.length_append, List.length_cons] at hroom ⊢
            omega
          have hsurplus : (q :: landed (A ++ [p.landed]) M).length - 4 = (landed (A ++ [p.landed]) M).length - 4 + 1 := by
            rw [List.length_cons]
            omega
          rw [hcons, hsurplus]
          simpa using hone.trans hnext

end Arrivals

section Rule

variable {s : State} {a : Fin 4} {j : Job} {ps : List Parcel}

/-- The parcels at the shaker stand before those in transit (R125). -/
theorem parted_eq (h : ps.Pairwise fun p q => p.arrived = false → q.arrived = false) :
    ps = ps.filter Parcel.arrived ++ ps.filter fun p => !p.arrived := by
  induction ps with
  | nil => rfl
  | cons p ps ih =>
    obtain ⟨hp, hrest⟩ := List.pairwise_cons.1 h
    cases hpa : p.arrived with
    | true =>
      rw [List.filter_cons_of_pos hpa, List.filter_cons_of_neg (by simp [hpa]), List.cons_append, ← ih hrest]
    | false =>
      have hall : ∀ q ∈ p :: ps, q.arrived = false := List.forall_mem_cons.2 ⟨hpa, fun q hq => hp q hq hpa⟩
      have hnone : (p :: ps).filter Parcel.arrived = [] := List.filter_eq_nil_iff.2 fun q hq => by simp [hall q hq]
      have hself : (p :: ps).filter (fun p => !p.arrived) = p :: ps :=
        List.filter_eq_self.2 fun q hq => by simp [hall q hq]
      rw [hnone, hself, List.nil_append]

/-- An arrival test of a sound list of parcels. -/
theorem State.arrivalTest_list (h : QueueOk ps) :
    State.Brought a ((landed (ps.filter Parcel.arrived) (ps.filter fun p => !p.arrived)).take
        ((landed (ps.filter Parcel.arrived) (ps.filter fun p => !p.arrived)).length - 4))
      ((ps.filter fun p => !p.arrived).takeWhile Parcel.due)
      ((landed (ps.filter Parcel.arrived) (ps.filter fun p => !p.arrived)).drop
          ((landed (ps.filter Parcel.arrived) (ps.filter fun p => !p.arrived)).length - 4)
        ++ (ps.filter fun p => !p.arrived).drop ((ps.filter fun p => !p.arrived).takeWhile Parcel.due).length)
      (s.setParcels ps) (State.arrivalTest a ps.length (s.setParcels ps)) :=
  State.arrivalTest_brought (parted_eq h.order) (fun q hq => (List.mem_filter.1 hq).2)
    (fun q hq => by simpa using (List.mem_filter.1 hq).2) h.arrived (List.length_filter_le ..)

theorem State.advanceParcels_active (h : ActiveIs s a j) (vps : Nat) : s.advanceParcels vps =
    State.arrivalTest a (s.transit.parcels.map fun p =>
      if p.arrived then p else { p with advanced := satAdd32 p.advanced vps }).length (s.setParcels
        (s.transit.parcels.map fun p => if p.arrived then p else { p with advanced := satAdd32 p.advanced vps })) := by
  simp only [State.advanceParcels, h.1]

theorem State.recompute_active (h : ActiveIs s a j) : s.recompute =
    State.arrivalTest a (s.transit.parcels.map fun p =>
      if p.arrived then p else { p with lag := s.lag j p.bottom }).length (s.setParcels
        (s.transit.parcels.map fun p => if p.arrived then p else { p with lag := s.lag j p.bottom })) := by
  simp only [State.recompute, h.1, h.2]

theorem State.wipe_active (h : ActiveIs s a j) : s.wipe =
    (s.setParcels (s.transit.parcels.filter Parcel.arrived)).markParcels a .noReturns
      (s.transit.parcels.filter fun p => !p.arrived) := by
  simp only [State.wipe, h.1]

theorem State.advanceParcels_idle (h : s.active? = none) (vps : Nat) : s.advanceParcels vps = s := by
  simp only [State.advanceParcels, h]

theorem State.recompute_idle (h : s.active? = none) : s.recompute = s := by
  simp only [State.recompute, h]

end Rule

/-- Settles O51; every arrival test by `arrivalTest_brought`. -/
theorem transitArrivalRule : Obligations.TransitArrivalRule := by
  intro s marks raised tested
  refine ⟨fun h => ⟨State.advanceParcels_idle h, State.recompute_idle h, State.wipe_idle h⟩, fun a j h hok => ?_⟩
  have htested : ∀ ps, QueueOk ps → tested a ps (State.arrivalTest a ps.length (s.setParcels ps)) := by
    intro ps hps
    have hb := State.arrivalTest_list (s := s) (a := a) hps
    have hset : s.JobsAgree (s.setParcels ps) := ⟨rfl, rfl⟩
    exact ⟨hb.transit, ((hset.markParcels .notSampled _).trans hb.agree).jobs,
      ⟨fun hnil => hb.arrived.trans ((AttnEntry.raisedAll_map ..).1 hnil),
        fun earlier last he => hb.arrived.trans ((AttnEntry.raisedAll_map ..).2 earlier last he)⟩,
      ⟨fun hnil => hb.gone.trans ((AttnEntry.raisedAll_map ..).1 hnil),
        fun earlier last he => hb.gone.trans ((AttnEntry.raisedAll_map ..).2 earlier last he)⟩,
      ((frame_transit s _).mono (by simp)).trans hb.frame⟩
  have hqueue : QueueOk s.transit.parcels := queueOk_iff.2 hok
  refine ⟨fun vps => ?_, ?_, ?_, ?_⟩
  · rw [State.advanceParcels_active h]
    exact htested _ (hqueue.map fun p => by split <;> rfl)
  · rw [State.recompute_active h]
    exact htested _ (hqueue.map fun p => by split <;> rfl)
  · rw [State.wipe_active h]
    exact (Frame.foldl _ (fun _ _ => State.markRange_frame ..) _ _).kept .transit (by simp)
  · rw [State.wipe_active h]
    have hset : s.JobsAgree (s.setParcels (s.transit.parcels.filter Parcel.arrived)) := ⟨rfl, rfl⟩
    exact (hset.markParcels .noReturns _).jobs

end Sys2Proof.Machine
end

section
/-! PROOFS. What a candidate depth does, and what new hole leaves: the string's rods, the column, the footage. -/

namespace Sys2Proof.Machine

-- One proof at a time: proofs elaborated at once add up past the memory of the check.
set_option Elab.async false

/-! ### Rod slots written one after another -/

section Slotwise

variable {f : State → Fin 128 → State} {g : Vector RodType 4 → RodSlot → RodSlot} {rods : List (Fin 128)}

/-- Changes that leave all of the roster but its slots do so together. -/
theorem State.foldl_roster (hf : ∀ s i, (f s i).roster = { s.roster with slots := (f s i).roster.slots })
    (rods : List (Fin 128)) (s : State) :
    (rods.foldl f s).roster = { s.roster with slots := (rods.foldl f s).roster.slots } := by
  induction rods generalizing s with
  | nil => rfl
  | cons i rods ih =>
    rw [List.foldl_cons]
    exact (ih (f s i)).trans (by rw [hf s i])

/-- Changes that each write one slot, by the rod types and what it held, write each slot once. -/
theorem State.foldl_slots (htypes : ∀ s i, (f s i).roster.types = s.roster.types)
    (hslots : ∀ s i, (f s i).roster.slots = s.roster.slots.set i (g s.roster.types s.roster.slots[i]))
    (hn : rods.Nodup) (s : State) (q : Fin 128) : (rods.foldl f s).roster.slots[q]
      = if q ∈ rods then g s.roster.types s.roster.slots[q] else s.roster.slots[q] := by
  induction rods generalizing s with
  | nil => rfl
  | cons i rods ih =>
    obtain ⟨hi, hrest⟩ := List.nodup_cons.1 hn
    rw [List.foldl_cons, ih hrest, htypes]
    by_cases hq : q = i
    · subst hq
      simp [hi, hslots]
    · have hne : i.val ≠ q.val := fun he => hq (Fin.ext he.symm)
      simp [hq, hslots, Vector.getElem_set_ne _ _ hne]

end Slotwise

/-! ### New hole credited to the string (R50) -/

/-- A rod after `n` centimetres of new hole, graded anew against the types. -/
def Rod.credited (types : Vector RodType 4) (n : Nat) (x : Rod) : Rod :=
  { x with
    drilled := satAdd32 x.drilled n
    wear := Rod.grade types[x.type] { x with drilled := satAdd32 x.drilled n } }

/-- The slot after `n` centimetres of new hole. -/
def RodSlot.credited (types : Vector RodType 4) (n : Nat) (slot : RodSlot) : RodSlot :=
  ⟨slot.gen, slot.rod.map (Rod.credited types n)⟩

section Credit

variable {s : State} {i : Fin 128} {n : Nat} {x : Rod}

theorem RodSlot.credited_none {slot : RodSlot} {types : Vector RodType 4} (h : slot.rod = none) :
    slot.credited types n = slot := by
  obtain ⟨gen, rod⟩ := slot
  subst h
  rfl

theorem RodSlot.credited_some {slot : RodSlot} {types : Vector RodType 4} (h : slot.rod = some x) :
    slot.credited types n = ⟨slot.gen, some (x.credited types n)⟩ := by
  rw [RodSlot.credited, h]
  rfl

/-- A rod credited writes its own slot. -/
theorem State.creditRod_roster (n : Nat) (i : Fin 128) (s : State) : (s.creditRod n i).roster =
    { s.roster with slots := s.roster.slots.set i (s.roster.slots[i].credited s.roster.types n) } := by
  cases hx : s.rod? i with
  | none =>
    rw [State.creditRod, State.modifyRod_none hx, State.regrade_none hx, RodSlot.credited_none hx]
    simp
  | some x =>
    have hrod : (s.setRod i { x with drilled := satAdd32 x.drilled n }).rod? i
        = some { x with drilled := satAdd32 x.drilled n } := (State.setRod_slotted ..).1
    rw [State.creditRod, State.modifyRod_some hx, State.regrade_some hrod, RodSlot.credited_some hx,
      State.setRod_setRod]
    split <;> rfl

/-- No rod is listed twice (R36). -/
theorem State.stringRods_nodup (s : State) : s.stringRods.Nodup := by
  refine List.Nodup.filterMap (fun p q i hp hq => ?_) List.nodup_range
  obtain ⟨x, hx, hplace⟩ := State.rodAtPosition_some hp
  obtain ⟨y, hy, hplace'⟩ := State.rodAtPosition_some hq
  obtain rfl : x = y := Option.some.inj (hx.symm.trans hy)
  exact Nat.succ.inj (RodPlace.string.inj (hplace.symm.trans hplace'))

/-- New hole credited to the string (R50). -/
theorem State.creditString_roster (n : Nat) (s : State) :
    (s.creditString n).roster = { s.roster with slots := (s.creditString n).roster.slots }
      ∧ ∀ q : Fin 128, (s.creditString n).roster.slots[q]
        = if q ∈ s.stringRods then s.roster.slots[q].credited s.roster.types n else s.roster.slots[q] :=
  ⟨State.foldl_roster (fun s i => by rw [State.creditRod_roster]) _ s,
    State.foldl_slots (g := fun types slot => slot.credited types n) (fun s i => by rw [State.creditRod_roster])
      (fun s i => by rw [State.creditRod_roster]) s.stringRods_nodup s⟩

end Credit

/-! ### The column extended (R143, R144) -/

/-- The column new hole to `h1` leaves, and the class of its deepest interval. -/
def Job.extension (j : Job) (table : Vector LithEntry 64) (deepest : Interval) (h1 : Nat) : List Interval × RockClass :=
  if deepest.status = .pending ∧ deepest.source = .driller ∧ deepest.lith = j.declared then
    (j.column.dropLast ++ [{ deepest with bottom := h1 }], deepest.cls)
  else if deepest.top = deepest.bottom then
    (j.column.dropLast ++ [{ deepest with
       lith := j.declared, cls := table[j.declared].cls, source := .driller, status := .pending, bottom := h1 }],
      table[j.declared].cls)
  else
    match seekRoom (fun _ => 1) columnLimit j.column with
    | some roomy => (roomy ++ [j.drilledInterval table deepest.bottom h1], table[j.declared].cls)
    | none => (j.column.dropLast ++ [{ deepest with bottom := h1, merged := true }], deepest.cls)

section Extension

variable {s : State} {i : Fin 4} {j : Job} {deepest : Interval} {above : List Interval} {h1 : Nat}
  {table : Vector LithEntry 64}

theorem Job.extension_last (j : Job) (table : Vector LithEntry 64) (deepest : Interval) (h1 : Nat) :
    ∃ col last, (j.extension table deepest h1).1 = col ++ [last] ∧ last.cls = (j.extension table deepest h1).2 := by
  unfold Job.extension
  split
  · exact ⟨_, _, rfl, rfl⟩
  · split
    · exact ⟨_, _, rfl, rfl⟩
    · split <;> exact ⟨_, _, rfl, rfl⟩

/-- The column written, and the footage of the new range posted. -/
theorem State.accrueFootage_column {u : State} {col : List Interval} (hu : s.Wrote i { j with column := col } u)
    (b h1 : Nat) (c : RockClass) : s.Wrote i (({ j with column := col } : Job).posts (j.accruals b h1 c))
      (u.accrueFootage i b h1 c) := by
  rw [State.accrueFootage_eq hu.job?]
  exact hu.trans (State.posts_wrote hu.job? _)

theorem State.extendColumn_extension (hj : s.job? i = some j) (hd : j.column.getLast? = some deepest)
    (hlt : deepest.bottom < h1) : s.Wrote i (({ j with column := (j.extension s.lith deepest h1).1 } : Job).posts
      (j.accruals deepest.bottom h1 (j.extension s.lith deepest h1).2)) (s.extendColumn i h1) := by
  have column := fun col => State.setColumn_wrote hj col
  unfold State.extendColumn Job.extension
  rw [hj]
  simp only [hd]
  rw [if_neg (not_le.2 hlt)]
  split
  · exact State.accrueFootage_column (column _) ..
  · split
    · exact State.accrueFootage_column (column _) ..
    · cases seekRoom (fun _ => 1) columnLimit j.column with
      | some roomy => exact State.accrueFootage_column (column _) ..
      | none => exact State.accrueFootage_column ((column _).frame (State.raise_frame ..)) ..

/-- An extension writes the column and the sheet of its job only. -/
theorem State.extendColumn_job (hj : s.job? i = some j) (h1 : Nat) :
    ∃ j', s.Wrote i j' (s.extendColumn i h1) ∧ j' = { j with column := j'.column, sheet := j'.sheet }
      ∧ ∀ deepest, j.column.getLast? = some deepest → deepest.bottom < h1 →
        j' = ({ j with column := (j.extension s.lith deepest h1).1 } : Job).posts
          (j.accruals deepest.bottom h1 (j.extension s.lith deepest h1).2) := by
  cases hd : j.column.getLast? with
  | none =>
    have hsame : s.extendColumn i h1 = s := by simp only [State.extendColumn, hj, hd]
    rw [hsame]
    exact ⟨j, .refl hj, rfl, fun _ h => nomatch h⟩
  | some deepest =>
    by_cases hlt : deepest.bottom < h1
    · refine ⟨_, State.extendColumn_extension hj hd hlt, ?_, fun d hd' _ => by rw [Option.some.inj hd']⟩
      rw [Job.posts_eq]
    · rw [State.extendColumn_idle hj hd (Nat.not_lt.1 hlt)]
      exact ⟨j, .refl hj, rfl, fun d hd' hlt' => absurd (Option.some.inj hd' ▸ hlt') hlt⟩

/-- Without room and without a pair to merge, new hole raises COLUMN_FULL (R144, R148). -/
theorem State.extendColumn_full (hj : s.job? i = some j) (hd : j.column.getLast? = some deepest) (hlt : deepest.bottom < h1)
    (hgrow : ¬(deepest.status = .pending ∧ deepest.source = .driller ∧ deepest.lith = j.declared))
    (hthick : deepest.top ≠ deepest.bottom) (hroom : seekRoom (fun _ => 1) columnLimit j.column = none) :
    (s.extendColumn i h1).attn[AttnKind.columnFull.ix].detail
      = some (.columnFull (s.jobHandle i) .extension deepest.bottom h1) := by
  have heq : s.extendColumn i h1
      = ((s.setColumn i (j.column.dropLast ++ [{ deepest with bottom := h1, merged := true }])).raise
          .columnFull (.columnFull (s.jobHandle i) .extension deepest.bottom h1)).accrueFootage i deepest.bottom h1
            deepest.cls := by
    simp only [State.extendColumn, hj, hd, if_neg (not_le.2 hlt), if_neg hgrow, if_neg hthick, hroom]
  rw [heq, (State.accrueFootage_raises (ks := [.amountSaturated]) (by simp) ..).others _ (by decide), State.raise_attn_same]
  rfl

theorem Job.extension_grows (hcol : j.column = above ++ [deepest])
    (h : deepest.status = .pending ∧ deepest.source = .driller ∧ deepest.lith = j.declared) :
    (j.extension table deepest h1).1 = above ++ [{ deepest with bottom := h1 }] := by
  rw [Job.extension, if_pos h, hcol, List.dropLast_concat]

theorem Job.extension_takes (hcol : j.column = above ++ [deepest])
    (h : ¬(deepest.status = .pending ∧ deepest.source = .driller ∧ deepest.lith = j.declared))
    (ht : deepest.top = deepest.bottom) : (j.extension table deepest h1).1 = above ++ [{ deepest with
      lith := j.declared, cls := table[j.declared].cls, source := .driller, status := .pending, bottom := h1 }] := by
  rw [Job.extension, if_neg h, if_pos ht, hcol, List.dropLast_concat]

theorem Job.extension_follows {roomy : List Interval}
    (h : ¬(deepest.status = .pending ∧ deepest.source = .driller ∧ deepest.lith = j.declared))
    (ht : deepest.top ≠ deepest.bottom) (hr : seekRoom (fun _ => 1) columnLimit j.column = some roomy) :
    (j.extension table deepest h1).1 = roomy ++ [j.drilledInterval table deepest.bottom h1] := by
  rw [Job.extension, if_neg h, if_neg ht, hr]

theorem Job.extension_merges (hcol : j.column = above ++ [deepest])
    (h : ¬(deepest.status = .pending ∧ deepest.source = .driller ∧ deepest.lith = j.declared))
    (ht : deepest.top ≠ deepest.bottom) (hr : seekRoom (fun _ => 1) columnLimit j.column = none) :
    (j.extension table deepest h1).1 = above ++ [{ deepest with bottom := h1, merged := true }] := by
  rw [Job.extension, if_neg h, if_neg ht, hr]
  simp only [hcol, List.dropLast_concat]

end Extension

/-! ### The footage of new hole (R161) -/

section Footage

variable {j : Job} {c : RockClass} {line : Fin 40}

theorem Job.accruals_eq (j : Job) (top bottom : Nat) (c : RockClass) : j.accruals top bottom c =
    [(footageLine c 0, (bandOverlap j.b1 j.b2 (max top j.startDepth) bottom 0 : Int)),
      (footageLine c 1, (bandOverlap j.b1 j.b2 (max top j.startDepth) bottom 1 : Int)),
      (footageLine c 2, (bandOverlap j.b1 j.b2 (max top j.startDepth) bottom 2 : Int))] := by
  have hthree : List.finRange 3 = [0, 1, 2] := by decide
  rw [Job.accruals, hthree]
  rfl

/-- A line that one posting names takes that posting. -/
theorem Job.posts_sheet_once (j : Job) {p : Fin 40 × Int} {ps qs : List (Fin 40 × Int)} (hps : ∀ q ∈ ps, q.1 ≠ p.1)
    (hqs : ∀ q ∈ qs, q.1 ≠ p.1) : (j.posts (ps ++ p :: qs)).sheet[p.1] =
      { j.sheet[p.1] with unsettled := clampLine (j.sheet[p.1].unsettled + p.2) } := by
  have happend : j.posts (ps ++ p :: qs) = ((j.posts ps).post p).posts qs := List.foldl_append ..
  rw [happend, Job.posts_sheet_other hqs, Job.post_sheet_same, Job.posts_sheet_other hps]

/-- Each band's line takes its own part. -/
theorem Job.posts_accruals_same (j' : Job) (top bottom : Nat) (c : RockClass) (band : Fin 3) :
    (j'.posts (j.accruals top bottom c)).sheet[footageLine c band] = { j'.sheet[footageLine c band] with
      unsettled := clampLine (j'.sheet[footageLine c band].unsettled
        + (bandOverlap j.b1 j.b2 (max top j.startDepth) bottom band : Int)) } := by
  rw [Job.accruals_eq]
  match band with
  | 0 => exact j'.posts_sheet_once (ps := []) (by simp) (by simp [footageLine_inj])
  | 1 => exact j'.posts_sheet_once (ps := [_]) (by simp [footageLine_inj]) (by simp [footageLine_inj])
  | 2 => exact j'.posts_sheet_once (ps := [_, _]) (qs := []) (by simp [footageLine_inj]) (by simp)

theorem Job.posts_accruals_other (j' : Job) (top bottom : Nat) (h : ∀ band, footageLine c band ≠ line) :
    (j'.posts (j.accruals top bottom c)).sheet[line] = j'.sheet[line] := by
  refine Job.posts_sheet_other fun p hp => ?_
  obtain ⟨band, _, rfl⟩ := List.mem_map.1 hp
  exact h band

end Footage

/-! ### A candidate depth (R74, R75) -/

section Candidate

variable {s : State} {a : Fin 4} {j : Job} {candidate : Nat}

theorem RockClass.ix_succ (c : RockClass) : c.ix.val + 1 = c.code := by cases c <;> rfl

theorem Job.posts_column (j : Job) (ps : List (Fin 40 × Int)) : (j.posts ps).column = j.column := by rw [Job.posts_eq]

/-- New hole up to its forming parcel, before a held candidate is dropped (R74, R75). -/
def State.grownTo (a : Fin 4) (j : Job) (candidate : Nat) (s : State) : State := s.dropHeld.deepened a j candidate

/-- New hole with its rods credited, before the column is extended. -/
def State.credited (a : Fin 4) (j : Job) (candidate : Nat) (s : State) : State :=
  (s.dropHeld.setJob a { j with holeDepth := candidate, bitDepth := candidate }).creditString (candidate - j.holeDepth)

theorem State.grownTo_eq (a : Fin 4) (j : Job) (candidate : Nat) (s : State) :
    s.grownTo a j candidate = (s.credited a j candidate).extendColumn a candidate := rfl

theorem State.credited_wrote : s.Wrote a { j with holeDepth := candidate, bitDepth := candidate }
    (s.credited a j candidate) :=
  State.Wrote.frame (State.Wrote.setJob (s := s.dropHeld)) (State.creditString_frame ..)

theorem State.credited_frame (a : Fin 4) (j : Job) (candidate : Nat) (s : State) :
    Frame [.jobs, .roster, .attn] s.dropHeld (s.credited a j candidate) :=
  ((State.setJob_frame ..).mono (by simp)).trans ((State.creditString_frame ..).mono (by simp [rosterParts]))

theorem State.grownTo_frame (a : Fin 4) (j : Job) (candidate : Nat) (s : State) :
    Frame [.jobs, .roster, .attn] s.dropHeld (s.grownTo a j candidate) :=
  (State.credited_frame ..).trans ((State.extendColumn_frame ..).mono (by simp))

theorem State.grownTo_roster (a : Fin 4) (j : Job) (candidate : Nat) (s : State) :
    (s.grownTo a j candidate).roster = (s.credited a j candidate).roster :=
  (State.extendColumn_frame ..).kept .roster (by simp)

/-- Every rod of the string is credited, and no other (R50). -/
theorem State.grownTo_rods (hpos : s.PositionsOk) (q : Fin 128) : (s.grownTo a j candidate).roster.slots[q]
    = ⟨s.roster.slots[q].gen, (s.rod? q).map fun x =>
        if x.inString then x.credited s.roster.types (candidate - j.holeDepth) else x⟩ := by
  have hstrung := (State.rodsSound_iff.2 hpos).mem_stringRods (i := q)
  have hslot := (State.creditString_roster (candidate - j.holeDepth)
    (s.dropHeld.setJob a { j with holeDepth := candidate, bitDepth := candidate })).2 q
  rw [State.grownTo_roster]
  refine hslot.trans ?_
  cases hx : s.rod? q with
  | none =>
    have hout : q ∉ s.stringRods := fun hm => by
      obtain ⟨x, hx', _⟩ := hstrung.1 hm
      exact nomatch hx.symm.trans hx'
    refine (if_neg hout).trans ?_
    exact congrArg (RodSlot.mk s.roster.slots[q].gen) hx
  | some x =>
    have hslotx : s.roster.slots[q] = ⟨s.roster.slots[q].gen, some x⟩ := congrArg (RodSlot.mk s.roster.slots[q].gen) hx
    cases hin : x.inString with
    | true =>
      refine (if_pos (hstrung.2 ⟨x, hx, hin⟩)).trans ((RodSlot.credited_some (x := x) hx).trans ?_)
      rw [Option.map_some, hin, if_pos rfl]
      rfl
    | false =>
      have hout : q ∉ s.stringRods := fun hm => by
        obtain ⟨y, hy, hyin⟩ := hstrung.1 hm
        obtain rfl : x = y := Option.some.inj (hx.symm.trans hy)
        exact nomatch hin.symm.trans hyin
      refine (if_neg hout).trans (hslotx.trans ?_)
      rw [Option.map_some, hin]
      rfl

end Candidate

/-- New hole of a depth: all that `newHole` leaves, by what it leaves before the forming parcel. -/
theorem State.newHole_grown (a : Fin 4) (j : Job) (candidate : Nat) (s : State) : s.dropHeld.newHole a j candidate =
    { (s.grownTo a j candidate).growForming a with
      drilling := true
      tanks := { s.tanks with fill :=
        if s.tanks.reference = none then s.tanks.fill
        else s.tanks.fill + holeFill j.sections j.holeDepth candidate } } := by
  have htanks : (s.dropHeld.drilled a j candidate).tanks = s.tanks := (State.drilled_frame ..).kept .tanks (by simp)
  have hdrilled : (s.grownTo a j candidate).growForming a = s.dropHeld.drilled a j candidate := rfl
  rw [State.newHole_eq, hdrilled]
  generalize s.dropHeld.drilled a j candidate = d at htanks
  rw [State.addFill, htanks]
  cases s.tanks.reference with
  | none =>
    simp only [Option.isNone_none, if_true]
    rw [← htanks]
  | some v => simp [State.setTanks]

/-- Settles O36; new hole by its rods (`grownTo_rods`), its column (`extension`) and its footage (`accruals`). -/
theorem candidateRule : Obligations.CandidateRule := by
  intro s a j candidate hj t grown
  have hgrown : j.holeDepth < candidate → t = s.dropHeld.newHole a j candidate → grown := by
    intro hlt ht
    have hcredit : s.Wrote a { j with holeDepth := candidate, bitDepth := candidate } (s.credited a j candidate) :=
      State.credited_wrote
    have hframe := State.grownTo_frame a j candidate s
    have hlith : (s.credited a j candidate).lith = s.lith := (State.credited_frame ..).kept .lith (by simp)
    obtain ⟨j', hw, hj', hext⟩ := State.extendColumn_job hcredit.job? candidate
    rw [← State.grownTo_eq] at hw
    rw [hlith] at hext
    have hwrote : s.Wrote a j' (s.grownTo a j candidate) := hcredit.trans hw
    have hroster := (State.creditString_roster (candidate - j.holeDepth)
      (s.dropHeld.setJob a { j with holeDepth := candidate, bitDepth := candidate })).1
    refine ⟨s.grownTo a j candidate, ht.trans (State.newHole_grown ..),
      ((frame_depth s _).mono (by simp)).trans (hframe.mono (by simp)), hframe.kept .depth (by simp),
      fun k hk => hwrote.slot_other (Ne.symm hk), ?_, fun hpos q => State.grownTo_rods hpos q, j', ?_, hj',
      fun above deepest hcol hbot hlen => ?_⟩
    · rw [State.grownTo_roster]
      exact hroster
    · rw [hwrote.jobs]
      simp [State.setJob]
    · have hlast : ({ j with holeDepth := candidate, bitDepth := candidate } : Job).column.getLast? = some deepest := by
        rw [hcol, List.getLast?_concat]
      have hj'' := hext deepest hlast (by omega)
      rw [hbot] at hj''
      have hcolumn := congrArg Job.column hj''
      rw [Job.posts_column] at hcolumn
      intro rock fresh grows below inBand
      refine ⟨fun hg => hcolumn.trans (Job.extension_grows hcol hg),
        fun hg hthin => hcolumn.trans (Job.extension_takes hcol hg hthin),
        fun hg hthick hroom => hcolumn.trans ((Job.extension_follows hg hthick (seekRoom_one_of_lt hroom)).trans ?_),
        fun hg hthick hfull => ⟨fun col hmerge => hcolumn.trans ((Job.extension_follows hg hthick
            (seekRoom_one_of_merge hfull hmerge)).trans ?_),
          fun hmerge => ⟨hcolumn.trans (Job.extension_merges hcol hg hthick (seekRoom_one_of_none hfull hmerge)), ?_⟩⟩,
        fun last hl => ?_⟩
      · rw [hbot]; rfl
      · rw [hbot]; rfl
      · have hraised := State.extendColumn_full hcredit.job? hlast (by omega : deepest.bottom < candidate) hg hthick
          (seekRoom_one_of_none hfull hmerge)
        rw [hbot, State.jobHandle, hcredit.gen] at hraised
        exact hraised
      · obtain ⟨col, last', hcol', hcls⟩ := Job.extension_last
          ({ j with holeDepth := candidate, bitDepth := candidate } : Job) s.lith deepest candidate
        have hclass : ((({ j with holeDepth := candidate, bitDepth := candidate } : Job).extension s.lith deepest
            candidate).2) = last.cls := by
          rw [hcolumn, hcol', List.getLast?_concat] at hl
          rw [← hcls, Option.some.inj hl]
        have hsheet := congrArg Job.sheet hj''
        rw [hclass] at hsheet
        have hix := last.cls.ix_succ
        refine ⟨fun band line hline => ?_, fun line hline => ?_⟩
        · obtain rfl : footageLine last.cls band = line := Fin.ext (by simp only [footageLine]; omega)
          rw [hsheet]
          refine (Job.posts_accruals_same ..).trans ?_
          match band with
          | 0 | 1 | 2 => rfl
        · rw [hsheet]
          exact Job.posts_accruals_other _ _ _ fun band he => hline (by
            rw [← he]
            simp only [footageLine]
            omega)
  have hnear : j.holeDepth < candidate → candidate - j.holeDepth ≤ s.depth.jumpLimit ∨ s.depth.held = some candidate →
      t = s.dropHeld.newHole a j candidate := fun hlt hor =>
    (if_neg (Nat.not_le.2 hlt)).trans (if_pos hor)
  refine ⟨fun hle => if_pos hle, fun hlt hjump => hgrown hlt (hnear hlt (.inl hjump)),
    fun hlt _ hheld => hgrown hlt (hnear hlt (.inr hheld)), fun hlt hjump hheld => ?_⟩
  exact (if_neg (Nat.not_le.2 hlt)).trans (if_neg (not_or.2 ⟨Nat.not_le.2 hjump, hheld⟩))

end Sys2Proof.Machine
end

section
/-! PROOFS. The capacities, the pieces of a lag, and the hole-fill. -/

namespace Sys2Proof.Machine

-- One proof at a time: proofs elaborated at once add up past the memory of the check.
set_option Elab.async false

/-! ### Capacities (R114) -/

theorem annularCapacity_le (D d : Nat) : annularCapacity D d ≤ holeCapacity D := by
  unfold annularCapacity holeCapacity
  split
  · exact Nat.div_le_div_right (Nat.mul_le_mul_right _ (Nat.sub_le ..))
  · exact Nat.zero_le _

theorem square_le {D : Nat} (h : D ≤ 900) : D * D * 785 ≤ 635850000 := Nat.mul_le_mul_right 785 (Nat.mul_le_mul h h)

theorem holeCapacity_le {D : Nat} (h : D ≤ 900) : holeCapacity D ≤ 635850 := by
  have := square_le h
  unfold holeCapacity
  omega

/-! ### Cuts (R115) -/

section Cuts

variable {sections : List Section} {cuts : List Nat} {a t x z lo hi : Nat}

theorem mem_addCut : x ∈ addCut t cuts ↔ x = t ∨ x ∈ cuts := by
  induction cuts with
  | nil => simp [addCut]
  | cons c cuts ih =>
    rw [addCut]
    split
    · simp
    · split
      next heq => simp [heq]
      next => simp [ih, or_left_comm]

theorem addCut_sorted (h : cuts.Pairwise (· < ·)) : (addCut t cuts).Pairwise (· < ·) := by
  induction cuts with
  | nil => simp [addCut]
  | cons c cuts ih =>
    obtain ⟨hc, hrest⟩ := List.pairwise_cons.1 h
    rw [addCut]
    split
    next hlt => exact List.pairwise_cons.2 ⟨List.forall_mem_cons.2 ⟨hlt, fun b hb => hlt.trans (hc b hb)⟩, h⟩
    next hnot =>
      split
      · exact h
      next hne =>
        refine List.pairwise_cons.2 ⟨fun b hb => ?_, ih hrest⟩
        obtain rfl | hb := mem_addCut.1 hb
        · omega
        · exact hc b hb

theorem mem_topsBetween : x ∈ topsBetween sections lo hi ↔ (∃ e ∈ sections, e.top = x) ∧ lo < x ∧ x < hi := by
  induction sections with
  | nil => simp [topsBetween]
  | cons e sections ih =>
    have hcons : topsBetween (e :: sections) lo hi
        = if lo < e.top ∧ e.top < hi then addCut e.top (topsBetween sections lo hi) else topsBetween sections lo hi := rfl
    rw [hcons]
    split
    next hin =>
      rw [mem_addCut, ih, List.exists_mem_cons_iff]
      constructor
      · rintro (rfl | ⟨hmem, hrange⟩)
        · exact ⟨.inl rfl, hin⟩
        · exact ⟨.inr hmem, hrange⟩
      · rintro ⟨rfl | hmem, hrange⟩
        · exact .inl rfl
        · exact .inr ⟨hmem, hrange⟩
    next hout =>
      rw [ih, List.exists_mem_cons_iff]
      constructor
      · exact fun ⟨hmem, hrange⟩ => ⟨.inr hmem, hrange⟩
      · rintro ⟨rfl | hmem, hrange⟩
        · exact absurd hrange hout
        · exact ⟨hmem, hrange⟩

theorem topsBetween_sorted (sections : List Section) (lo hi : Nat) : (topsBetween sections lo hi).Pairwise (· < ·) := by
  induction sections with
  | nil => exact List.Pairwise.nil
  | cons e sections ih =>
    have hcons : topsBetween (e :: sections) lo hi
        = if lo < e.top ∧ e.top < hi then addCut e.top (topsBetween sections lo hi) else topsBetween sections lo hi := rfl
    rw [hcons]
    split
    · exact addCut_sorted ih
    · exact ih

/-- Cuts that lie in order strictly between `a` and `z`. -/
structure CutsOk (a z : Nat) (cuts : List Nat) : Prop where
  sorted : cuts.Pairwise (· < ·)
  inside : ∀ c ∈ cuts, a < c ∧ c < z

theorem topsBetween_cutsOk (sections : List Section) (lo hi : Nat) : CutsOk lo hi (topsBetween sections lo hi) :=
  ⟨topsBetween_sorted .., fun _ hc => (mem_topsBetween.1 hc).2⟩

theorem CutsOk.addCut (h : CutsOk a z cuts) (ht : a < t ∧ t < z) : CutsOk a z (addCut t cuts) :=
  ⟨addCut_sorted h.sorted, fun c hc => (mem_addCut.1 hc).elim (fun he => he ▸ ht) (h.inside c)⟩

theorem CutsOk.tail {c : Nat} (h : CutsOk a z (c :: cuts)) : CutsOk c z cuts :=
  ⟨(List.pairwise_cons.1 h.sorted).2, fun d hd =>
    ⟨(List.pairwise_cons.1 h.sorted).1 d hd, (h.inside d (List.mem_cons_of_mem _ hd)).2⟩⟩

theorem CutsOk.head {c : Nat} (h : CutsOk a z (c :: cuts)) : a < c ∧ c < z := h.inside c List.mem_cons_self

/-- Without a depth between there are no cuts and no ranges. -/
theorem CutsOk.empty (h : CutsOk a z cuts) (hz : z ≤ a) : rangesOf a z cuts = [] := by
  cases cuts with
  | nil => exact if_neg (Nat.not_lt.2 hz)
  | cons c cuts => exact absurd h.head (by omega)

theorem CutsOk.tops (h : CutsOk a z cuts) (hz : a < z) : (rangesOf a z cuts).map Prod.fst = a :: cuts := by
  induction cuts generalizing a with
  | nil => rw [rangesOf, if_pos hz]; rfl
  | cons c cuts ih => rw [rangesOf, List.map_cons, ih h.tail h.head.2]

theorem CutsOk.bottoms (h : CutsOk a z cuts) (hz : a < z) : (rangesOf a z cuts).map Prod.snd = cuts ++ [z] := by
  induction cuts generalizing a with
  | nil => rw [rangesOf, if_pos hz]; rfl
  | cons c cuts ih => rw [rangesOf, List.map_cons, ih h.tail h.head.2, List.cons_append]

/-- Each range has some length, lies between the ends, and has no cut strictly within. -/
theorem CutsOk.range (h : CutsOk a z cuts) {r : Nat × Nat} (hr : r ∈ rangesOf a z cuts) :
    r.1 < r.2 ∧ a ≤ r.1 ∧ r.2 ≤ z ∧ ∀ c ∈ cuts, c ≤ r.1 ∨ r.2 ≤ c := by
  induction cuts generalizing a with
  | nil =>
    rw [rangesOf] at hr
    split at hr
    next hz =>
      obtain rfl := List.mem_singleton.1 hr
      exact ⟨hz, le_rfl, le_rfl, by simp⟩
    next => exact absurd hr (by simp)
  | cons c cuts ih =>
    obtain ⟨hac, hcz⟩ := h.head
    rw [rangesOf] at hr
    obtain rfl | hr := List.mem_cons.1 hr
    · exact ⟨hac, le_rfl, hcz.le, List.forall_mem_cons.2 ⟨.inr le_rfl, fun d hd => .inr (h.tail.inside d hd).1.le⟩⟩
    · obtain ⟨hlt, hle, hz, hcuts⟩ := ih h.tail hr
      exact ⟨hlt, hac.le.trans hle, hz, List.forall_mem_cons.2 ⟨.inl hle, hcuts⟩⟩

/-- A sum over the ranges is the sum over the centimetres between the ends. -/
theorem CutsOk.sum (h : CutsOk a z cuts) (hz : a ≤ z) {g : Nat × Nat → Nat} {f : Nat → Nat}
    (hg : ∀ r ∈ rangesOf a z cuts, g r = ((List.range' r.1 (r.2 - r.1)).map f).sum) :
    ((rangesOf a z cuts).map g).sum = ((List.range' a (z - a)).map f).sum := by
  induction cuts generalizing a with
  | nil =>
    rw [rangesOf] at hg ⊢
    split
    next hlt =>
      rw [if_pos hlt] at hg
      simpa using hg (a, z) (by simp)
    next hge =>
      have hzero : z - a = 0 := by omega
      rw [hzero]
      rfl
  | cons c cuts ih =>
    obtain ⟨hac, hcz⟩ := h.head
    rw [rangesOf] at hg ⊢
    have hsplit : List.range' a (z - a) = List.range' a (c - a) ++ List.range' c (z - c) := by
      have := List.range'_append_1 (s := a) (m := c - a) (n := z - c)
      rw [Nat.add_sub_cancel' hac.le, show c - a + (z - c) = z - a by omega] at this
      exact this.symm
    rw [List.map_cons, List.sum_cons, hg _ List.mem_cons_self,
      ih h.tail hcz.le fun r hr => hg r (List.mem_cons_of_mem _ hr), hsplit, List.map_append, List.sum_append]

end Cuts

/-! ### Pieces and hole-fill (R115 to R117, R120) -/

section Pieces

variable {sections : List Section} {bha : Bha} {rodOd z : Nat}

/-- Between two section tops the diameter is one. -/
theorem diameterAt_congr {x y : Nat} (h : ∀ e ∈ sections, e.top ≤ x ↔ e.top ≤ y) :
    diameterAt sections x = diameterAt sections y := by
  have hfilter : sections.filter (fun e => e.top ≤ x) = sections.filter (fun e => e.top ≤ y) :=
    List.filter_congr fun e he => by simp [h e he]
  rw [diameterAt, diameterAt, hfilter]

/-- The section tops between, as they stand to a range of the cuts. -/
theorem CutsOk.section_apart {cuts : List Nat} {a z : Nat} (h : CutsOk a z cuts)
    (hall : ∀ e ∈ sections, a < e.top → e.top < z → e.top ∈ cuts) {r : Nat × Nat} (hr : r ∈ rangesOf a z cuts) :
    ∀ e ∈ sections, e.top ≤ r.1 ∨ r.2 ≤ e.top := by
  obtain ⟨_, ha, hz, hcuts⟩ := h.range hr
  intro e he
  by_cases hlo : a < e.top
  · by_cases hhi : e.top < z
    · exact hcuts _ (hall e he hlo hhi)
    · exact .inr (hz.trans (Nat.not_lt.1 hhi))
  · exact .inl ((Nat.not_lt.1 hlo).trans ha)

/-- The hole-fill, centimetre by centimetre (R120). -/
theorem holeFill_eq (sections : List Section) (h0 h1 : Nat) : holeFill sections h0 h1
    = ((List.range' h0 (h1 - h0)).map fun y => holeCapacity (diameterAt sections y)).sum := by
  have hcuts := topsBetween_cutsOk sections h0 h1
  by_cases hle : h0 ≤ h1
  · refine hcuts.sum hle fun r hr => ?_
    have hapart := hcuts.section_apart (fun e he hlo hhi => mem_topsBetween.2 ⟨⟨e, he, rfl⟩, hlo, hhi⟩) hr
    have hone : ∀ y ∈ List.range' r.1 (r.2 - r.1), holeCapacity (diameterAt sections y)
        = holeCapacity (diameterAt sections r.1) := by
      intro y hy
      obtain ⟨hlo, hhi⟩ := List.mem_range'_1.1 hy
      exact congrArg holeCapacity (diameterAt_congr fun e he => by have := hapart e he; omega)
    rw [List.map_congr_left hone, List.map_const', List.sum_replicate, List.length_range', smul_eq_mul, Nat.mul_comm]
  · have hzero : h1 - h0 = 0 := by omega
    rw [holeFill, hcuts.empty (by omega), hzero]
    rfl

/-- The cuts of a lag: the section tops and the BHA top (R115). -/
def lagCuts (sections : List Section) (bha : Bha) (z : Nat) : List Nat :=
  if 0 < bhaTop bha z ∧ bhaTop bha z < z then addCut (bhaTop bha z) (topsBetween sections 0 z)
  else topsBetween sections 0 z

theorem lagCuts_cutsOk (sections : List Section) (bha : Bha) (z : Nat) : CutsOk 0 z (lagCuts sections bha z) := by
  unfold lagCuts
  split
  next h => exact (topsBetween_cutsOk ..).addCut h
  next => exact topsBetween_cutsOk ..

theorem top_mem_lagCuts {e : Section} (he : e ∈ sections) (h0 : 0 < e.top) (hz : e.top < z) : e.top ∈ lagCuts sections bha z := by
  have hmem : e.top ∈ topsBetween sections 0 z := mem_topsBetween.2 ⟨⟨e, he, rfl⟩, h0, hz⟩
  unfold lagCuts
  split
  · exact mem_addCut.2 (.inr hmem)
  · exact hmem

/-- The BHA top is a cut where it lies within the hole. -/
theorem CutsOk.bha_apart {r : Nat × Nat} (hr : r ∈ rangesOf 0 z (lagCuts sections bha z)) :
    z - bha.length ≤ r.1 ∨ r.2 ≤ z - bha.length := by
  obtain ⟨_, _, hz, hcuts⟩ := (lagCuts_cutsOk sections bha z).range hr
  by_cases h : 0 < bhaTop bha z ∧ bhaTop bha z < z
  · exact hcuts _ (by rw [lagCuts, if_pos h]; exact mem_addCut.2 (.inl rfl))
  · simp only [bhaTop] at h
    omega

/-- The piece of annulus over a range (R116). -/
def lagPiece (sections : List Section) (bha : Bha) (rodOd z : Nat) (r : Nat × Nat) : Piece :=
  { top := r.1, bottom := r.2, diameter := diameterAt sections r.1, od := if bhaTop bha z ≤ r.1 then bha.od else rodOd
    capacity := annularCapacity (diameterAt sections r.1) (if bhaTop bha z ≤ r.1 then bha.od else rodOd)
    term := annularCapacity (diameterAt sections r.1) (if bhaTop bha z ≤ r.1 then bha.od else rodOd) * (r.2 - r.1) / 100 }

theorem lagPieces_eq (sections : List Section) (bha : Bha) (rodOd z : Nat) : lagPieces sections bha rodOd z
    = (rangesOf 0 z (lagCuts sections bha z)).map (lagPiece sections bha rodOd z) := rfl

theorem lagPieces_tops (sections : List Section) (bha : Bha) (rodOd z : Nat) :
    (lagPieces sections bha rodOd z).map Piece.top = if z = 0 then [] else 0 :: lagCuts sections bha z := by
  have hcuts := lagCuts_cutsOk sections bha z
  rw [lagPieces_eq, List.map_map]
  split
  next hz => rw [hcuts.empty (by omega)]; rfl
  next hz => exact hcuts.tops (Nat.pos_of_ne_zero hz)

theorem lagPieces_bottoms (sections : List Section) (bha : Bha) (rodOd z : Nat) :
    (lagPieces sections bha rodOd z).map Piece.bottom = if z = 0 then [] else lagCuts sections bha z ++ [z] := by
  have hcuts := lagCuts_cutsOk sections bha z
  rw [lagPieces_eq, List.map_map]
  split
  next hz => rw [hcuts.empty (by omega)]; rfl
  next hz => exact hcuts.bottoms (Nat.pos_of_ne_zero hz)

end Pieces

/-- Settles O48, by the cuts: in order, strictly between the ends, none strictly within a range. -/
theorem capacitiesAndPieces : Obligations.CapacitiesAndPieces := by
  refine ⟨fun D d => ⟨fun h => ?_, fun h => if_neg (Nat.not_lt.2 h), ?_, fun h => ⟨?_,
      (annularCapacity_le D d).trans (holeCapacity_le h), holeCapacity_le h⟩⟩,
    fun sections bha rodOd z => ?_, fun _ _ _ => rfl, holeFill_eq⟩
  · rw [annularCapacity, if_pos h, pow_two, pow_two]
  · rw [holeCapacity, pow_two]
  · rw [pow_two]
    exact square_le h
  · refine ⟨?_, ?_, fun p hp => ?_⟩
    · rw [lagPieces_bottoms, lagPieces_tops]
      split <;> rfl
    · rw [lagPieces_tops]
      split <;> rfl
    · rw [lagPieces_eq] at hp
      obtain ⟨r, hr, rfl⟩ := List.mem_map.1 hp
      have hcuts := lagCuts_cutsOk sections bha z
      exact ⟨(hcuts.range hr).1, hcuts.section_apart (fun e he h0 hz => top_mem_lagCuts he h0 hz) hr,
        CutsOk.bha_apart hr, rfl, rfl, rfl⟩

end Sys2Proof.Machine
end

section
/-! PROOFS. The requests of a job's life, and the marks a suspension makes. -/

namespace Sys2Proof.Machine

-- One proof at a time: proofs elaborated at once add up past the memory of the check.
set_option Elab.async false

/-! ### A status mark on one job's column -/

/-- The column after an extension to `h1` (R143). -/
def Job.extendedColumn (j : Job) (table : Vector LithEntry 64) (h1 : Nat) : List Interval :=
  match j.column.getLast? with
  | none => j.column
  | some deepest => if h1 ≤ deepest.bottom then j.column else (j.extension table deepest h1).1

/-- The column after a status mark (R149, R152). -/
def Job.markedColumn (j : Job) (table : Vector LithEntry 64) (status : CutStatus) (a b : Nat) : List Interval :=
  match applyRange table (.mark status) a b (j.extendedColumn table b) with
  | some r => r.1
  | none => setAndJoin table (.mark status) (Interval.covered a b) a b (j.extendedColumn table b)

section Marks

variable {o s u : State} {i : Fin 4} {j : Job} {phase : JobPhase} {bit : Nat}

theorem State.extendColumn_column (hj : s.job? i = some j) (h1 : Nat) :
    ∃ sheet, s.Wrote i { j with column := j.extendedColumn s.lith h1, sheet := sheet } (s.extendColumn i h1) := by
  cases hd : j.column.getLast? with
  | none =>
    have hsame : s.extendColumn i h1 = s := by simp only [State.extendColumn, hj, hd]
    have hcol : j.extendedColumn s.lith h1 = j.column := by rw [Job.extendedColumn, hd]
    rw [hsame, hcol]
    exact ⟨_, .refl hj⟩
  | some deepest =>
    rw [Job.extendedColumn, hd]
    by_cases hle : h1 ≤ deepest.bottom
    · simp only [if_pos hle]
      rw [State.extendColumn_idle hj hd hle]
      exact ⟨_, .refl hj⟩
    · simp only [if_neg hle]
      have hw := State.extendColumn_extension hj hd (Nat.not_le.1 hle)
      rw [Job.posts_eq] at hw
      exact ⟨_, hw⟩

/-- A status mark writes the column and the sheet of its job alone. -/
theorem State.markRange_column (hj : s.job? i = some j) (status : CutStatus) (a b : Nat) :
    ∃ sheet, s.Wrote i { j with column := j.markedColumn s.lith status a b, sheet := sheet } (s.markRange i status a b) := by
  obtain ⟨sheet, hw⟩ := State.extendColumn_column hj b
  have hlith : (s.extendColumn i b).lith = s.lith := (State.extendColumn_frame ..).kept .lith (by simp)
  refine ⟨sheet, ?_⟩
  unfold State.markRange Job.markedColumn
  simp only [hw.job?, hlith]
  cases applyRange s.lith (.mark status) a b (j.extendedColumn s.lith b) with
  | some r => exact hw.trans (State.setColumn_wrote hw.job? _)
  | none => exact hw.trans ((State.setColumn_wrote hw.job? _).frame (State.raise_frame ..))

/-- The job of a slot in two states: in both with one column, in the second, where it was written over `o`, in another
phase and at another bit depth. -/
structure State.Abreast (o : State) (i : Fin 4) (j : Job) (phase : JobPhase) (bit : Nat) (s u : State) : Prop where
  lith : u.lith = s.lith
  jobs : ∃ column sheet sheet', s.job? i = some { j with column := column, sheet := sheet }
    ∧ o.Wrote i { j with phase := phase, bitDepth := bit, column := column, sheet := sheet' } u

theorem State.Abreast.markRange (h : o.Abreast i j phase bit s u) (status : CutStatus) (a b : Nat) :
    o.Abreast i j phase bit (s.markRange i status a b) (u.markRange i status a b) := by
  obtain ⟨hlith, column, sheet, sheet', hs, hu⟩ := h
  obtain ⟨x, hx⟩ := State.markRange_column hs status a b
  obtain ⟨y, hy⟩ := State.markRange_column hu.job? status a b
  have hls : (s.markRange i status a b).lith = s.lith := (State.markRange_frame ..).kept .lith (by simp)
  have hlu : (u.markRange i status a b).lith = u.lith := (State.markRange_frame ..).kept .lith (by simp)
  rw [hlith] at hy
  exact ⟨by rw [hlu, hls, hlith], _, x, y, hx.job?, hu.trans hy⟩

theorem State.Abreast.markParcels (h : o.Abreast i j phase bit s u) (status : CutStatus) (ps : List Parcel) :
    o.Abreast i j phase bit (s.markParcels i status ps) (u.markParcels i status ps) := by
  induction ps generalizing s u with
  | nil => exact h
  | cons p ps ih => exact ih (h.markRange status p.top p.bottom)

theorem State.Abreast.frame {t : State} {parts : List Part} (h : o.Abreast i j phase bit s u) (hf : Frame parts u t)
    (hj : .jobs ∉ parts := by simp) (hl : .lith ∉ parts := by simp) : o.Abreast i j phase bit s t := by
  obtain ⟨hlith, column, sheet, sheet', hs, hu⟩ := h
  exact ⟨(hf.kept .lith hl : t.lith = u.lith).trans hlith, column, sheet, sheet', hs, hu.frame hf hj⟩

end Marks

/-! ### A suspension -/

/-- NOT_SAMPLED on the ranges of every parcel, oldest first, and then of the forming parcel (R19). -/
def State.notSampled (i : Fin 4) (hole : Nat) (s : State) : State :=
  let parcels := s.markParcels i .notSampled s.transit.parcels
  if s.transit.formingTop.all fun top => hole ≤ top then parcels
  else parcels.markRange i .notSampled (s.transit.formingTop.getD hole) hole

section Suspension

variable {s u : State} {i : Fin 4} {j : Job} {w : Word}

theorem State.JobsAgree.notSampled (h : s.JobsAgree u) (ht : u.transit = s.transit) (hole : Nat) :
    (s.notSampled i hole).JobsAgree (u.notSampled i hole) := by
  have hparcels := h.markParcels (i := i) .notSampled s.transit.parcels
  simp only [State.notSampled, ht]
  split
  · exact hparcels
  · exact hparcels.markRange ..

/-- Taking a request leaves what the marks depend on. -/
theorem State.notSampled_heard (code : Byte) (r : Request) (s : State) (hole : Nat) :
    ((s.heard code r).notSampled i hole).job? i = (s.notSampled i hole).job? i :=
  (State.JobsAgree.notSampled (s := s) (u := s.heard code r) ⟨rfl, rfl⟩ rfl hole).job? i

/-- The list given up marks as the ranges it held do. -/
theorem State.giveUpParcels_abreast {o : State} {phase : JobPhase} {bit : Nat} (h : o.Abreast i j phase bit s u)
    (ht : u.transit = s.transit) :
    o.Abreast i j phase bit (s.notSampled i j.holeDepth) (u.giveUpParcels i) := by
  have hempty : o.Abreast i j phase bit s (u.setParcels []) := h.frame (frame_transit u _)
  have hparcels := hempty.markParcels .notSampled s.transit.parcels
  obtain ⟨_, column, sheet, sheet', _, hu⟩ := h
  have finished : ∀ {x y : State}, o.Abreast i j phase bit x y →
      o.Abreast i j phase bit x { y with transit := { y.transit with formingTop := none } } := fun hy =>
    hy.frame (frame_transit _ _)
  rw [State.giveUpParcels, State.notSampled, ht, hu.job?]
  cases s.transit.formingTop with
  | none => exact finished hparcels
  | some top =>
    by_cases hle : j.holeDepth ≤ top
    · simp only [Option.all_some, decide_eq_true_eq, if_pos hle, if_neg (Nat.not_lt.2 hle)]
      exact finished hparcels
    · simp only [Option.all_some, decide_eq_true_eq, if_neg hle, if_pos (Nat.not_le.1 hle), Option.getD_some]
      exact finished (hparcels.markRange ..)

/-- A suspension leaves its job with the marks of the ranges the list held (R19). -/
theorem State.suspendJob_column (hj : s.job? i = some j) : ∃ column sheet,
    s.Wrote i { j with phase := .suspended, bitDepth := 0, column := column, sheet := sheet } (s.suspendJob i)
      ∧ some column = ((s.notSampled i j.holeDepth).job? i).map Job.column := by
  have hset : s.Wrote i { j with phase := .suspended, bitDepth := 0 }
      (s.modifyJob i fun j => { j with phase := .suspended, bitDepth := 0 }).dropHeld :=
    (State.Wrote.modifyJob (f := fun j => { j with phase := .suspended, bitDepth := 0 }) hj).frame (State.dropHeld_frame _)
  have hframe : Frame [.jobs, .attn, .depth] s
      (s.modifyJob i fun j => { j with phase := .suspended, bitDepth := 0 }).dropHeld :=
    ((State.modifyJob_frame ..).mono (by simp)).trans ((State.dropHeld_frame _).mono (by simp))
  have habreast : s.Abreast i j .suspended 0 s
      (s.modifyJob i fun j => { j with phase := .suspended, bitDepth := 0 }).dropHeld :=
    ⟨hframe.kept .lith (by simp), j.column, j.sheet, j.sheet, hj, hset⟩
  obtain ⟨_, column, _, sheet, hs, hu⟩ := State.giveUpParcels_abreast habreast (hframe.kept .transit (by simp))
  exact ⟨column, sheet, hu, by rw [hs]; rfl⟩

theorem State.suspendJob_transit (i : Fin 4) (s : State) :
    (s.suspendJob i).transit = { s.transit with parcels := [], formingTop := none } := by
  have htransit : (s.modifyJob i fun j => { j with phase := .suspended, bitDepth := 0 }).dropHeld.transit = s.transit :=
    (State.modifyJob_frame ..).kept .transit (by simp)
  rw [State.suspendJob, State.giveUpParcels_transit, htransit]

theorem State.suspendJob_depth (i : Fin 4) (s : State) : (s.suspendJob i).depth = { s.depth with held := none } := by
  have hdepth : (s.modifyJob i fun j => { j with phase := .suspended, bitDepth := 0 }).depth = s.depth :=
    (State.modifyJob_frame ..).kept .depth (by simp)
  rw [State.suspendJob, (State.giveUpParcels_frame ..).kept .depth (by simp [transitParts])]
  exact congrArg (fun d : DepthTracker => { d with held := none }) hdepth

theorem State.suspendRefusal_none (ho : s.engine.op = none) (hs : s.stringEmpty j = true) (hc : s.pumps.circ = .stopped) :
    s.suspendRefusal j = none := by
  simp [State.suspendRefusal, ho, hs, hc]

theorem serveSuspendJob_accepted (level : Nat) (h : NamesJob w s i j) (hp : j.phase = .active)
    (hr : s.suspendRefusal j = none) : serveSuspendJob level [w] s = accept (s.suspendJob i) := by
  refine (withUnclosedJob_named _ h (by simp [hp])).trans ?_
  simp only [ne_eq, not_true_eq_false, if_false, hp, hr]

theorem serveCloseJob_suspended (level : Nat) (h : NamesJob w s i j) (hp : j.phase = .suspended) :
    serveCloseJob level [w] s = accept (s.closeJob i) := by
  refine (withUnclosedJob_named _ h (by simp [hp])).trans ?_
  simp [hp]

theorem serveCloseJob_active (level : Nat) (h : NamesJob w s i j) (hp : j.phase = .active)
    (hr : s.suspendRefusal j = none) : serveCloseJob level [w] s = accept ((s.suspendJob i).closeJob i) := by
  refine (withUnclosedJob_named _ h (by simp [hp])).trans ?_
  simp [hp, hr]

/-- A closing settles its job (R20, R171). -/
theorem State.closeJob_wrote (hj : s.job? i = some j) : s.Wrote i { j with
    phase := .closed, sheet := s.settledAll j, settleMark := j.holeDepth } (s.closeJob i) := by
  have hsettle := State.settle_sheet hj
  rw [State.closeJob]
  generalize s.settle i = u at hsettle
  generalize s.settledAll j = sheet at hsettle ⊢
  exact hsettle.trans (.modifyJob (f := fun j => { j with phase := .closed }) hsettle.job?)

/-- Nothing is unsettled on a settled sheet (R171). -/
theorem State.settledAll_unsettled (s : State) (j : Job) (line : Fin 40) : (s.settledAll j)[line].unsettled = 0 := by
  rw [State.settledAll_get, State.settledLine]
  split
  next h => exact h
  next => rfl

end Suspension

section Opening

variable {s : State} {i : Fin 4} {j : Job}

theorem one_le (w : Word) : one w ≤ 65535 := Nat.le_of_lt_succ w.isLt

theorem indexFrom1_val {n k : Nat} {i : Fin n} (h : k = i.val + 1) : indexFrom1 n k = some i := by
  subst h
  have hi : 1 ≤ i.val + 1 ∧ i.val + 1 ≤ n := ⟨Nat.succ_pos _, i.isLt⟩
  rw [indexFrom1, dif_pos hi]
  rfl

theorem bandsOk_of {b1 b2 : Nat} (h1 : 1 ≤ b1) (h2 : b1 < b2) (h3 : b2 ≤ 100000) : bandsOk b1 b2 = true := by
  simp [bandsOk, h1, h2, h3]

theorem bhaOk_of {len od price : Nat} (h1 : 50 ≤ len) (h2 : len ≤ 2000) (h3 : 60 ≤ od) (h4 : od ≤ 400)
    (h5 : price ≤ 2147483647) : bhaOk len od price = true := by
  simp [bhaOk, within_true h1 h2, within_true h3 h4, maxPrice, h5]

theorem State.openJob_free (hn : s.jobNumberHeld j.number = false) (hi : s.freeJobSlot = some i) :
    s.openJob j = answer [(s.jobHandle i).word] (s.setJob i j) := by
  simp only [State.openJob, hn, hi]
  rfl

end Opening

/-- Settles O20; a suspension by `suspendJob_column`, a closing by `closeJob_wrote`. -/
theorem jobLifecycleCompletes : Obligations.JobLifecycleCompletes := by
  intro r s notSampled
  refine ⟨fun num s1 s0 dia ty b11 b10 b21 b20 len od p1 p0 t i taken h1 h2 h3 h4 h5 h6 h7 h8 h9 h10 h11 h12 h13 h14
      h15 => ?opened,
    fun w i j taken hj hp hidle => takeRequest_accepted taken ?activated,
    fun w i j taken hj hp ho hs hc => ?suspended, fun w i j taken hj hp => ?closed,
    fun w i j taken hj hp => takeRequest_accepted taken ?released⟩
  case opened =>
    intro bed above
    have hok : (within 1 65535 (one num) && two s1 s0 ≤ 100000 && within 100 900 (one dia)
        && bandsOk (two b11 b10) (two b21 b20) && bhaOk (one len) (one od) (two p1 p0)) = true := by
      simp [within_true h1 (one_le num), h2, within_true h3 h4, bandsOk_of h6 h7 h8, bhaOk_of h9 h10 h11 h12 h13]
    have hserve : serveOpenJob r.level.toNat [num, s1, s0, dia, ty, b11, b10, b21, b20, len, od, p1, p0] (s.heard 17 r)
        = (s.heard 17 r).openJob (Job.fresh (one num) (two s1 s0) (one dia) t (two b11 b10) (two b21 b20)
          ⟨one len, one od, two p1 p0, .stowed⟩) := by
      simp only [serveOpenJob, hok, if_true, indexFrom1_val h5]
    exact takeRequest_accepted taken (hserve.trans (State.openJob_free (s := s.heard 17 r) h14 h15))
  case activated =>
    have hactive : ¬(s.heard 18 r).active?.isSome = true := by
      rw [show (s.heard 18 r).active? = none from hidle]
      decide
    refine (withUnclosedJob_named (s := s.heard 18 r) _ hj hp).trans ?_
    simp only [ne_eq, not_true_eq_false, if_false, if_neg hactive]
    rfl
  case suspended =>
    have hjob : (s.heard 19 r).job? i = some j := hj.2.1
    obtain ⟨column, sheet, hw, hcol⟩ := State.suspendJob_column hjob
    have hframe : Frame (touched (.suspendJob r)) s ((s.heard 19 r).suspendJob i) :=
      ((State.heard_frame ..).mono (by simp [touched, requestParts])).trans
        ((State.suspendJob_frame ..).mono (by simp [touched, requestParts]))
    refine ⟨_, _, takeRequest_accepted taken (serveSuspendJob_accepted (s := s.heard 19 r) _ hj hp
      (State.suspendRefusal_none (s := s.heard 19 r) ho hs hc)), hw.job?, rfl, rfl, rfl, rfl, rfl,
      hcol.trans (congrArg (Option.map Job.column) (State.notSampled_heard ..)), State.suspendJob_transit ..,
      State.suspendJob_depth .., hframe⟩
  case closed =>
    have hjob : (s.heard 20 r).job? i = some j := hj.2.1
    have hheard : Frame (touched (.closeJob r)) s (s.heard 20 r) :=
      (State.heard_frame ..).mono (by simp [touched, requestParts])
    rcases hp with hsusp | ⟨hactive, ho, hs, hc⟩
    · have hw := State.closeJob_wrote hjob
      refine ⟨_, _, takeRequest_accepted taken (serveCloseJob_suspended (s := s.heard 20 r) _ hj hsusp), hw.job?, rfl, rfl,
        rfl, rfl, fun _ => ⟨rfl, (State.closeJob_frame ..).kept .transit (by simp)⟩, fun h => ?_,
        State.settledAll_unsettled _ _, fun k hk => hw.slot_other (Ne.symm hk),
        hheard.trans ((State.closeJob_frame ..).mono (by simp [touched, requestParts]))⟩
      exact nomatch hsusp.symm.trans h
    · obtain ⟨column, sheet, hsuspended, hcol⟩ := State.suspendJob_column hjob
      have hclosed := State.closeJob_wrote hsuspended.job?
      have hw := hsuspended.trans hclosed
      refine ⟨_, _, takeRequest_accepted taken (serveCloseJob_active (s := s.heard 20 r) _ hj hactive
        (State.suspendRefusal_none (s := s.heard 20 r) ho hs hc)), hw.job?, rfl, rfl, rfl, rfl, fun h => ?_,
        fun _ => ⟨hcol.trans (congrArg (Option.map Job.column) (State.notSampled_heard ..)),
          ((State.closeJob_frame ..).kept .transit (by simp)).trans (State.suspendJob_transit ..)⟩,
        State.settledAll_unsettled _ _, fun k hk => hw.slot_other (Ne.symm hk),
        (hheard.trans ((State.suspendJob_frame ..).mono (by simp [touched, requestParts]))).trans
          ((State.closeJob_frame ..).mono (by simp [touched, requestParts]))⟩
      exact nomatch hactive.symm.trans h
  case released =>
    refine (withJob_named (s := s.heard 21 r) _ hj).trans ?_
    simp only [ne_eq, not_true_eq_false, if_false, hp]
    rfl

end Sys2Proof.Machine
end

section
/-! PROOFS. The edits of a job's configuration. -/

namespace Sys2Proof.Machine

-- One proof at a time: proofs elaborated at once add up past the memory of the check.
set_option Elab.async false

section Edits

variable {s : State} {i : Fin 4} {j : Job} {w : Word}

theorem sectionModeBad_false (h : j.phase = .active → s.mode.mode = .setup) : sectionModeBad j s = false := by
  by_cases hp : j.phase = .active
  · simp [sectionModeBad, h hp]
  · simp [sectionModeBad, hp]

theorem Rates.setItem_footage (x : Rates) {item rate : Nat} {n : Fin 12} (h : item = n.val + 1) :
    x.setItem item rate = some { x with footage := x.footage.set n rate } := by
  subst h
  have hn : 1 ≤ n.val + 1 ∧ n.val + 1 ≤ 12 := ⟨Nat.succ_pos _, n.isLt⟩
  rw [Rates.setItem, dif_pos hn]
  rfl

theorem Rates.setItem_activity (x : Rates) {item rate : Nat} {n : Fin 5} (h : item = n.val + 13) :
    x.setItem item rate = some { x with activity := x.activity.set n rate } := by
  subst h
  have hout : ¬(1 ≤ n.val + 13 ∧ n.val + 13 ≤ 12) := by omega
  have hn : 13 ≤ n.val + 13 ∧ n.val + 13 ≤ 17 := by omega
  rw [Rates.setItem, dif_neg hout, dif_pos hn]
  rfl

theorem Rates.setItem_lostMud (x : Rates) {item rate : Nat} (h : item = 35) :
    x.setItem item rate = some { x with lostMud := rate } := by
  subst h
  rfl

theorem serveSetRate_item (level : Nat) {item r1 r0 : Word} {rates : Rates} (h : NamesJob w s i j) (hc : j.phase ≠ .closed)
    (ha : j.phase ≠ .active) (hr : two r1 r0 ≤ 2147483647) (hi : one item ≠ 0)
    (hrates : j.rates.setItem (one item) (two r1 r0) = some rates) :
    serveSetRate level [w, item, r1, r0] s = accept (s.setJob i { j with rates := rates }) := by
  refine (withUnclosedJob_named _ h hc).trans ?_
  have hprice : ¬maxPrice < two r1 r0 := Nat.not_lt.2 hr
  simp only [if_neg hi, State.setRateItem, if_neg hprice, hrates, if_neg ha]

theorem serveSetBha_accepted (level : Nat) {len od p1 p0 : Word} (h : NamesJob w s i j) (hc : j.phase ≠ .closed)
    (hok : bhaOk (one len) (one od) (two p1 p0) = true) (hmode : j.phase = .active → s.mode.mode = .setup)
    (hout : j.bha.place ≠ .inString) : serveSetBha level [w, len, od, p1, p0] s
      = accept ((s.setJob i { j with bha := ⟨one len, one od, two p1 p0, .stowed⟩ }).markGeometry (j.phase = .active)) := by
  have hmode' : ¬(j.phase = .active ∧ s.mode.mode ≠ .setup) := fun h => h.2 (hmode h.1)
  refine (withUnclosedJob_named _ h hc).trans ?_
  simp only [hok, Bool.true_eq_false, if_false, if_neg hmode', if_neg hout]

/-- The top stands in the hole section table. -/
theorem all_top_ne_false {sections : List Section} {t : Nat} (h : ∃ e ∈ sections, e.top = t) :
    ¬(sections.all fun e => e.top ≠ t) = true := by
  obtain ⟨e, he, htop⟩ := h
  exact fun hall => by simpa [htop] using List.all_eq_true.1 hall e he

theorem serveSetHoleSection_accepted (level : Nat) {t1 t0 dia : Word} (h : NamesJob w s i j) (hc : j.phase ≠ .closed)
    (ht : two t1 t0 ≤ 100000) (hd : within 100 900 (one dia) = true) (hmode : j.phase = .active → s.mode.mode = .setup)
    (hroom : (∃ e ∈ j.sections, e.top = two t1 t0) ∨ j.sections.length < 8) :
    serveSetHoleSection level [w, t1, t0, dia] s = accept ((s.setJob i { j with
      sections := placeSection ⟨two t1 t0, one dia⟩ j.sections }).markGeometry (j.phase = .active)) := by
  have hfield : ¬(100000 < two t1 t0 ∨ within 100 900 (one dia) = false) := by simp [hd, ht]
  have hfits : ¬((j.sections.all fun e => e.top ≠ two t1 t0) ∧ 8 ≤ j.sections.length) := fun hfull =>
    hroom.elim (fun hheld => all_top_ne_false hheld hfull.1) (fun hlt => absurd hfull.2 (Nat.not_le.2 hlt))
  refine (withUnclosedJob_named _ h hc).trans ?_
  simp only [if_neg hfield, sectionModeBad_false hmode, if_neg hfits]
  rfl

theorem serveClearHoleSection_accepted (level : Nat) {t1 t0 : Word} (h : NamesJob w s i j) (hc : j.phase ≠ .closed)
    (h1 : 1 ≤ two t1 t0) (ht : two t1 t0 ≤ 100000) (hmode : j.phase = .active → s.mode.mode = .setup)
    (hheld : ∃ e ∈ j.sections, e.top = two t1 t0) : serveClearHoleSection level [w, t1, t0] s = accept ((s.setJob i
      { j with sections := j.sections.filter fun e => e.top ≠ two t1 t0 }).markGeometry (j.phase = .active)) := by
  refine (withUnclosedJob_named _ h hc).trans ?_
  simp only [if_neg (Nat.not_lt.2 ht), sectionModeBad_false hmode, if_neg (Nat.ne_of_gt h1),
    if_neg (all_top_ne_false hheld)]
  rfl

end Edits

/-- Settles O21, each edit by the reply of its block. -/
theorem jobEditsComplete : Obligations.JobEditsComplete := by
  intro r s w i j hj edited marked
  have hmarked : ∀ {code : Byte} {j' : Job} {reply : Reply},
      reply = accept (((s.heard code r).setJob i j').markGeometry (j.phase = .active)) →
      reply = accept (marked (edited j' (s.heard code r))) := by
    intro code j' reply h
    rw [h, State.markGeometry]
    simp only [decide_eq_true_eq]
    rfl
  refine ⟨fun taken => takeRequest_accepted taken ?read,
    fun len od p1 p0 taken hc h1 h2 h3 h4 h5 hmode hout => takeRequest_accepted taken ?bha,
    fun item r1 r0 taken hc ha hr => ⟨fun n hn => takeRequest_accepted taken ?footage,
      fun n hn => takeRequest_accepted taken ?activity, fun hn => takeRequest_accepted taken ?lostMud⟩,
    fun item b11 b10 b21 b20 taken hi hc ha h1 h2 h3 => takeRequest_accepted taken ?bands,
    fun t1 t0 dia taken hc ht h1 h2 hmode hroom => takeRequest_accepted taken ?placed,
    fun t1 t0 taken hc h1 ht hmode hheld => takeRequest_accepted taken ?cleared,
    fun taken hc => takeRequest_accepted taken ?down, fun taken hc => takeRequest_accepted taken ?up⟩
  case read => exact (withJob_named (s := s.heard 16 r) _ hj).trans (if_pos rfl)
  case bha =>
    exact hmarked (serveSetBha_accepted (s := s.heard 22 r) _ hj hc (bhaOk_of h1 h2 h3 h4 h5) hmode hout)
  case footage =>
    exact serveSetRate_item (s := s.heard 23 r) _ hj hc ha hr (by omega) (j.rates.setItem_footage hn)
  case activity =>
    exact serveSetRate_item (s := s.heard 23 r) _ hj hc ha hr (by omega) (j.rates.setItem_activity hn)
  case lostMud =>
    exact serveSetRate_item (s := s.heard 23 r) _ hj hc ha hr (by omega) (j.rates.setItem_lostMud hn)
  case bands =>
    refine (withUnclosedJob_named (s := s.heard 23 r) _ hj hc).trans ?_
    simp only [if_pos hi, State.setBands, bandsOk_of h1 h2 h3, if_neg ha]
    rfl
  case placed =>
    exact hmarked (serveSetHoleSection_accepted (s := s.heard 24 r) _ hj hc ht (within_true h1 h2) hmode hroom)
  case cleared => exact hmarked (serveClearHoleSection_accepted (s := s.heard 25 r) _ hj hc h1 ht hmode hheld)
  case down => exact (withUnclosedJob_named (s := s.heard 26 r) _ hj hc).trans (if_pos rfl)
  case up => exact (withUnclosedJob_named (s := s.heard 27 r) _ hj hc).trans (if_pos rfl)

end Sys2Proof.Machine
end

section
/-! PROOFS. The handle checks of every request that carries a handle. -/

namespace Sys2Proof.Machine

-- One proof at a time: proofs elaborated at once add up past the memory of the check.
set_option Elab.async false

section Checks

variable {w : Word} {s : State}

theorem jobSlotOf_of {k : Fin 4} (h : slotCode w = k.val + 145) : jobSlotOf w = some k := by
  have hk := k.isLt
  have hin : 145 ≤ slotCode w ∧ slotCode w ≤ 148 := by omega
  rw [jobSlotOf, dif_pos hin]
  exact congrArg some (Fin.ext (by simp only [h]; omega))

theorem rodSlotOf_of {k : Fin 128} (h : slotCode w = k.val + 1) : rodSlotOf w = some k := by
  have hk := k.isLt
  have hin : 1 ≤ slotCode w ∧ slotCode w ≤ 128 := by omega
  rw [rodSlotOf, dif_pos hin]
  exact congrArg some (Fin.ext (by simp only [h]; omega))

theorem additiveSlotOf_of {k : Fin 16} (h : slotCode w = k.val + 129) : additiveSlotOf w = some k := by
  have hk := k.isLt
  have hin : 129 ≤ slotCode w ∧ slotCode w ≤ 144 := by omega
  rw [additiveSlotOf, dif_pos hin]
  exact congrArg some (Fin.ext (by simp only [h]; omega))

/-- What a handle check answers for a handle of no slot, of an empty slot, and of another generation (R30). -/
structure HandleChecked (slotOf : Word → Option (Fin n)) (held : Fin n → Bool) (gen : Fin n → Nat) (w : Word) (reply : Reply) :
    Prop where
  badField : slotOf w = none → reply = .error .badField
  notFound : ∀ k, slotOf w = some k → held k = false → reply = .error .notFound
  stale : ∀ k, slotOf w = some k → held k = true → gen k ≠ genOf w → reply = .error .stale

theorem withJob_checked (w : Word) (s : State) (k : Fin 4 → Job → Reply) :
    HandleChecked jobSlotOf (fun i => s.jobs[i].job.isSome) (fun i => s.jobs[i].gen) w (withJob w s k) := by
  refine ⟨fun h => by rw [withJob, h], fun i h hn => ?_, fun i h hs hg => ?_⟩
  · have hnone : s.job? i = none := by simpa [State.job?] using hn
    simp only [withJob, h, hnone]
  · obtain ⟨j, hj⟩ := Option.isSome_iff_exists.1 hs
    have hjob : s.job? i = some j := hj
    simp only [withJob, h, hjob]
    exact if_pos hg

theorem withRod_checked (w : Word) (s : State) (k : Fin 128 → Rod → Reply) :
    HandleChecked rodSlotOf (fun i => s.roster.slots[i].rod.isSome) (fun i => s.roster.slots[i].gen) w (withRod w s k) := by
  refine ⟨fun h => by rw [withRod, h], fun i h hn => ?_, fun i h hs hg => ?_⟩
  · have hnone : s.rod? i = none := by simpa [State.rod?] using hn
    simp only [withRod, h, hnone]
  · obtain ⟨x, hx⟩ := Option.isSome_iff_exists.1 hs
    have hrod : s.rod? i = some x := hx
    simp only [withRod, h, hrod]
    exact if_pos hg

theorem withAdditive_checked (w : Word) (s : State) (k : Fin 16 → Additive → Reply) :
    HandleChecked additiveSlotOf (fun i => s.tanks.additives[i].item.isSome) (fun i => s.tanks.additives[i].gen) w
      (withAdditive w s k) := by
  refine ⟨fun h => by rw [withAdditive, h], fun i h hn => ?_, fun i h hs hg => ?_⟩
  · have hnone : s.additive? i = none := by simpa [State.additive?] using hn
    simp only [withAdditive, h, hnone]
  · obtain ⟨x, hx⟩ := Option.isSome_iff_exists.1 hs
    have hitem : s.additive? i = some x := hx
    simp only [withAdditive, h, hitem]
    exact if_pos hg

end Checks

/-! ### The requests that carry a handle -/

/-- The request's block answers a payload that begins with a handle by a handle check of `P`'s kind. -/
def ChecksHandle (P : Word → State → Reply → Prop) (i : Instr) (code : Byte) (r : Request) : Prop :=
  ∃ required cls body, (code, required, cls) ∈ catalogue ∧ (∀ s, exec i s = takeRequest code required cls body r s)
    ∧ ∀ l w rest s, P w s (body l (w :: rest) s)

/-- The handle checks of the three tables. -/
def JobChecked (w : Word) (s : State) (reply : Reply) : Prop := ∃ k, reply = withJob w s k
def RodChecked (w : Word) (s : State) (reply : Reply) : Prop := ∃ k, reply = withRod w s k
def AdditiveChecked (w : Word) (s : State) (reply : Reply) : Prop := ∃ k, reply = withAdditive w s k

section Requests

variable {i : Instr} {code : Byte} {r : Request}

theorem additive_requests_check (hr : requestCode i = some (code, r)) (hm : code.toNat ∈ [88, 89, 90, 91, 92, 93]) :
    ChecksHandle AdditiveChecked i code r := by
  cases i <;> simp only [requestCode, Option.some.injEq, Prod.mk.injEq, reduceCtorEq] at hr
  case setAdditivePrice | readAdditive | receiveAdditive | stockCount | drawAdditive | retireAdditive =>
    obtain ⟨rfl, rfl⟩ := hr
    refine ⟨_, _, _, ?_, fun _ => rfl, fun _ _ _ _ => ⟨_, rfl⟩⟩
    decide
  all_goals obtain ⟨rfl, rfl⟩ := hr; exact absurd hm (by decide)

theorem rod_requests_check (hr : requestCode i = some (code, r)) (hm : code.toNat ∈ [35, 36, 37, 39]) :
    ChecksHandle RodChecked i code r := by
  cases i <;> simp only [requestCode, Option.some.injEq, Prod.mk.injEq, reduceCtorEq] at hr
  case amendRod | moveRod | retireRod | readRod =>
    obtain ⟨rfl, rfl⟩ := hr
    refine ⟨_, _, _, ?_, fun _ => rfl, fun _ _ _ _ => ⟨_, rfl⟩⟩
    decide
  all_goals obtain ⟨rfl, rfl⟩ := hr; exact absurd hm (by decide)

theorem job_requests_check (hr : requestCode i = some (code, r))
    (hm : code.toNat ∈ [16, 18, 19, 20, 21, 22, 23, 24, 25, 26, 27, 96, 131, 132, 133, 144, 145, 146]) :
    ChecksHandle JobChecked i code r := by
  cases i <;> simp only [requestCode, Option.some.injEq, Prod.mk.injEq, reduceCtorEq] at hr
  case readJob | activateJob | suspendJob | closeJob | releaseJob | setBha | setRate | setRateBands | setHoleSection |
      clearHoleSection | declareDown | clearDown | readLag | reviseInterval | noteWater | readInterval | readSheet |
      readRates | settle =>
    obtain ⟨rfl, rfl⟩ := hr
    refine ⟨_, _, _, ?_, fun _ => rfl, fun _ _ _ _ => ⟨_, rfl⟩⟩
    decide
  all_goals obtain ⟨rfl, rfl⟩ := hr; exact absurd hm (by decide)

/-- A request whose block checks its handle is refused by that check. -/
theorem ChecksHandle.refused {P : Word → State → Reply → Prop} {n : Nat} {slotOf : Word → Option (Fin n)}
    {held : State → Fin n → Bool} {gen : State → Fin n → Nat} {required : Nat} {cls : ReqClass} {w : Word}
    {rest : List Word} {s : State} (h : ChecksHandle P i code r)
    (hP : ∀ {w s reply}, P w s reply → HandleChecked slotOf (held s) (gen s) w reply)
    (hrow : (code, required, cls) ∈ catalogue) (taken : Taken code required cls (w :: rest) r s) :
    (slotOf w = none → exec i s = refusedWith .badField (s.heard code r))
      ∧ ∀ k, slotOf w = some k →
        (held (s.heard code r) k = false → exec i s = refusedWith .notFound (s.heard code r))
        ∧ (held (s.heard code r) k = true → gen (s.heard code r) k ≠ genOf w →
            exec i s = refusedWith .stale (s.heard code r)) := by
  obtain ⟨required', cls', body, hrow', hexec, hbody⟩ := h
  obtain ⟨rfl, rfl⟩ := Prod.mk.inj (catalogue_unique hrow hrow')
  obtain ⟨hbad, hnot, hstale⟩ := hP (hbody r.level.toNat w rest (s.heard code r))
  rw [hexec]
  exact ⟨fun hw => takeRequest_refused taken (hbad hw), fun k hw =>
    ⟨fun hk => takeRequest_refused taken (hnot k hw hk), fun hk hg => takeRequest_refused taken (hstale k hw hk hg)⟩⟩

end Requests

/-- A sound generation is none of a handle of generation 0 (R29). -/
theorem GenOk.ne_zero {g : Nat} {w : Word} (h : GenOk g) (hw : genOf w = 0) : g ≠ genOf w := by
  have := h.1
  omega

/-- Settles O24; the check of each table by `ChecksHandle.refused`. -/
theorem handleRule : Obligations.HandleRule := by
  intro i code r w rest s required cls hr hrow taken
  refine ⟨fun hm => ?_, fun hm => ?_, fun hm => ?_⟩
  · obtain ⟨hbad, hslot⟩ := (job_requests_check hr hm).refused
      (fun ⟨k, hk⟩ => hk ▸ withJob_checked _ _ k) hrow taken
    refine ⟨fun hw => hbad (dif_neg (by omega)), fun k hk => ?_⟩
    obtain ⟨hnot, hstale⟩ := hslot k (jobSlotOf_of hk)
    exact ⟨fun h => hnot (Option.isSome_eq_false_iff.2 (Option.isNone_iff_eq_none.2 h)),
      fun h => hstale (Option.isSome_iff_ne_none.2 h),
      fun h hgens hw => hstale (Option.isSome_iff_ne_none.2 h) ((hgens.1 k).ne_zero hw)⟩
  · obtain ⟨hbad, hslot⟩ := (rod_requests_check hr hm).refused
      (fun ⟨k, hk⟩ => hk ▸ withRod_checked _ _ k) hrow taken
    refine ⟨fun hw => hbad (dif_neg (by omega)), fun k hk => ?_⟩
    obtain ⟨hnot, hstale⟩ := hslot k (rodSlotOf_of hk)
    exact ⟨fun h => hnot (Option.isSome_eq_false_iff.2 (Option.isNone_iff_eq_none.2 h)),
      fun h => hstale (Option.isSome_iff_ne_none.2 h),
      fun h hgens hw => hstale (Option.isSome_iff_ne_none.2 h) ((hgens.2.1 k).ne_zero hw)⟩
  · obtain ⟨hbad, hslot⟩ := (additive_requests_check hr hm).refused
      (fun ⟨k, hk⟩ => hk ▸ withAdditive_checked _ _ k) hrow taken
    refine ⟨fun hw => hbad (dif_neg (by omega)), fun k hk => ?_⟩
    obtain ⟨hnot, hstale⟩ := hslot k (additiveSlotOf_of hk)
    exact ⟨fun h => hnot (Option.isSome_eq_false_iff.2 (Option.isNone_iff_eq_none.2 h)),
      fun h => hstale (Option.isSome_iff_ne_none.2 h),
      fun h hgens hw => hstale (Option.isSome_iff_ne_none.2 h) ((hgens.2.2 k).ne_zero hw)⟩

end Sys2Proof.Machine
end

section
/-! PROOFS. The edits of the rod roster. -/

namespace Sys2Proof.Machine

-- One proof at a time: proofs elaborated at once add up past the memory of the check.
set_option Elab.async false

/-! ### Wear (R49) -/

section Wear

variable {s : State} {i q : Fin 128} {k : Fin 4} {x : Rod}

theorem WearClass.code_max (x y : WearClass) : (x.max y).code = Max.max x.code y.code := by
  unfold WearClass.max
  split <;> omega

theorem Thresholds.grade_code (t : Thresholds) (n : Nat) :
    (t.grade n).code = if t.d ≤ n then 4 else if t.c ≤ n then 3 else if t.b ≤ n then 2 else 1 := by
  rw [Thresholds.grade]
  split_ifs <;> rfl

/-- The slot's rod graded anew when it is of a type (R34). -/
def RodSlot.regraded (k : Fin 4) (types : Vector RodType 4) (slot : RodSlot) : RodSlot :=
  ⟨slot.gen, slot.rod.map fun x => if x.type = k then { x with wear := x.grade types[x.type] } else x⟩

theorem RodSlot.regraded_other {slot : RodSlot} {types : Vector RodType 4} (h : ∀ x, slot.rod = some x → x.type ≠ k) :
    slot.regraded k types = slot := by
  obtain ⟨gen, rod⟩ := slot
  cases rod with
  | none => rfl
  | some x => exact congrArg (fun y => RodSlot.mk gen (some y)) (if_neg (h x rfl))

theorem RodSlot.regraded_of {slot : RodSlot} {types : Vector RodType 4} (hx : slot.rod = some x) (h : x.type = k) :
    slot.regraded k types = ⟨slot.gen, some { x with wear := x.grade types[x.type] }⟩ := by
  rw [RodSlot.regraded, hx, Option.map_some, if_pos h]

/-- One step of `regradeType`. -/
def State.regradeOf (k : Fin 4) (s : State) (i : Fin 128) : State :=
  if (s.rod? i).any (fun r => r.type == k) then s.regrade i else s

theorem State.regradeOf_roster (k : Fin 4) (s : State) (i : Fin 128) : (s.regradeOf k i).roster =
    { s.roster with slots := s.roster.slots.set i (s.roster.slots[i].regraded k s.roster.types) } := by
  by_cases h : ∃ x, s.rod? i = some x ∧ x.type = k
  · obtain ⟨x, hx, hk⟩ := h
    have hany : (s.rod? i).any (fun r => r.type == k) = true := by simp [hx, hk]
    rw [State.regradeOf, if_pos hany, State.regrade_some hx, RodSlot.regraded_of hx hk]
    split <;> rfl
  · have hany : ¬(s.rod? i).any (fun r => r.type == k) = true := by
      rw [Option.any_eq_true]
      exact fun ⟨x, hx, hk⟩ => h ⟨x, hx, beq_iff_eq.1 hk⟩
    rw [State.regradeOf, if_neg hany, RodSlot.regraded_other fun x hx hk => h ⟨x, hx, hk⟩]
    simp

theorem State.regradeType_roster (k : Fin 4) (s : State) :
    (s.regradeType k).roster = { s.roster with slots := (s.regradeType k).roster.slots }
      ∧ ∀ q : Fin 128, (s.regradeType k).roster.slots[q] = s.roster.slots[q].regraded k s.roster.types := by
  have hfold : s.regradeType k = (List.finRange 128).foldl (State.regradeOf k) s := rfl
  have hall : ∀ q, q ∈ List.finRange 128 := List.mem_finRange
  have hn : (List.finRange 128).Nodup := List.nodup_finRange 128
  rw [hfold]
  revert hall hn
  generalize List.finRange 128 = slots
  intro hall hn
  refine ⟨State.foldl_roster (fun s i => by rw [State.regradeOf_roster]) slots s, fun q => ?_⟩
  refine (State.foldl_slots (g := RodSlot.regraded k) (fun s i => by rw [State.regradeOf_roster])
    (fun s i => by rw [State.regradeOf_roster]) hn s q).trans (if_pos (hall q))

end Wear

/-! ### The edits -/

section Edits

variable {s : State} {i : Fin 128} {k : Fin 4} {x : Rod} {w : Word} {place : RackPlace}

/-- A Setup edit is taken in SETUP only (R2). -/
theorem Taken.setup {code : Byte} {required : Nat} {ws : List Word} {r : Request} (h : Taken code required .setup ws r s) :
    s.mode.mode = .setup := by
  by_contra hm
  have hserved : served s.mode.mode .setup = false := by simp [served, hm]
  have hnone := h.2
  simp only [admission, hserved, if_true] at hnone
  split at hnone
  · exact nomatch hnone
  · split at hnone <;> exact nomatch hnone

theorem lengthOk_of {n : Nat} (h : n = 0 ∨ (100 ≤ n ∧ n ≤ 1000)) : lengthOk n = true := by
  rcases h with rfl | ⟨h1, h2⟩
  · rfl
  · simp [lengthOk, within_true h1 h2]

theorem State.rodRefusal_none (h : x.awayFromRacks = false) (ho : s.opRod ≠ some i) : s.rodRefusal i x = none := by
  rw [State.rodRefusal, h, if_neg (by decide), if_neg ho]

theorem RodType.valid_of {t : RodType} (h1 : 100 ≤ t.length) (h2 : t.length ≤ 1000) (h3 : 40 ≤ t.od) (h4 : t.od ≤ 200)
    (hm : t.makeUps.rises = true) (hd : t.drilled.rises = true) (hp : t.price ≤ 2147483647) : t.valid = true := by
  simp [RodType.valid, within_true h1 h2, within_true h3 h4, hm, hd, hp]

theorem Thresholds.rises_of {b c d : Nat} (h1 : 1 ≤ b) (h2 : b < c) (h3 : c < d) : Thresholds.rises ⟨b, c, d⟩ = true := by
  simp [Thresholds.rises, h1, h2, h3]

/-- In SETUP a new type record of the ACTIVE job's rods sets the mark (R5, R34). -/
theorem State.replaceType_mode (type : RodType) (hm : s.mode.mode = .setup) : (s.replaceType k type).mode =
    { s.mode with geometryMark :=
        s.mode.geometryMark || (s.activeJob?.any fun (j : Job) => j.rodType == k) } := by
  have hmode : (({ s with roster := { s.roster with types := s.roster.types.set k type } } : State).regradeType k).mode
      = s.mode := (State.regradeType_frame k _).kept .mode (by simp [rosterParts])
  rw [State.replaceType, State.markGeometry, hmode, hm]
  cases s.activeJob?.any fun (j : Job) => j.rodType == k with
  | true => simp [State.setMode, hm]
  | false => simp [hmode]

theorem State.replaceType_frame (k : Fin 4) (type : RodType) (s : State) :
    Frame [.roster, .attn, .mode] s (s.replaceType k type) :=
  (((frame_roster s _).mono (by simp)).trans ((State.regradeType_frame k _).mono (by simp [rosterParts]))).trans
    ((State.markGeometry_frame ..).mono (by simp))

/-- The roster after a type record is replaced (R34). -/
theorem State.replaceType_roster (k : Fin 4) (type : RodType) (s : State) :
    (s.replaceType k type).roster
        = { s.roster with types := s.roster.types.set k type, slots := (s.replaceType k type).roster.slots }
      ∧ ∀ q : Fin 128, (s.replaceType k type).roster.slots[q]
        = s.roster.slots[q].regraded k (s.roster.types.set k type) := by
  have hroster : (s.replaceType k type).roster
      = (({ s with roster := { s.roster with types := s.roster.types.set k type } } : State).regradeType k).roster :=
    (State.markGeometry_frame ..).kept .roster (by simp)
  obtain ⟨hrest, hslots⟩ :=
    ({ s with roster := { s.roster with types := s.roster.types.set k type } } : State).regradeType_roster k
  rw [hroster]
  exact ⟨hrest, hslots⟩

end Edits

/-- Settles O25; a new type record by `replaceType_roster`, the other edits by the reply of their blocks. -/
theorem rosterEditsComplete : Obligations.RosterEditsComplete := by
  refine fun r s => ⟨fun n len od mb mc md db1 db0 dc1 dc0 dd1 dd0 p1 p0 k taken hk h1 h2 h3 h4 h5 h6 h7 h8 h9 h10
      h11 => ?type,
    fun g1 g0 ty len pk p1 p0 k place i taken hg hk hl hp htag hi hfree => takeRequest_accepted taken ?enrol,
    fun w g1 g0 len i x taken hx hl haway hop htag => takeRequest_accepted taken ?amend,
    fun w pk p1 p0 i x place taken hx hp haway hop => ?move,
    fun w why i x taken hx haway hop => ?retire⟩
  case type =>
    intro type byMakeUps byDrilled
    have hmode : (s.heard 33 r).mode.mode = .setup := taken.setup
    have hvalid : type.valid = true :=
      RodType.valid_of h1 h2 h3 h4 (Thresholds.rises_of h5 h6 h7) (Thresholds.rises_of h8 h9 h10) h11
    have hserve : serveSetRodType r.level.toNat [n, len, od, mb, mc, md, db1, db0, dc1, dc0, dd1, dd0, p1, p0]
        (s.heard 33 r) = accept ((s.heard 33 r).replaceType k type) := by
      simp only [serveSetRodType, indexFrom1_val hk]
      exact if_pos hvalid
    obtain ⟨hroster, hslots⟩ := State.replaceType_roster k type (s.heard 33 r)
    refine ⟨(s.heard 33 r).replaceType k type, takeRequest_accepted taken hserve,
      ((State.heard_frame ..).mono (by simp)).trans ((State.replaceType_frame ..).mono (by simp)), hroster,
      fun q x hx hxk => ?_, fun q hother => (hslots q).trans (RodSlot.regraded_other hother),
      State.replaceType_mode type hmode⟩
    refine ⟨x.grade type, ?_, (hslots q).trans ((RodSlot.regraded_of hx hxk).trans ?_)⟩
    · rw [Rod.grade, WearClass.code_max, Thresholds.grade_code, Thresholds.grade_code]
    · subst hxk
      simp
  case enrol =>
    have hfields : ¬(two g1 g0 = 0 ∨ lengthOk (one len) = false) := by simp [hg, lengthOk_of hl]
    have htag' : (s.heard 34 r).tagHeld (two g1 g0) = false := htag
    have hi' : (s.heard 34 r).emptyRodSlot = some i := hi
    have hfree' : (s.heard 34 r).rackFree place = true := hfree
    simp only [serveEnrolRod, indexFrom1_val hk, hp, if_neg hfields, State.enrol, htag', hi', hfree']
    rfl
  case amend =>
    have htag' : ¬(two g1 g0 ≠ 0 ∧ two g1 g0 ≠ x.tag ∧ (s.heard 35 r).tagHeld (two g1 g0) = true) := by
      rintro ⟨h0, hne, hheld⟩
      rcases htag with h | h | h
      · exact h0 h
      · exact hne h
      · exact nomatch (show s.tagHeld (two g1 g0) = true from hheld).symm.trans h
    refine (withRod_named (s := s.heard 35 r) _ hx).trans ?_
    simp only [lengthOk_of hl, State.rodRefusal_none (s := s.heard 35 r) haway hop, if_neg htag']
    rfl
  case move =>
    have hserve : serveMoveRod r.level.toNat [w, pk, p1, p0] (s.heard 36 r) =
        if place.place = x.place then accept (s.heard 36 r)
        else if (s.heard 36 r).rackFree place then accept ((s.heard 36 r).placeRod i place.place)
        else .error .full := by
      refine (withRod_named (s := s.heard 36 r) _ hx).trans ?_
      simp only [hp, State.rodRefusal_none (s := s.heard 36 r) haway hop]
    have hplace : (s.heard 36 r).placeRod i place.place = (s.heard 36 r).setRod i { x with place := place.place } :=
      State.modifyRod_some hx.2.1
    refine ⟨fun hsame => takeRequest_accepted taken (hserve.trans (if_pos hsame)),
      fun hne hfree => takeRequest_accepted taken (hserve.trans ((if_neg hne).trans ((if_pos hfree).trans ?_))),
      fun hne hfull => takeRequest_refused taken (hserve.trans ((if_neg hne).trans (if_neg ?_)))⟩
    · rw [hplace]
      rfl
    · exact fun hfree => nomatch (show s.rackFree place = true from hfree).symm.trans hfull
  case retire =>
    have hserve : ∀ {roster : Roster}, s.roster.tally (one why) = some roster →
        serveRetireRod r.level.toNat [w, why] (s.heard 37 r)
          = accept (({ s.heard 37 r with roster := roster } : State).removeRod i) := by
      intro roster htally
      have htally' : (s.heard 37 r).roster.tally (one why) = some roster := htally
      refine (withRod_named (s := s.heard 37 r) _ hx).trans ?_
      simp only [htally', State.rodRefusal_none (s := s.heard 37 r) haway hop]
    refine ⟨fun h => takeRequest_accepted taken ((hserve (by rw [h]; rfl)).trans rfl),
      fun h => takeRequest_accepted taken ((hserve (by rw [h]; rfl)).trans rfl),
      fun h1 h2 => takeRequest_refused taken ((withRod_named (s := s.heard 37 r) _ hx).trans ?_)⟩
    have htally : (s.heard 37 r).roster.tally (one why) = none := by
      rw [Roster.tally]
      · exact h1
      · exact h2
    simp only [htally]

end Sys2Proof.Machine
end

section
/-! PROOFS. The reads of the rod roster, and the string declared lost. -/

namespace Sys2Proof.Machine

-- One proof at a time: proofs elaborated at once add up past the memory of the check.
set_option Elab.async false

/-! ### Postings of one each -/

section Tally

variable {j : Job} {line : Fin 40} {lines : List (Fin 40)}

theorem clampLine_clampLine_add {z : Int} {n : Nat} (hlo : -2147483647 ≤ z) :
    clampLine (clampLine z + n) = clampLine (z + n) := by
  simp only [clampLine, lineLimit]
  omega

theorem clampLine_of_le {z : Int} (hlo : -2147483647 ≤ z) (hhi : z ≤ 2147483647) : clampLine z = z := by
  simp only [clampLine, lineLimit]
  omega

/-- One posted on each of a list of lines adds to a line as often as the list names it. -/
theorem Job.posts_ones (h : -2147483647 ≤ j.sheet[line].unsettled) (h' : j.sheet[line].unsettled ≤ 2147483647) :
    (j.posts (lines.map fun l => (l, 1))).sheet[line].unsettled
      = clampLine (j.sheet[line].unsettled + (lines.filter fun l => l == line).length) := by
  induction lines generalizing j with
  | nil => simpa [Job.posts] using (clampLine_of_le h h').symm
  | cons l lines ih =>
    rw [List.map_cons, Job.posts_cons]
    by_cases hl : l = line
    · subst hl
      have hpost : (j.post (l, 1)).sheet[l].unsettled = clampLine (j.sheet[l].unsettled + 1) :=
        congrArg Line.unsettled (Job.post_sheet_same (j := j) (p := (l, 1)))
      have hbounds : -2147483647 ≤ clampLine (j.sheet[l].unsettled + 1)
          ∧ clampLine (j.sheet[l].unsettled + 1) ≤ 2147483647 := by
        simp only [clampLine, lineLimit]
        omega
      rw [ih (by rw [hpost]; exact hbounds.1) (by rw [hpost]; exact hbounds.2), hpost,
        clampLine_clampLine_add (by omega), List.filter_cons_of_pos (by simp), List.length_cons]
      congr 1
      push_cast
      ring
    · have hpost := Job.post_sheet_other (j := j) (p := (l, 1)) hl
      rw [ih (by rw [hpost]; exact h) (by rw [hpost]; exact h'), hpost, List.filter_cons_of_neg (by simpa using hl)]

end Tally

/-! ### The string lost (R51) -/

section Lost

variable {s : State} {a : Fin 4} {j : Job}

theorem State.loseRod_roster (s : State) (i : Fin 128) : (s.loseRod i).roster = { s.roster with
    lost := tallyUp s.roster.lost
    slots := s.roster.slots.set i ⟨nextGen s.roster.slots[i].gen, none⟩ } := rfl

/-- The rods of a list lost: their slots a generation on, and the tally of lost rods. -/
theorem State.loseRods_roster (rods : List (Fin 128)) (s : State) (hlost : s.roster.lost ≤ 65535) :
    (rods.foldl State.loseRod s).roster = { s.roster with
      lost := min (s.roster.lost + rods.length) 65535, slots := (rods.foldl State.loseRod s).roster.slots } := by
  induction rods generalizing s with
  | nil =>
    have hmin : min (s.roster.lost + 0) 65535 = s.roster.lost := by omega
    rw [List.length_nil, hmin]
    rfl
  | cons i rods ih =>
    have hone := State.loseRod_roster s i
    have hle : (s.loseRod i).roster.lost ≤ 65535 := by
      rw [hone]
      exact Nat.min_le_right ..
    have hsum : min ((s.loseRod i).roster.lost + rods.length) 65535 = min (s.roster.lost + (rods.length + 1)) 65535 := by
      rw [hone]
      simp only [tallyUp]
      omega
    rw [List.foldl_cons, ih _ hle, hsum, hone, List.length_cons]

theorem State.loseRods_slots {rods : List (Fin 128)} (hn : rods.Nodup) (s : State) (q : Fin 128) :
    (rods.foldl State.loseRod s).roster.slots[q]
      = if q ∈ rods then ⟨nextGen s.roster.slots[q].gen, none⟩ else s.roster.slots[q] :=
  State.foldl_slots (f := State.loseRod) (g := fun _ slot => ⟨nextGen slot.gen, none⟩) (fun _ _ => rfl) (fun _ _ => rfl) hn s q

/-- The lines of the rods lost, from the top of the string down (R168). -/
def State.lostLines (s : State) : List (Fin 40) :=
  (s.stringRods.reverse.filterMap fun i => (s.rod? i).map Rod.type).map rodsLostLine

theorem State.rodsLost_wrote (hj : s.job? a = some j) :
    s.Wrote a (j.posts (s.lostLines.map fun l => (l, 1))) (s.rodsLost a) := by
  have hrods : Frame [.roster] s (s.stringRods.reverse.foldl State.loseRod s) :=
    Frame.foldl _ (fun s i => State.loseRod_frame s i) _ s
  have hjob : (s.stringRods.reverse.foldl State.loseRod s).job? a = some j := (hrods.job?_eq (by simp) a).trans hj
  have hposts := State.posts_wrote hjob (s.lostLines.map fun l => (l, 1))
  have heq : s.rodsLost a = (s.stringRods.reverse.foldl State.loseRod s).posts a (s.lostLines.map fun l => (l, 1)) := by
    rw [State.posts, State.lostLines, List.foldl_map, List.foldl_map]
    rfl
  rw [heq]
  exact hposts.frame_left hrods

theorem State.mem_lostLines {line : Fin 40} (h : line ∈ s.lostLines) : 35 ≤ line.val ∧ line.val < 39 := by
  obtain ⟨k, _, rfl⟩ := List.mem_map.1 h
  have := k.isLt
  simp only [rodsLostLine]
  omega

/-- The lines of some rods, those of one type. -/
theorem lostLines_filter (s : State) (rods : List (Fin 128)) (k : Fin 4) :
    (((rods.filterMap fun i => (s.rod? i).map Rod.type).map rodsLostLine).filter fun l => l == rodsLostLine k).length
      = (rods.filter fun i => (s.rod? i).any fun x => x.type == k).length := by
  have hinj : ∀ {t : Fin 4}, rodsLostLine t = rodsLostLine k ↔ t = k := fun {t} =>
    ⟨fun h => Fin.ext (Nat.add_left_cancel (congrArg Fin.val h)), fun h => by rw [h]⟩
  induction rods with
  | nil => rfl
  | cons i rods ih =>
    cases hx : s.rod? i with
    | none => rw [List.filterMap_cons, hx, List.filter_cons, hx]; exact ih
    | some x =>
      rw [List.filterMap_cons, hx, List.filter_cons, hx]
      by_cases hk : x.type = k
      · simpa [hinj, hk] using ih
      · simpa [hinj, hk] using ih

theorem State.lostLines_count (s : State) (k : Fin 4) : (s.lostLines.filter fun l => l == rodsLostLine k).length
    = (s.stringRods.filter fun i => (s.rod? i).any fun x => x.type == k).length := by
  rw [State.lostLines, lostLines_filter, List.filter_reverse, List.length_reverse]

/-- The ACTIVE job with its string lost (R51). -/
def Job.stringLost (j : Job) (lines : List (Fin 40)) : Job :=
  { j with
    bitDepth := 0
    bha := { j.bha with place := if j.bha.place = .inString then .lost else j.bha.place }
    sheet := (j.posts (lines.map (fun l => (l, 1)) ++ if j.bha.place = .inString then [(bhaLostLine, 1)] else [])).sheet }

/-- The postings of a lost string: one for each rod, and one for a BHA in it. -/
def Job.lostPostings (j : Job) (lines : List (Fin 40)) : List (Fin 40 × Int) :=
  lines.map (fun l => (l, 1)) ++ if j.bha.place = .inString then [(bhaLostLine, 1)] else []

theorem Job.stringLost_sheet (j : Job) (lines : List (Fin 40)) :
    (j.stringLost lines).sheet = (j.posts (j.lostPostings lines)).sheet := rfl

theorem Job.lostPostings_line {p : Fin 40 × Int} (h : p ∈ j.lostPostings s.lostLines) : 35 ≤ p.1.val := by
  rcases List.mem_append.1 h with h | h
  · obtain ⟨l, hl, rfl⟩ := List.mem_map.1 h
    exact (State.mem_lostLines hl).1
  · split at h
    · rw [List.mem_singleton.1 h]
      decide
    · exact absurd h (by simp)

theorem Job.stringLost_early {line : Fin 40} (h : line.val < 35) :
    (j.stringLost s.lostLines).sheet[line] = j.sheet[line] :=
  Job.posts_sheet_other fun p hp he => by
    have := Job.lostPostings_line hp
    rw [he] at this
    omega

/-- A type's rods-lost line rises by the rods of that type (R168). -/
theorem Job.stringLost_rods {k : Fin 4} (h : -2147483647 ≤ j.sheet[rodsLostLine k].unsettled)
    (h' : j.sheet[rodsLostLine k].unsettled ≤ 2147483647) :
    (j.stringLost s.lostLines).sheet[rodsLostLine k].unsettled = clampLine (j.sheet[rodsLostLine k].unsettled
      + (s.stringRods.filter fun i => (s.rod? i).any fun x => x.type == k).length) := by
  have hk := k.isLt
  have hbha : ∀ p ∈ (if j.bha.place = .inString then [(bhaLostLine, (1 : Int))] else []), p.1 ≠ rodsLostLine k := by
    intro p hp he
    split at hp
    · rw [List.mem_singleton.1 hp] at he
      have hv : (39 : Nat) = 35 + k.val := congrArg Fin.val he
      omega
    · exact absurd hp (by simp)
  have happend : j.posts (j.lostPostings s.lostLines) = (j.posts (s.lostLines.map fun l => (l, 1))).posts
      (if j.bha.place = .inString then [(bhaLostLine, 1)] else []) := List.foldl_append ..
  rw [Job.stringLost_sheet, happend, Job.posts_sheet_other hbha, Job.posts_ones h h', State.lostLines_count]

/-- The BHA-lost line rises by a BHA in the string (R168). -/
theorem Job.stringLost_bha : (j.stringLost s.lostLines).sheet[bhaLostLine].unsettled =
    if j.bha.place = .inString then clampLine (j.sheet[bhaLostLine].unsettled + 1) else j.sheet[bhaLostLine].unsettled := by
  have hrods : ∀ p ∈ s.lostLines.map (fun l => (l, (1 : Int))), p.1 ≠ bhaLostLine := by
    intro p hp he
    obtain ⟨l, hl, rfl⟩ := List.mem_map.1 hp
    have hl39 := (State.mem_lostLines hl).2
    have hv : l.val = 39 := congrArg Fin.val he
    omega
  rw [Job.stringLost_sheet, Job.lostPostings]
  split
  · exact congrArg Line.unsettled (Job.posts_sheet_once (p := (bhaLostLine, 1)) (qs := []) j hrods (by simp))
  · simp only [List.append_nil]
    rw [Job.posts_sheet_other hrods]

theorem State.loseBha_wrote {x : Job} (hx : s.job? a = some x) : s.Wrote a
    { x with
      bha := if j.bha.place = .inString then { x.bha with place := .lost } else x.bha
      sheet := (x.posts (if j.bha.place = .inString then [(bhaLostLine, 1)] else [])).sheet } (s.loseBha a j) := by
  unfold State.loseBha
  split
  next hin =>
    have hmod := State.Wrote.modifyJob (f := fun j => { j with bha := { j.bha with place := .lost } }) hx
    exact (hmod.trans (State.addUnsettled_wrote hmod.job? bhaLostLine 1)).frame (State.markGeometry_frame ..)
  next => exact .refl hx

theorem State.loseString_wrote (hj : s.job? a = some j) : s.Wrote a (j.stringLost s.lostLines) (s.loseString a j) := by
  have hrods := State.rodsLost_wrote hj
  have hbha := State.loseBha_wrote (j := j) hrods.job?
  have hlen : (((s.rodsLost a).loseBha a j).setStringLen 0).job? a = _ := hbha.job?
  have hbit := State.Wrote.modifyJob (f := fun j => { j with bitDepth := 0 }) hlen
  have hall := (hrods.trans hbha).trans (hbit.frame (State.dropHeld_frame _))
  have happend : ∀ qs, j.posts (s.lostLines.map (fun l => (l, 1)) ++ qs)
      = (j.posts (s.lostLines.map fun l => (l, 1))).posts qs := fun qs => List.foldl_append ..
  rw [State.loseString_eq, Job.stringLost, happend]
  obtain ⟨sheet, hsheet⟩ : ∃ sheet, j.posts (s.lostLines.map fun l => (l, 1)) = { j with sheet := sheet } :=
    ⟨_, Job.posts_eq ..⟩
  rw [hsheet] at hall ⊢
  by_cases hin : j.bha.place = .inString
  · simpa only [hin, if_true] using hall
  · simpa only [hin, if_false] using hall

/-- What follows the loss of the rods leaves the roster but the string length. -/
theorem State.loseString_roster (a : Fin 4) (j : Job) (s : State) : (s.loseString a j).roster =
    { (s.stringRods.reverse.foldl State.loseRod s).roster with stringLen := 0 } := by
  have hlines : (s.rodsLost a).roster = (s.stringRods.reverse.foldl State.loseRod s).roster :=
    (State.addUnsettleds_frame ..).kept .roster (by simp)
  have hbha : ((s.rodsLost a).loseBha a j).roster = (s.rodsLost a).roster :=
    (State.loseBha_frame ..).kept .roster (by simp)
  have hbit : ((((s.rodsLost a).loseBha a j).setStringLen 0).modifyJob a fun j => { j with bitDepth := 0 }).roster
      = (((s.rodsLost a).loseBha a j).setStringLen 0).roster := (State.modifyJob_frame ..).kept .roster (by simp)
  rw [State.loseString_eq]
  show ((((s.rodsLost a).loseBha a j).setStringLen 0).modifyJob a fun j => { j with bitDepth := 0 }).roster = _
  rw [hbit, ← hlines, ← hbha]
  rfl

/-- What the loss of the string leaves of the roster (R51). -/
theorem State.loseString_rods (a : Fin 4) (j : Job) (hlost : s.roster.lost ≤ 65535) :
    (s.loseString a j).roster = { s.roster with
        stringLen := 0, lost := min (s.roster.lost + s.stringRods.length) 65535
        slots := (s.loseString a j).roster.slots }
      ∧ ∀ q : Fin 128, (s.loseString a j).roster.slots[q]
        = if q ∈ s.stringRods then ⟨nextGen s.roster.slots[q].gen, none⟩ else s.roster.slots[q] := by
  have hroster := State.loseRods_roster s.stringRods.reverse s hlost
  have hslots := State.loseRods_slots (List.nodup_reverse.2 s.stringRods_nodup) s
  rw [State.loseString_roster]
  refine ⟨?_, fun q => ?_⟩
  · rw [hroster, List.length_reverse]
  · simpa only [List.mem_reverse] using hslots q

theorem State.loseString_frame (a : Fin 4) (j : Job) (s : State) :
    Frame [.roster, .jobs, .attn, .depth, .mode] s (s.loseString a j) :=
  (((State.rodsLost_frame a s).mono (by simp)).trans ((State.loseBha_frame a j _).mono (by simp))).trans
    ((State.loseString_end_frame a _).mono (by simp))

/-- In SETUP a BHA lost sets the mark (R5, log 33). -/
theorem State.loseBha_geometry (a : Fin 4) (j : Job) (s : State) : (s.loseBha a j).mode = { s.mode with geometryMark :=
    s.mode.geometryMark || (s.mode.mode == .setup && j.bha.place == .inString) } := by
  unfold State.loseBha
  split
  next hin =>
    have hmode : ((s.modifyJob a fun j => { j with bha := { j.bha with place := .lost } }).addUnsettled a bhaLostLine
        1).mode = s.mode :=
      (((State.modifyJob_frame ..).mono (by simp)).trans (State.addUnsettled_frame a bhaLostLine 1 _)).kept .mode (by simp)
    rw [State.markGeometry, hmode]
    by_cases hm : s.mode.mode = .setup
    · simp [State.setMode, hm, hin]
    · have hbeq : (s.mode.mode == .setup) = false := beq_eq_false_iff_ne.2 hm
      simp [hm, hmode, hbeq]
  next hout =>
    have hbeq : (j.bha.place == .inString) = false := beq_eq_false_iff_ne.2 hout
    simp [hbeq]

theorem State.loseString_mode (a : Fin 4) (j : Job) (s : State) : (s.loseString a j).mode = { s.mode with geometryMark :=
    s.mode.geometryMark || (s.mode.mode == .setup && j.bha.place == .inString) } := by
  have hrods : (s.rodsLost a).mode = s.mode := (State.rodsLost_frame ..).kept .mode (by simp)
  rw [State.loseString_eq, (State.loseString_end_frame ..).kept .mode (by simp), State.loseBha_geometry, hrods]

theorem State.loseString_depth (a : Fin 4) (j : Job) (s : State) : (s.loseString a j).depth = { s.depth with held := none } := by
  have hrods : (s.rodsLost a).depth = s.depth := (State.rodsLost_frame ..).kept .depth (by simp)
  have hbha : ((s.rodsLost a).loseBha a j).depth = (s.rodsLost a).depth :=
    (State.loseBha_frame ..).kept .depth (by simp)
  have hbit : ((((s.rodsLost a).loseBha a j).setStringLen 0).modifyJob a fun j => { j with bitDepth := 0 }).depth
      = (((s.rodsLost a).loseBha a j).setStringLen 0).depth := (State.modifyJob_frame ..).kept .depth (by simp)
  rw [State.loseString_eq, ← hrods, ← hbha]
  exact congrArg (fun d : DepthTracker => { d with held := none }) hbit

end Lost

/-- Settles O26; the string lost by its roster, its job and its lines. -/
theorem rosterReadsComplete : Obligations.RosterReadsComplete := by
  refine fun r s => ⟨fun n k taken hk => takeRequest_accepted taken ?type,
    fun g1 g0 i x taken hg hfind hx => takeRequest_accepted taken ?find,
    fun w i x taken hx => takeRequest_accepted taken ((withRod_named (s := s.heard 39 r) _ hx).trans (if_pos rfl)),
    fun p1 p0 taken h1 h2 => takeRequest_accepted taken (if_pos (within_true h1 h2)),
    fun taken => takeRequest_accepted taken rfl, fun a j taken ha ho hc he hlost => ?lost⟩
  case type =>
    simp only [serveReadRodType, indexFrom1_val hk, RodType.words, Thresholds.words]
    simp only [List.append_assoc]
    rfl
  case find =>
    have hfind' : ((s.heard 38 r).findRod fun y => y.tag == two g1 g0) = some i := hfind
    have hx' : (s.heard 38 r).rod? i = some x := hx
    simp only [serveFindRod, if_neg hg, hfind', hx']
    rfl
  case lost =>
    have hjob : (s.heard 42 r).job? a = some j := ha.2
    have hw := State.loseString_wrote hjob
    have hserve : serveDeclareStringLost r.level.toNat [] (s.heard 42 r) = answer
        (u16 s.stringRods.length ++ flag (j.bha.place = .inString)) ((s.heard 42 r).loseString a j) := by
      have hactive : (s.heard 42 r).active? = some a := ha.1
      have hop : (s.heard 42 r).engine.op = none := ho
      have hcirc : (s.heard 42 r).pumps.circ = .stopped := hc
      have hempty : (s.heard 42 r).stringEmpty j = false := he
      simp only [serveDeclareStringLost, hactive, hjob, hop, hcirc, hempty]
      rfl
    obtain ⟨hroster, hslots⟩ := State.loseString_rods (s := s.heard 42 r) a j hlost
    refine ⟨(s.heard 42 r).loseString a j, j.stringLost s.lostLines, takeRequest_accepted taken hserve,
      State.loseString_depth .., State.loseString_mode .., hw, rfl,
      fun line => ⟨(Job.posts_settled ..).1, (Job.posts_settled ..).2, fun hline => Job.stringLost_early hline⟩,
      fun line k hline h h' => ?_, Job.stringLost_bha, hroster, fun q hq => (hslots q).trans (if_pos hq),
      fun q hq => (hslots q).trans (if_neg hq), ?_⟩
    · obtain rfl : rodsLostLine k = line := Fin.ext (by simp only [rodsLostLine]; omega)
      exact Job.stringLost_rods h h'
    · exact ((State.heard_frame ..).mono (by simp [touched, requestParts])).trans
        ((State.loseString_frame ..).mono (by simp [touched, requestParts]))

end Sys2Proof.Machine
end

section
/-! PROOFS. The frames of the command link: the header word, the checks, and the commands frames spell. -/

namespace Sys2Proof.Machine

-- One proof at a time: proofs elaborated at once add up past the memory of the check.
set_option Elab.async false

/-! ### The header word (R177) -/

section Header

variable (code : Byte) (level : BitVec 2) (count : BitVec 6) (h : Word)

theorem header_toNat : (header code level count).toNat = code.toNat * 256 + level.toNat * 64 + count.toNat := by
  have hl := level.isLt
  have hc := count.isLt
  rw [header, BitVec.toNat_append, BitVec.toNat_append, ← Nat.shiftLeft_add_eq_or_of_lt hc,
    ← Nat.shiftLeft_add_eq_or_of_lt hl, Nat.shiftLeft_eq, Nat.shiftLeft_eq]
  omega

@[simp] theorem headerCount_header : headerCount (header code level count) = count.toNat := by
  have := count.isLt
  rw [headerCount, header_toNat]
  omega

@[simp] theorem headerCode_header : headerCode (header code level count) = code := by
  have := count.isLt
  have := level.isLt
  have hc := code.isLt
  refine BitVec.eq_of_toNat_eq ?_
  rw [headerCode, header_toNat, BitVec.toNat_ofNat]
  omega

theorem header_level : (header code level count).extractLsb' 6 2 = level := by
  have := count.isLt
  have := level.isLt
  refine BitVec.eq_of_toNat_eq ?_
  rw [BitVec.extractLsb'_toNat, header_toNat, Nat.shiftRight_eq_div_pow]
  omega

theorem header_count : (header code level count).extractLsb' 0 6 = count := by
  have := count.isLt
  refine BitVec.eq_of_toNat_eq ?_
  rw [BitVec.extractLsb'_toNat, header_toNat, Nat.shiftRight_eq_div_pow]
  omega

/-- A header word is that of the code, the level and the count it carries. -/
theorem header_parts : header (headerCode h) (h.extractLsb' 6 2) (h.extractLsb' 0 6) = h := by
  have := h.isLt
  refine BitVec.eq_of_toNat_eq ?_
  rw [header_toNat, headerCode, BitVec.extractLsb'_toNat, BitVec.extractLsb'_toNat, BitVec.toNat_ofNat,
    Nat.shiftRight_eq_div_pow, Nat.shiftRight_eq_div_pow]
  omega

end Header

/-! ### The frame checks (R179) -/

section Judge

variable {f : RawFrame} {code : Byte} {r : Request} {status : Status} {h : Word} {rest ws : List Word}

theorem judgeFrame_short (hs : r.tail ≠ [] ∨ r.words.length < r.count.toNat + 1) :
    judgeFrame (requestFrame code r) = .error .linkShort := by
  refine if_pos ?_
  rw [headerCount_header]
  simpa [requestFrame] using hs

theorem judgeFrame_long (ht : r.tail = []) (hl : r.count.toNat + 1 < r.words.length) :
    judgeFrame (requestFrame code r) = .error .linkLong := by
  refine (if_neg ?_).trans (if_pos ?_) <;> rw [headerCount_header] <;> simp [requestFrame, ht] <;> omega

theorem judgeFrame_crc {last : Word} (ht : r.tail = []) (hw : r.words = ws ++ [last]) (hn : ws.length = r.count.toNat)
    (hc : last ≠ crc (header code r.level r.count :: ws)) : judgeFrame (requestFrame code r) = .error .linkCrc := by
  have hlen : r.words.length = r.count.toNat + 1 := by simp [hw, hn]
  refine (if_neg ?_).trans ((if_neg ?_).trans (if_pos ?_))
  · rw [headerCount_header]
    simp [requestFrame, ht, hlen]
  · rw [headerCount_header]
    simp [requestFrame, hlen]
  · rw [hw, List.getLast?_concat, List.dropLast_concat]
    simpa using hc

/-- A frame whose checks fail is a link error under its row, whatever the row (R179). -/
theorem exec_bad_frame {i : Instr} (s : State) (hr : requestCode i = some (code, r))
    (hj : judgeFrame (requestFrame code r) = .error status) :
    exec i s = .next ((s.clockOut (16 * (r.words.length + 1) + r.tail.length)).linkError status) := by
  have hbits : frameBits (requestFrame code r) = 16 * (r.words.length + 1) + r.tail.length := rfl
  rcases exec_request hr s with rfl | ⟨required, cls, body, hexec⟩
  · obtain ⟨rfl, _⟩ := Prod.mk.inj (Option.some.inj hr)
    rw [exec_nop_bad_frame s hj, hbits]
  · rw [hexec, takeRequest_bad_frame body hj, hbits]

/-- A good frame carried a word. -/
theorem frameBits_ne_zero (hj : judgeFrame f = .ok ws) : frameBits f ≠ 0 := by
  intro hz
  have hwords : f.words = [] := List.length_eq_zero_iff.1 (by simp only [frameBits] at hz; omega)
  rw [judgeFrame, hwords] at hj
  exact nomatch hj

end Judge

/-- Settles O7; the checks in their order, and the discarded frame by what they make of it. -/
theorem badFramesAreLinkErrors : Obligations.BadFramesAreLinkErrors := by
  refine ⟨fun i code r s hr => ⟨fun hs => exec_bad_frame s hr (judgeFrame_short hs),
      fun ht hl => exec_bad_frame s hr (judgeFrame_long ht hl),
      fun ws last ht hw hn hc => exec_bad_frame s hr (judgeFrame_crc ht hw hn hc)⟩,
    fun f s => ⟨fun hz => if_pos hz, fun status hz hj => (if_neg hz).trans ?_,
      fun ws hj hspells => (if_neg (frameBits_ne_zero hj)).trans ?_⟩, fun _ _ => rfl, fun gathered s => ?_⟩
  · simp only [hj]
  · simp only [hj, hspells, if_true]
  · rw [exec, execLinkReset]
    split <;> rfl

/-! ### Frames and the commands they spell (R177) -/

section Spelling

variable {code : Nat} {r : Request} {i : Instr}

/-- The request of a code carries that code, and spells its own row. -/
theorem requestOfCode_some (h : requestOfCode code r = some i) :
    requestCode i = some (BitVec.ofNat 8 code, r) ∧ i.wellFormed = tailOk r.tail := by
  unfold requestOfCode at h
  split at h <;> simp only [Option.some.injEq, reduceCtorEq] at h
  case h_14 =>
    subst h
    cases hb : namesBands r with
    | true => exact ⟨rfl, by simp [Instr.wellFormed, hb]⟩
    | false => exact ⟨rfl, by simp [Instr.wellFormed, hb]⟩
  all_goals subst h; exact ⟨rfl, rfl⟩

theorem requestOfCode_isSome (code : Nat) (r r' : Request) : (requestOfCode code r).isSome = (requestOfCode code r').isSome := by
  unfold requestOfCode
  split <;> rfl

/-- A well-formed request is the one its code names. -/
theorem requestOfCode_of {c : Byte} (hw : i.wellFormed = true) (hr : requestCode i = some (c, r)) :
    requestOfCode c.toNat r = some i := by
  cases i <;> simp only [requestCode, Option.some.injEq, Prod.mk.injEq, reduceCtorEq] at hr
  case setRate x =>
    obtain ⟨rfl, rfl⟩ := hr
    have hb : namesBands x = false := by simpa [Instr.wellFormed] using (Bool.and_eq_true_iff.1 hw).2
    exact congrArg some (if_neg (by simp [hb]))
  case setRateBands x =>
    obtain ⟨rfl, rfl⟩ := hr
    exact congrArg some (if_pos (Bool.and_eq_true_iff.1 hw).2)
  all_goals obtain ⟨rfl, rfl⟩ := hr; rfl

theorem frameOf_request {c : Byte} (hr : requestCode i = some (c, r)) : frameOf i = some (requestFrame c r) := by
  have hmap : frameOf i = (requestCode i).map fun x => requestFrame x.1 x.2 := by
    cases i with
    | discardedFrame f => exact nomatch hr
    | _ => rfl
  rw [hmap, hr]
  rfl

end Spelling

section Frames

variable {keys : KeyLines} {f : RawFrame} {h : Word} {rest : List Word}

theorem requestOf_header (c : Byte) (r : Request) :
    requestOf r.keys (header c r.level r.count) r.words r.tail = r := by
  rw [requestOf, header_level, header_count]

theorem requestFrame_requestOf (keys : KeyLines) (h : Word) (rest : List Word) (tail : List Bool) :
    requestFrame (headerCode h) (requestOf keys h rest tail) = { words := h :: rest, tail := tail } := by
  rw [requestFrame, requestOf, header_parts]

theorem commandOfFrame_cons (hf : f.words = h :: rest) : commandOfFrame keys f
    = (requestOfCode (headerCode h).toNat (requestOf keys h rest f.tail)).getD (.discardedFrame f) := by
  simp only [commandOfFrame, hf]

theorem spellsNoRequest_cons (hf : f.words = h :: rest) (r : Request) :
    spellsNoRequest f = !(requestOfCode (headerCode h).toNat r).isSome := by
  simp only [spellsNoRequest, hf, knownCode]
  rw [requestOfCode_isSome _ _ r]

/-- A frame of a known code is that of the request it spells. -/
theorem commandOfFrame_known {i : Instr} (hf : f.words = h :: rest)
    (hi : requestOfCode (headerCode h).toNat (requestOf keys h rest f.tail) = some i) (ht : f.tail.length < 16) :
    (commandOfFrame keys f).wellFormed = true ∧ frameOf (commandOfFrame keys f) = some f := by
  obtain ⟨hcode, hwell⟩ := requestOfCode_some hi
  rw [BitVec.ofNat_toNat, BitVec.setWidth_eq] at hcode
  rw [commandOfFrame_cons hf, hi]
  refine ⟨hwell.trans (decide_eq_true ht), (frameOf_request hcode).trans ?_⟩
  rw [requestFrame_requestOf, ← hf]

end Frames

/-- Settles O4; a frame by whether its code is in the catalogue. -/
theorem framesSpellCommands : Obligations.FramesSpellCommands := by
  refine ⟨fun i code r hw hr => ?_, fun keys f hw => ?_, fun keys f ht => ?_⟩
  · rw [commandOfFrame_cons (f := requestFrame code r) rfl, headerCode_header]
    have hreq : requestOfCode code.toNat (requestOf r.keys (header code r.level r.count) r.words r.tail) = some i :=
      (congrArg _ (requestOf_header code r)).trans (requestOfCode_of hw hr)
    exact Option.getD_eq_iff.2 (.inl hreq)
  · cases hf : f.words with
    | nil => simp only [commandOfFrame, hf]
    | cons h rest =>
      have hspells : spellsNoRequest f = true := (Bool.and_eq_true_iff.1 hw).2
      rw [spellsNoRequest_cons hf (requestOf keys h rest f.tail)] at hspells
      have hnone : requestOfCode (headerCode h).toNat (requestOf keys h rest f.tail) = none := by simpa using hspells
      rw [commandOfFrame_cons hf, hnone]
      rfl
  · cases hf : f.words with
    | nil =>
      have hcommand : commandOfFrame keys f = .discardedFrame f := by simp only [commandOfFrame, hf]
      rw [hcommand]
      exact ⟨by simp [Instr.wellFormed, tailOk, ht, spellsNoRequest, hf], rfl⟩
    | cons h rest =>
      cases hi : requestOfCode (headerCode h).toNat (requestOf keys h rest f.tail) with
      | some i => exact commandOfFrame_known hf hi ht
      | none =>
        have hspells := spellsNoRequest_cons hf (requestOf keys h rest f.tail)
        rw [commandOfFrame_cons hf, hi]
        exact ⟨by simp [Instr.wellFormed, tailOk, ht, hspells, hi], rfl⟩

end Sys2Proof.Machine
end

section
/-! PROOFS. The messages of the station line: the checks, the discards, and the commands messages spell. -/

namespace Sys2Proof.Machine

-- One proof at a time: proofs elaborated at once add up past the memory of the check.
set_option Elab.async false

/-! ### The checks of a message (R183) -/

section Checks

variable {bytes : List Byte} {kind : Byte} {m : Message} {i : Instr}

/-- The byte sum is that of the numbers, modulo 256. -/
theorem foldl_add_toNat {b : Byte} {n : Nat} (h : n % 256 = b.toNat) :
    (bytes.foldl (· + ·) b).toNat = bytes.foldl (fun n b => n + b.toNat) n % 256 := by
  induction bytes generalizing b n with
  | nil => exact h.symm
  | cons x xs ih => exact ih (show (n + x.toNat) % 256 = _ by rw [BitVec.toNat_add]; omega)

theorem sumsToZero_iff : sumsToZero bytes = true ↔ bytes.foldl (fun n b => n + b.toNat) 0 % 256 = 0 := by
  rw [sumsToZero, beq_iff_eq, ← BitVec.toNat_inj, foldl_add_toNat (b := 0#8) (n := 0) rfl]
  rfl

theorem stationOf_eq_none_iff {n : Nat} : stationOf n = none ↔ n = 0 ∨ 5 < n := by
  refine ⟨fun h => ?_, fun h => ?_⟩
  · by_contra hn
    have : n = 1 ∨ n = 2 ∨ n = 3 ∨ n = 4 ∨ n = 5 := by omega
    rcases this with rfl | rfl | rfl | rfl | rfl <;> exact nomatch h
  · unfold stationOf
    split <;> first | rfl | omega

theorem judgeMessage_length (h : bytes.length ≠ 7) : judgeMessage bytes = some .length := if_pos h

theorem judgeMessage_sum (hl : bytes.length = 7) (hs : bytes.foldl (fun n b => n + b.toNat) 0 % 256 ≠ 0) :
    judgeMessage bytes = some .sum := by
  have hz : sumsToZero bytes = false := Bool.eq_false_iff.2 fun hz => hs (sumsToZero_iff.1 hz)
  exact (if_neg (not_not_intro hl)).trans (if_pos (by rw [hz]; rfl))

theorem judgeMessage_summed (hl : bytes.length = 7) (hs : bytes.foldl (fun n b => n + b.toNat) 0 % 256 = 0) :
    judgeMessage bytes = if stationOf (addressByte bytes) = none then some .address else none := by
  have hz : sumsToZero bytes = true := sumsToZero_iff.2 hs
  exact (if_neg (not_not_intro hl)).trans (if_neg (by rw [hz]; exact Bool.false_ne_true))

theorem judgeMessage_address (hl : bytes.length = 7) (hs : bytes.foldl (fun n b => n + b.toNat) 0 % 256 = 0)
    (ha : addressByte bytes = 0 ∨ 5 < addressByte bytes) : judgeMessage bytes = some .address :=
  (judgeMessage_summed hl hs).trans (if_pos (stationOf_eq_none_iff.2 ha))

/-- A message under the row of its kind is handed over after its checks (R184). -/
theorem exec_message (hm : messageKind i = some (kind, m)) (s : State) :
    ∃ receiver, exec i s = deliver kind receiver m s := by
  cases i <;> simp only [messageKind, Option.some.injEq, Prod.mk.injEq, reduceCtorEq] at hm
  all_goals obtain ⟨rfl, rfl⟩ := hm; exact ⟨_, rfl⟩

theorem exec_bad_message {reason : StationReason} (hm : messageKind i = some (kind, m)) (s : State)
    (hj : judgeMessage (messageBytes kind m) = some reason) :
    exec i s = .next (s.raise .linkError (.message reason m.address.toNat)) := by
  obtain ⟨receiver, hexec⟩ := exec_message hm s
  rw [hexec, deliver_bad receiver s hj]

theorem exec_discarded_bad {reason : StationReason} (s : State) (hj : judgeMessage bytes = some reason) :
    exec (.discardedStationMessage bytes) s = .next (s.raise .linkError (.message reason (addressByte bytes))) := by
  rw [exec, execDiscardedStationMessage]
  simp only [hj]

end Checks

/-- Settles O8; a message by the first check it fails. -/
theorem badMessagesAreDiscarded : Obligations.BadMessagesAreDiscarded := by
  refine ⟨fun i kind m s hm => ⟨fun hs => exec_bad_message hm s (judgeMessage_sum rfl hs),
      fun hs ha => exec_bad_message hm s (judgeMessage_address rfl hs ha)⟩,
    fun bytes s => ⟨fun hl => exec_discarded_bad s (judgeMessage_length hl),
      fun hl hs => exec_discarded_bad s (judgeMessage_sum hl hs),
      fun hl hs ha => exec_discarded_bad s (judgeMessage_address hl hs ha), fun kind hl hs h1 h5 hk hkind => ?_⟩⟩
  have hgood : judgeMessage bytes = none :=
    (judgeMessage_summed hl hs).trans (if_neg fun h => by
      have := stationOf_eq_none_iff.1 h
      simp only [addressByte] at this
      omega)
  have hbyte : kindByte bytes = kind.toNat := by rw [kindByte, hk]; rfl
  have hnamed : kindNamed bytes = false := by
    simp only [kindNamed, hbyte, Bool.and_eq_false_iff, decide_eq_false_iff_not]
    omega
  rw [exec, execDiscardedStationMessage]
  simp only [hgood, hnamed, hbyte, Bool.false_eq_true, if_false]
  rfl

/-! ### Messages and the commands they spell (R184) -/

section Spelling

variable {kind : Nat} {m : Message} {i : Instr}

/-- The report of a kind carries that kind, and spells its own row. -/
theorem messageOfKind_some (h : messageOfKind kind m = some i) :
    messageKind i = some (BitVec.ofNat 8 kind, m) ∧ i.wellFormed = messageOk (BitVec.ofNat 8 kind) m := by
  unfold messageOfKind at h
  split at h <;> simp only [Option.some.injEq, reduceCtorEq] at h
  all_goals subst h; exact ⟨rfl, rfl⟩

theorem messageOfKind_none (h : messageOfKind kind m = none) : kind = 0 ∨ 15 < kind := by
  by_contra hn
  have : kind ∈ List.range' 1 15 := List.mem_range'_1.2 (by omega)
  fin_cases this <;> exact nomatch h

/-- A well-formed report passes the checks and is the one its kind names. -/
theorem messageOfKind_of {k : Byte} (hm : messageKind i = some (k, m)) :
    messageOfKind k.toNat m = some i ∧ i.wellFormed = messageOk k m := by
  cases i <;> simp only [messageKind, Option.some.injEq, Prod.mk.injEq, reduceCtorEq] at hm
  all_goals obtain ⟨rfl, rfl⟩ := hm; exact ⟨rfl, rfl⟩

theorem bytesOf_message {k : Byte} (hm : messageKind i = some (k, m)) : bytesOf i = some (messageBytes k m) := by
  have hmap : bytesOf i = (messageKind i).map fun x => messageBytes x.1 x.2 := by
    cases i with
    | discardedStationMessage b => exact nomatch hm
    | _ => rfl
  rw [hmap, hm]
  rfl

end Spelling

section Bytes

variable (v : BitVec 32) (v3 v2 v1 v0 address kind sum : Byte)

theorem value_toNat : (v3 ++ v2 ++ v1 ++ v0 : BitVec 32).toNat
    = v3.toNat * 16777216 + v2.toNat * 65536 + v1.toNat * 256 + v0.toNat := by
  have h2 := v2.isLt
  have h1 := v1.isLt
  have h0 := v0.isLt
  rw [BitVec.toNat_append, BitVec.toNat_append, BitVec.toNat_append, ← Nat.shiftLeft_add_eq_or_of_lt h0,
    ← Nat.shiftLeft_add_eq_or_of_lt h1, ← Nat.shiftLeft_add_eq_or_of_lt h2, Nat.shiftLeft_eq, Nat.shiftLeft_eq,
    Nat.shiftLeft_eq]
  omega

/-- A value is that of its four bytes. -/
theorem value_of_bytes :
    v.extractLsb' 24 8 ++ v.extractLsb' 16 8 ++ v.extractLsb' 8 8 ++ v.extractLsb' 0 8 = v := by
  have := v.isLt
  refine BitVec.eq_of_toNat_eq ?_
  rw [value_toNat]
  simp only [BitVec.extractLsb'_toNat, Nat.shiftRight_eq_div_pow]
  omega

/-- The bytes of a message's value are the four it was made of. -/
theorem messageBytes_mk : messageBytes kind ⟨address, v3 ++ v2 ++ v1 ++ v0, sum⟩
    = [address, kind, v3, v2, v1, v0, sum] := by
  have := v3.isLt
  have := v2.isLt
  have := v1.isLt
  have := v0.isLt
  have hbyte (n : Nat) (b : Byte)
      (h : (v3.toNat * 16777216 + v2.toNat * 65536 + v1.toNat * 256 + v0.toNat) / 2 ^ n % 256 = b.toNat) :
      (v3 ++ v2 ++ v1 ++ v0 : BitVec 32).extractLsb' n 8 = b :=
    BitVec.eq_of_toNat_eq (by rw [BitVec.extractLsb'_toNat, value_toNat, Nat.shiftRight_eq_div_pow]; exact h)
  rw [messageBytes, hbyte 24 v3 (by omega), hbyte 16 v2 (by omega), hbyte 8 v1 (by omega), hbyte 0 v0 (by omega)]

end Bytes

section Commands

variable {bytes : List Byte}

theorem judgeMessage_eq_none (h : judgeMessage bytes = none) : bytes.length = 7 := by
  by_contra hl
  rw [judgeMessage_length hl] at h
  exact nomatch h

/-- What a run of bytes is that no row takes. -/
theorem commandOfMessage_discarded (h : spellsNoReport bytes = true)
    (hc : commandOfMessage bytes = .discardedStationMessage bytes) :
    (commandOfMessage bytes).wellFormed = true ∧ bytesOf (commandOfMessage bytes) = some bytes := by
  rw [hc]
  exact ⟨h, rfl⟩

/-- Bytes that fail a check are discarded. -/
theorem commandOfMessage_bad (h : (judgeMessage bytes).isNone = false) :
    commandOfMessage bytes = .discardedStationMessage bytes := by
  unfold commandOfMessage
  split
  · exact if_neg (by rw [h]; exact Bool.false_ne_true)
  · rfl

/-- Seven good bytes are the report of their kind, where it has one. -/
theorem commandOfMessage_good {address kind v3 v2 v1 v0 sum : Byte}
    (h : judgeMessage [address, kind, v3, v2, v1, v0, sum] = none) :
    commandOfMessage [address, kind, v3, v2, v1, v0, sum]
      = (messageOfKind kind.toNat ⟨address, v3 ++ v2 ++ v1 ++ v0, sum⟩).getD
          (.discardedStationMessage [address, kind, v3, v2, v1, v0, sum]) :=
  if_pos (by rw [h]; rfl)

theorem list_of_length_seven (h : bytes.length = 7) :
    ∃ address kind v3 v2 v1 v0 sum : Byte, bytes = [address, kind, v3, v2, v1, v0, sum] := by
  match bytes, h with
  | [a, k, v3, v2, v1, v0, x], _ => exact ⟨a, k, v3, v2, v1, v0, x, rfl⟩

end Commands

/-- Settles O5; a run of bytes by its checks and by whether its kind has a row. -/
theorem messagesSpellCommands : Obligations.MessagesSpellCommands := by
  refine ⟨fun i kind m hw hm => ?_, fun bytes => ?_⟩
  · obtain ⟨hkind, hwell⟩ := messageOfKind_of hm
    have hj : judgeMessage (messageBytes kind m) = none := Option.isNone_iff_eq_none.1 (hwell.symm.trans hw)
    rw [messageBytes] at hj ⊢
    rw [commandOfMessage_good hj, value_of_bytes]
    exact Option.getD_eq_iff.2 (.inl hkind)
  · cases hj : judgeMessage bytes with
    | some reason =>
      exact commandOfMessage_discarded (by simp [spellsNoReport, hj]) (commandOfMessage_bad (by rw [hj]; rfl))
    | none =>
      obtain ⟨a, kind, v3, v2, v1, v0, sum, rfl⟩ := list_of_length_seven (judgeMessage_eq_none hj)
      have hgood := commandOfMessage_good hj
      cases hi : messageOfKind kind.toNat ⟨a, v3 ++ v2 ++ v1 ++ v0, sum⟩ with
      | none =>
        have hkind := messageOfKind_none hi
        refine commandOfMessage_discarded ?_ (by rw [hgood, hi]; rfl)
        simp only [spellsNoReport, kindNamed, kindByte, hj]
        simp
        omega
      | some i =>
        obtain ⟨hm, hwell⟩ := messageOfKind_some hi
        rw [BitVec.ofNat_toNat, BitVec.setWidth_eq] at hm hwell
        rw [hgood, hi]
        have hbytes := messageBytes_mk v3 v2 v1 v0 a kind sum
        exact ⟨hwell.trans (by rw [messageOk, hbytes, hj]; rfl), (bytesOf_message hm).trans (congrArg some hbytes)⟩

end Sys2Proof.Machine
end

section
/-! PROOFS. The CRC of a run of words, and the frames a host makes (R178). -/

namespace Sys2Proof.Machine

-- One proof at a time: proofs elaborated at once add up past the memory of the check.
set_option Elab.async false

section Crc

variable {x y : Word} {a b : Bool} {bits : List Bool}

/-- A bit equal to the top of the register only shifts it. -/
theorem crcBit_same (h : x.getLsbD 15 = b) : crcBit x b = x <<< 1 := if_neg (by rw [h]; simp)

/-- A word shifted into a register that holds it leaves the rest of the register. -/
theorem foldl_crcBit_self (w : Word) {n : Nat} (hn : n ≤ 16) :
    ((List.range n).map fun i => w.getLsbD (15 - i)).foldl crcBit w = w <<< n := by
  induction n with
  | zero => exact (BitVec.shiftLeft_zero w).symm
  | succ n ih =>
    have htop : (w <<< n).getLsbD 15 = w.getLsbD (15 - n) := by
      have : ¬ 15 < n := by omega
      rw [BitVec.getLsbD_shiftLeft]
      simp only [this, decide_false, Bool.not_false]
      rfl
    rw [List.range_succ, List.map_append, List.foldl_append, ih (by omega), BitVec.shiftLeft_add]
    exact crcBit_same htop

theorem wordBits_foldl_self (w : Word) : (wordBits w).foldl crcBit w = 0 :=
  (foldl_crcBit_self w (Nat.le_refl 16)).trans (BitVec.shiftLeft_eq_zero (Nat.le_refl 16))

/-- The generator's lowest bit is set: a step's lowest bit says whether the generator was taken in. -/
theorem crcBit_lsb (x : Word) (b : Bool) : (crcBit x b).getLsbD 0 = (x.getLsbD 15 != b) := by
  unfold crcBit
  generalize (x.getLsbD 15 != b) = top
  cases top <;> simp

theorem crcBit_eq (x : Word) (b : Bool) :
    crcBit x b = (x <<< 1) ^^^ (if x.getLsbD 15 != b then 0x1021#16 else 0#16) := by
  unfold crcBit
  split <;> simp

theorem crcBit_bit_injective (x : Word) : Function.Injective (crcBit x) := by
  intro a b h
  have hlsb := congrArg (BitVec.getLsbD · 0) h
  simpa only [crcBit_lsb, Bool.bne_right_inj] using hlsb

theorem crcBit_injective (b : Bool) : Function.Injective (crcBit · b) := by
  intro x y h
  have hlsb := congrArg (BitVec.getLsbD · 0) h
  have htop : x.getLsbD 15 = y.getLsbD 15 := by simpa only [crcBit_lsb, Bool.bne_left_inj] using hlsb
  have hshift : x <<< 1 = y <<< 1 := by
    simp only [crcBit_eq, htop] at h
    exact BitVec.xor_left_inj _ |>.1 h
  refine BitVec.eq_of_getLsbD_eq fun i hi => ?_
  rcases Nat.lt_or_ge i 15 with hlow | hhigh
  · have hbit := congrArg (BitVec.getLsbD · (i + 1)) hshift
    simpa only [BitVec.getLsbD_shiftLeft, show i + 1 < 16 by omega, Nat.add_sub_cancel, decide_true, Bool.true_and,
      show ¬ i + 1 < 1 by omega, decide_false, Bool.not_false] using hbit
  · obtain rfl : i = 15 := by omega
    exact htop

theorem foldl_crcBit_injective (bits : List Bool) : Function.Injective (bits.foldl crcBit) := by
  induction bits with
  | nil => exact fun _ _ h => h
  | cons b bits ih => exact fun _ _ h => crcBit_injective b (ih h)

/-- Runs of bits that differ in one place leave registers that differ. -/
theorem foldl_crcBit_ne {l : List Nat} {f g : Nat → Bool} {k : Nat} (hk : k ∈ l) (hl : l.Nodup) (hne : f k ≠ g k)
    (hother : ∀ i ∈ l, i ≠ k → f i = g i) (x : Word) : (l.map f).foldl crcBit x ≠ (l.map g).foldl crcBit x := by
  obtain ⟨p, q, rfl⟩ := List.append_of_mem hk
  have hmap {r : List Nat} (hsub : r ⊆ p ++ k :: q) (hr : k ∉ r) : r.map f = r.map g :=
    List.map_congr_left fun i hi => hother i (hsub hi) (ne_of_mem_of_not_mem hi hr)
  have hp : k ∉ p := fun h => (List.nodup_append.1 hl).2.2 k h k List.mem_cons_self rfl
  have hq : k ∉ q := (List.nodup_cons.1 (List.nodup_append.1 hl).2.1).1
  rw [List.map_append, List.map_cons, List.map_append, List.map_cons, hmap (by simp) hp,
    hmap (by simp) hq, List.foldl_append, List.foldl_append]
  exact fun h => hne (crcBit_bit_injective _ (foldl_crcBit_injective _ h))

/-- A word with one bit changed leaves another register. -/
theorem wordBits_flip {k : Nat} (hk : k < 16) (w x : Word) :
    (wordBits w).foldl crcBit x ≠ (wordBits (w ^^^ (1#16 <<< k))).foldl crcBit x := by
  have hbit (i : Nat) : (w ^^^ (1#16 <<< k)).getLsbD (15 - i) = (w.getLsbD (15 - i) ^^ decide (15 - i = k)) := by
    rw [BitVec.getLsbD_xor, ← BitVec.twoPow_eq, BitVec.getLsbD_twoPow, decide_eq_true hk, Bool.true_and]
    exact congrArg _ (decide_eq_decide.2 eq_comm)
  refine foldl_crcBit_ne (k := 15 - k) (List.mem_range.2 (by omega)) List.nodup_range ?_ (fun i hi hne => ?_) x
  · rw [hbit, decide_eq_true (by omega)]
    simp
  · have := List.mem_range.1 hi
    rw [hbit, decide_eq_false (by omega), Bool.xor_false]

theorem crc_append (before after : List Word) (w : Word) : crc (before ++ w :: after)
    = (after.flatMap wordBits).foldl crcBit ((wordBits w).foldl crcBit (crc before)) := by
  rw [crc, crc, List.flatMap_append, List.flatMap_cons, List.foldl_append, List.foldl_append]

end Crc

/-- Settles O6; the register step by step. -/
theorem crcGuardsFrames : Obligations.CrcGuardsFrames := by
  refine ⟨fun ws => ?_, fun before after w k hk => ?_,
    fun code level ws hlen => ?_⟩
  · rw [crc_append, List.flatMap_nil, List.foldl_nil, wordBits_foldl_self]
  · rw [crc_append, crc_append]
    exact fun h => wordBits_flip hk w _ (foldl_crcBit_injective _ h)
  · intro h
    have hcount : headerCount h = ws.length := by
      rw [headerCount_header, BitVec.toNat_ofNat, Nat.mod_eq_of_lt hlen]
    have hlast : (ws ++ [crc (h :: ws)]).getLast? = some (crc (h :: (ws ++ [crc (h :: ws)]).dropLast)) := by
      rw [List.getLast?_concat, List.dropLast_concat]
    refine (if_neg ?_).trans ((if_neg ?_).trans ((if_neg (not_not_intro hlast)).trans ?_))
    · simp [hcount]
    · simp [hcount]
    · rw [List.dropLast_concat]

end Sys2Proof.Machine
end

section
/-! PROOFS. The records kept sound by every operation: generations, attention entries and entry 0 of the lithology
table. -/

namespace Sys2Proof.Machine

-- One proof at a time: proofs elaborated at once add up past the memory of the check.
set_option Elab.async false

/-- The slots' generations, the attention entries and entry 0 of the lithology table are sound (R29, R185, R139). -/
structure State.RecordsOk (s : State) : Prop where
  jobs : ∀ i : Fin 4, GenOk s.jobs[i].gen
  rods : ∀ i : Fin 128, GenOk s.roster.slots[i].gen
  additives : ∀ i : Fin 16, GenOk s.tanks.additives[i].gen
  attn : s.AttentionsOk
  lith : s.LithologyOk

theorem recordsOk_iff {s : State} : s.RecordsOk ↔ s.GenerationsOk ∧ s.AttentionsOk ∧ s.LithologyOk :=
  ⟨fun h => ⟨⟨h.jobs, h.rods, h.additives⟩, h.attn, h.lith⟩,
    fun ⟨⟨hjobs, hrods, hadditives⟩, hattn, hlith⟩ => ⟨hjobs, hrods, hadditives, hattn, hlith⟩⟩

theorem nextGen_ok (g : Nat) : GenOk (nextGen g) := by
  unfold nextGen
  split
  · exact ⟨Nat.le_refl 1, by omega⟩
  · exact ⟨by omega, by omega⟩

/-- The parts that hold the records. -/
abbrev recordParts : List Part := [.jobs, .roster, .tanks, .attn, .lith]

namespace State.RecordsOk

variable {s t : State} {i : Fin 4} {j : Job}

/-! ### The writes -/

theorem frame {ps : List Part} (h : s.RecordsOk) (hf : Frame ps s t) (hp : ∀ p ∈ recordParts, p ∉ ps := by simp) :
    t.RecordsOk := by
  have hjobs : t.jobs = s.jobs := hf.kept .jobs (hp _ (by simp))
  have hroster : t.roster = s.roster := hf.kept .roster (hp _ (by simp))
  have htanks : t.tanks = s.tanks := hf.kept .tanks (hp _ (by simp))
  have hattn : t.attn = s.attn := hf.kept .attn (hp _ (by simp))
  have hlith : t.lith = s.lith := hf.kept .lith (hp _ (by simp))
  refine ⟨fun i => ?_, fun i => ?_, fun i => ?_, fun k => ?_, ?_⟩
  · rw [hjobs]; exact h.jobs i
  · rw [hroster]; exact h.rods i
  · rw [htanks]; exact h.additives i
  · rw [hattn]; exact h.attn k
  · rw [State.LithologyOk, hlith]; exact h.lith

theorem raise (h : s.RecordsOk) (k : AttnKind) (d : Detail) : (s.raise k d).RecordsOk :=
  ⟨h.jobs, h.rods, h.additives, (State.raise_raises (List.mem_singleton_self k) d s).sound h.attn, h.lith⟩

theorem raise_if {c : Prop} [Decidable c] (h : s.RecordsOk) (k : AttnKind) (d : Detail) :
    (if c then s.raise k d else s).RecordsOk := by
  split
  · exact h.raise k d
  · exact h

theorem setJob (h : s.RecordsOk) (i : Fin 4) (j : Job) : (s.setJob i j).RecordsOk :=
  ⟨fun k => by rw [State.setJob_gen]; exact h.jobs k, h.rods, h.additives, h.attn, h.lith⟩

theorem modifyJob (h : s.RecordsOk) (i : Fin 4) (f : Job → Job) : (s.modifyJob i f).RecordsOk := by
  unfold State.modifyJob
  split
  · exact h
  · exact h.setJob ..

theorem freeJob (h : s.RecordsOk) (i : Fin 4) : (s.freeJob i).RecordsOk := by
  refine ⟨fun k => ?_, h.rods, h.additives, h.attn, h.lith⟩
  by_cases hik : i = k
  · subst hik
    simpa [State.freeJob] using nextGen_ok _
  · rw [State.freeJob_slot_other hik]
    exact h.jobs k

theorem slot (h : s.RecordsOk) (i : Fin 128) {x : RodSlot} (hx : GenOk x.gen) :
    ({ s with roster := { s.roster with slots := s.roster.slots.set i x } } : State).RecordsOk := by
  refine ⟨h.jobs, fun k => ?_, h.additives, h.attn, h.lith⟩
  simp only [Fin.getElem_fin, Vector.getElem_set]
  split
  · exact hx
  · exact h.rods k

theorem setRod (h : s.RecordsOk) (i : Fin 128) (r : Rod) : (s.setRod i r).RecordsOk := h.slot i (h.rods i)

theorem removeRod (h : s.RecordsOk) (i : Fin 128) : (s.removeRod i).RecordsOk := h.slot i (nextGen_ok _)

theorem modifyRod (h : s.RecordsOk) (i : Fin 128) (f : Rod → Rod) : (s.modifyRod i f).RecordsOk := by
  unfold State.modifyRod
  split
  · exact h
  · exact h.setRod ..

/-- The roster's records but its slots. -/
theorem roster (h : s.RecordsOk) {r : Roster} (hr : r.slots = s.roster.slots) : ({ s with roster := r } : State).RecordsOk :=
  ⟨h.jobs, fun i => by simp only [hr]; exact h.rods i, h.additives, h.attn, h.lith⟩

theorem setStringLen (h : s.RecordsOk) (n : Nat) : (s.setStringLen n).RecordsOk := h.roster rfl

theorem setTanks (h : s.RecordsOk) {u : TankUnit} (hu : u.additives = s.tanks.additives := by rfl) : (s.setTanks u).RecordsOk :=
  ⟨h.jobs, h.rods, fun i => by simp only [State.setTanks, hu]; exact h.additives i, h.attn, h.lith⟩

theorem setTank (h : s.RecordsOk) (k : TankId) (x : Tank) : (s.setTanks (s.tanks.setTank k x)).RecordsOk :=
  h.setTanks (by cases k <;> rfl)

theorem store (h : s.RecordsOk) (i : Fin 16) {x : AdditiveSlot} (hx : GenOk x.gen) :
    (s.setTanks { s.tanks with additives := s.tanks.additives.set i x }).RecordsOk := by
  refine ⟨h.jobs, h.rods, fun k => ?_, h.attn, h.lith⟩
  simp only [State.setTanks, Fin.getElem_fin, Vector.getElem_set]
  split
  · exact hx
  · exact h.additives k

theorem setAdditive (h : s.RecordsOk) (i : Fin 16) (x : Additive) : (s.setAdditive i x).RecordsOk :=
  h.store i (h.additives i)

theorem setMode (h : s.RecordsOk) (m : ModeCtl) : (s.setMode m).RecordsOk := h.frame (frame_mode s m)

theorem setPumps (h : s.RecordsOk) (c : PumpCtl) : (s.setPumps c).RecordsOk := h.frame (frame_pumps s c)

theorem setDepth (h : s.RecordsOk) (d : DepthTracker) : (s.setDepth d).RecordsOk := h.frame (frame_depth s d)

theorem setParcels (h : s.RecordsOk) (ps : List Parcel) : (s.setParcels ps).RecordsOk := h.frame (frame_transit s _)

theorem centre (h : s.RecordsOk) (hf : Frame centreParts s t) : t.RecordsOk := h.frame hf

theorem foldl {α : Type} {f : State → α → State} (hf : ∀ {u : State}, u.RecordsOk → ∀ x, (f u x).RecordsOk) (xs : List α)
    (h : s.RecordsOk) : (xs.foldl f s).RecordsOk := by
  induction xs generalizing s with
  | nil => exact h
  | cons x xs ih => exact ih (hf h x)

/-! ### Job Sheet and Strata Column -/

theorem addUnsettled (h : s.RecordsOk) (i : Fin 4) (line : Fin 40) (q : Int) : (s.addUnsettled i line q).RecordsOk := by
  unfold State.addUnsettled
  split
  · exact h
  · simp only
    split
    · exact h.setJob ..
    · exact (h.setJob ..).raise ..

theorem accrueFootage (h : s.RecordsOk) (i : Fin 4) (top bottom : Nat) (c : RockClass) :
    (s.accrueFootage i top bottom c).RecordsOk := by
  unfold State.accrueFootage
  split
  · exact h
  · exact h.foldl (fun h _ => h.addUnsettled ..) _

theorem moveFootage (h : s.RecordsOk) (i : Fin 4) (top bottom : Nat) (old new : RockClass) :
    (s.moveFootage i top bottom old new).RecordsOk := by
  unfold State.moveFootage
  split
  · exact h
  · exact h.foldl (fun h _ => (h.addUnsettled ..).addUnsettled ..) _

theorem rebandFootage (h : s.RecordsOk) (i : Fin 4) (j : Job) (b1 b2 : Nat) : (s.rebandFootage i j b1 b2).RecordsOk :=
  h.foldl (fun h _ => h.foldl (fun h _ => h.addUnsettled ..) _) _

theorem settleLine (h : s.RecordsOk) (i : Fin 4) (line : Fin 40) : (s.settleLine i line).RecordsOk := by
  unfold State.settleLine
  split
  · exact h
  · simp only
    split
    · exact h
    · exact (h.setJob ..).raise_if ..

theorem settle (h : s.RecordsOk) (i : Fin 4) : (s.settle i).RecordsOk :=
  (h.foldl (fun h _ => h.settleLine ..) _).modifyJob ..

theorem setColumn (h : s.RecordsOk) (i : Fin 4) (col : List Interval) : (s.setColumn i col).RecordsOk := h.modifyJob ..

theorem bindRange {c : RangeChange} {a b : Nat} (h : s.RecordsOk) (ht : s.bindRange i c a b = some t) : t.RecordsOk := by
  simp only [State.bindRange, Option.bind_eq_some_iff, Option.map_eq_some_iff] at ht
  obtain ⟨_, _, _, _, rfl⟩ := ht
  exact (h.setColumn ..).foldl (fun h _ => h.moveFootage ..) _

theorem extendColumn (h : s.RecordsOk) (i : Fin 4) (h1 : Nat) : (s.extendColumn i h1).RecordsOk := by
  have hcol : ∀ (col : List Interval) (b : Nat) (c : RockClass), ((s.setColumn i col).accrueFootage i b h1 c).RecordsOk :=
    fun col b c => (h.setColumn ..).accrueFootage ..
  unfold State.extendColumn
  split
  · exact h
  · split
    · exact h
    · simp only
      split
      · exact h
      · split
        · exact hcol ..
        · split
          · exact hcol ..
          · split
            · exact hcol ..
            · exact ((h.setColumn ..).raise ..).accrueFootage ..

theorem markRange (h : s.RecordsOk) (i : Fin 4) (status : CutStatus) (a b : Nat) : (s.markRange i status a b).RecordsOk := by
  have hext := h.extendColumn i b
  unfold State.markRange
  simp only
  split
  · exact hext
  · split
    · exact hext.setColumn ..
    · exact (hext.setColumn ..).raise ..

theorem sheetMinute (h : s.RecordsOk) : s.sheetMinute.RecordsOk := by
  have key : ∀ u : State, u.RecordsOk → ({ u with
      drilling := false, engine := { u.engine with tripping := u.engine.tripping && u.engine.op.isSome } } : State).RecordsOk :=
    fun u hu => ⟨hu.jobs, hu.rods, hu.additives, hu.attn, hu.lith⟩
  unfold State.sheetMinute
  apply key
  split
  · exact h
  · split
    · exact h
    · simp only
      split
      · exact (h.addUnsettled ..).modifyJob ..
      · exact h.addUnsettled ..

/-! ### Transit List -/

theorem mergeBirth (h : s.RecordsOk) (j : Job) (b o : Nat) : (s.mergeBirth j b o).RecordsOk := by
  unfold State.mergeBirth
  split
  · exact h
  · exact (h.setParcels _).raise ..

theorem birth (h : s.RecordsOk) (i : Fin 4) : (s.birth i).RecordsOk := by
  unfold State.birth
  split
  · have hnumbered := fun x : Transit => h.frame (frame_transit s x)
    simp only
    split
    · exact (hnumbered _).markRange ..
    · split
      · exact (hnumbered _).mergeBirth ..
      · exact (hnumbered _).setParcels _
  · exact h

theorem closeForming (h : s.RecordsOk) (i : Fin 4) : (s.closeForming i).RecordsOk := by
  unfold State.closeForming
  split
  · exact h.birth i
  · exact h

theorem growForming (h : s.RecordsOk) (i : Fin 4) : (s.growForming i).RecordsOk := by
  unfold State.growForming
  split
  · exact h.birth i
  · exact h

theorem dropOldest (h : s.RecordsOk) (i : Fin 4) : (s.dropOldest i).RecordsOk := by
  unfold State.dropOldest
  split
  · exact h
  · split
    · exact h
    · exact ((h.setParcels _).markRange ..).raise ..

theorem arrive (h : s.RecordsOk) (i : Fin 4) (p : Parcel) : (s.arrive i p).RecordsOk :=
  ((h.dropOldest i).setParcels _).raise ..

theorem arrivalTest (i : Fin 4) : ∀ (n : Nat) {s : State}, s.RecordsOk → (State.arrivalTest i n s).RecordsOk
  | 0, _, h => h
  | n + 1, s, h => by
    unfold State.arrivalTest
    split
    · exact h
    · split
      · exact arrivalTest i n (h.arrive ..)
      · exact h

theorem advanceParcels (h : s.RecordsOk) (vps : Nat) : (s.advanceParcels vps).RecordsOk := by
  unfold State.advanceParcels
  split
  · exact h
  · exact arrivalTest _ _ (h.setParcels _)

theorem recompute (h : s.RecordsOk) : s.recompute.RecordsOk := by
  unfold State.recompute
  split
  · exact h
  · split
    · exact h
    · exact arrivalTest _ _ (h.setParcels _)

theorem markParcels (h : s.RecordsOk) (i : Fin 4) (status : CutStatus) (ps : List Parcel) :
    (s.markParcels i status ps).RecordsOk := h.foldl (fun h _ => h.markRange ..) ps

theorem wipe (h : s.RecordsOk) : s.wipe.RecordsOk := by
  unfold State.wipe
  split
  · exact h
  · exact (h.setParcels _).markParcels ..

theorem giveUpParcels (h : s.RecordsOk) (i : Fin 4) : (s.giveUpParcels i).RecordsOk := by
  have hmarked := (h.setParcels []).markParcels i .notSampled s.transit.parcels
  have hformed : ∀ {u : State}, u.RecordsOk → ∀ x : Transit, ({ u with transit := x } : State).RecordsOk :=
    fun hu x => hu.frame (frame_transit _ x)
  unfold State.giveUpParcels
  refine hformed ?_ _
  split
  · split
    · exact hmarked.markRange ..
    · exact hmarked
  · exact hmarked

/-! ### Well centre -/

theorem endOp (h : s.RecordsOk) (o : Operation) (x : OpOutcome) (st : Option Station) (v : Nat) : (s.endOp o x st v).RecordsOk :=
  (h.frame (frame_engine s _)).raise ..

theorem abandon (h : s.RecordsOk) (o : Operation) (x : OpOutcome) (st : Option Station) (v : Nat) :
    (s.abandon o x st v).RecordsOk := (h.endOp o x st v).centre (State.withdraw_frame ..)

theorem stationRelease (h : s.RecordsOk) (st : Station) : (s.stationRelease st).RecordsOk := by
  have hended : ∀ {u : State}, u.RecordsOk → u.endHolding.RecordsOk := fun hu => hu.centre (State.endHolding_frame _)
  have hleft : ({ s with arbiter := s.arbiter.put st false } : State).RecordsOk := h.frame (frame_arbiter s _)
  unfold State.stationRelease
  split
  · exact h
  · split
    · split
      · split
        · exact hended (h.endOp ..)
        · exact hended h
      · exact hended h
    · split
      · simp only
        split
        · split
          · exact hleft.endOp ..
          · exact hleft
        · exact hleft
      · exact h

/-! ### Pump Controller -/

theorem startCirculation (h : s.RecordsOk) (e : BreachEvent) (p : Pump) : (s.startCirculation e p).RecordsOk :=
  (h.setPumps _).raise_if ..

theorem strokeCirculation (h : s.RecordsOk) (p : Pump) : (s.strokeCirculation p).RecordsOk := by
  unfold State.strokeCirculation
  split
  · exact (h.startCirculation ..).raise ..
  · exact h
  · exact h.setPumps _

theorem targetCirculation (h : s.RecordsOk) (p : Pump) (target : Nat) : (s.targetCirculation p target).RecordsOk := by
  unfold State.targetCirculation
  split
  · split
    · exact h.startCirculation ..
    · exact h
  · split
    · exact h.setPumps _
    · exact h
  · split
    · exact h.setPumps _
    · exact h

theorem stillExpiry (h : s.RecordsOk) : s.stillExpiry.RecordsOk := by
  unfold State.stillExpiry
  split
  · exact ((h.setPumps _).raise ..).centre (State.grantTest_frame _)
  · exact h.setPumps _

theorem pumpSecond (h : s.RecordsOk) : s.pumpSecond.RecordsOk := by
  have hticked := h.setPumps { s.pumps with p1 := s.pumps.p1.tick, p2 := s.pumps.p2.tick }
  unfold State.pumpSecond
  simp only
  split
  · exact hticked.setPumps _
  · unfold State.stillTick
    split
    · exact hticked
    · split
      · exact hticked.stillExpiry
      · exact hticked.setPumps _

/-! ### Tanks and balance -/

theorem changeLoss (h : s.RecordsOk) (c : LossClass) (y : Nat) : (s.changeLoss c y).RecordsOk := by
  have hraised := fun d => (h.setTanks (u := { s.tanks with lossClass := c })).raise .lossClass d
  have hwiped : ∀ {u : State}, u.RecordsOk → (if c = .total then u.wipe else u).RecordsOk := fun hu => by
    split
    · exact hu.wipe
    · exact hu
  unfold State.changeLoss
  split
  · exact h
  · simp only
    split
    · exact hwiped (hraised _)
    · unfold State.markBit
      split
      · exact hwiped (hraised _)
      · exact (hwiped (hraised _)).modifyJob ..

theorem classifyReading (h : s.RecordsOk) (loss : Int) : (s.classifyReading loss).RecordsOk := by
  unfold State.classifyReading
  split
  · exact h
  · exact h.changeLoss ..

theorem billLoss (h : s.RecordsOk) (loss : Int) : (s.billLoss loss).RecordsOk := by
  unfold State.billLoss
  split
  · exact h
  · simp only
    split
    · exact h.setTanks
    · exact (h.setTanks (u := { s.tanks with remainder := (s.tanks.remainder + loss.toNat) % 1000 })).addUnsettled ..

theorem reading (h : s.RecordsOk) (measured : Nat) : (s.reading measured).RecordsOk := by
  unfold State.reading
  split
  · exact h
  · exact (((h.setTanks (u := { s.tanks with fill := s.tanks.fill % 100 })).classifyReading _).billLoss _).setTanks

theorem balanceSecond (h : s.RecordsOk) : s.balanceSecond.RecordsOk := by
  have hcounted := h.setTanks (u := { s.tanks with elapsed := s.tanks.elapsed + 1 })
  unfold State.balanceSecond
  split
  · exact h
  · simp only
    split
    · exact hcounted.reading _
    · exact hcounted

theorem decideSuction (h : s.RecordsOk) : s.decideSuction.RecordsOk := by
  have hset := h.setTanks (u := { s.tanks with condition := s.tanks.activeTank.suction })
  unfold State.decideSuction
  simp only
  split
  · exact h
  · refine setPumps ?_ _
    split
    · exact hset
    · exact hset.raise ..
    · exact hset.raise ..

theorem takeFlow (h : s.RecordsOk) (v : Flow) : (s.takeFlow v).RecordsOk := by
  have hfiltered := h.setTanks (u := s.tanks.filter v)
  unfold State.takeFlow
  simp only
  split
  · split
    · exact hfiltered.changeLoss ..
    · exact hfiltered
  · split
    · exact hfiltered.changeLoss ..
    · exact hfiltered

theorem levelled (h : s.RecordsOk) (k : TankId) (reported : Int) : (s.levelled k reported).RecordsOk := by
  unfold State.levelled
  refine State.RecordsOk.setTank ?_ ..
  split
  · exact h
  · exact h.raise ..

/-! ### Rod Roster and Depth Tracker -/

theorem regrade (h : s.RecordsOk) (i : Fin 128) : (s.regrade i).RecordsOk := by
  unfold State.regrade
  split
  · exact h
  · exact (h.setRod ..).raise_if ..

theorem joinRod (h : s.RecordsOk) (i : Fin 128) : (s.joinRod i).RecordsOk := by
  unfold State.joinRod
  split
  · exact h
  · exact ((h.setRod ..).setStringLen _).regrade i

theorem unjoinRod (h : s.RecordsOk) (i : Fin 128) : (s.unjoinRod i).RecordsOk := by
  unfold State.unjoinRod
  split
  · exact h
  · exact (h.modifyRod ..).setStringLen _

theorem replaceType (h : s.RecordsOk) (k : Fin 4) (type : RodType) : (s.replaceType k type).RecordsOk := by
  have hgraded : ∀ {u : State}, u.RecordsOk → (u.regradeType k).RecordsOk := fun hu => by
    refine hu.foldl (fun {u} hu i => ?_) _
    split
    · exact hu.regrade i
    · exact hu
  exact (hgraded (h.roster (r := { s.roster with types := s.roster.types.set k type }) rfl)).frame
    (State.markGeometry_frame _ _)

theorem creditString (h : s.RecordsOk) (n : Nat) : (s.creditString n).RecordsOk :=
  h.foldl (fun h _ => (h.modifyRod ..).regrade _) _

theorem newHole (h : s.RecordsOk) (i : Fin 4) (j : Job) (h1 : Nat) : (s.newHole i j h1).RecordsOk := by
  have hgrown := ((((h.setJob i { j with holeDepth := h1, bitDepth := h1 }).creditString (h1 - j.holeDepth)).extendColumn i
    h1).growForming i)
  have hfilled : ∀ {u : State}, u.RecordsOk → (u.addFill j.sections j.holeDepth h1).RecordsOk := fun hu => by
    unfold State.addFill
    split
    · exact hu
    · exact hu.setTanks
  exact (hfilled hgrown).frame (frame_drilling _ _)

theorem tracked (h : s.RecordsOk) (reported : Int) : (s.tracked reported).RecordsOk := by
  unfold State.tracked
  refine setDepth ?_ _
  split
  · exact h
  · exact h.raise ..

theorem testCandidate (h : s.RecordsOk) (i : Fin 4) (j : Job) (d : Nat) : (s.testCandidate i j d).RecordsOk := by
  unfold State.testCandidate
  split
  · exact (h.setJob ..).setDepth _
  · split
    · exact (h.setDepth _).newHole ..
    · exact (h.setDepth _).raise ..

theorem takeHeight (h : s.RecordsOk) (reported : Int) : (s.takeHeight reported).RecordsOk := by
  obtain he | ⟨i, j, _, he⟩ := s.takeHeight_cases reported
  · rw [he]
    exact h.tracked _
  · rw [he]
    exact (h.tracked _).testCandidate ..

theorem takeFree (h : s.RecordsOk) : s.takeFree.RecordsOk := by
  have hfreed := (h.setDepth { s.depth with coupled := false, held := none }).centre (State.grantTest_frame _)
  unfold State.takeFree
  split
  · unfold State.headFreed
    simp only
    split
    · exact hfreed
    · exact hfreed.closeForming _
  · exact h

/-! ### Mode Controller -/

theorem enterOperate (h : s.RecordsOk) : s.enterOperate.RecordsOk := by
  unfold State.enterOperate
  simp only
  split
  · exact ((h.setMode _).setMode _).recompute
  · exact h.setMode _

theorem windowExpiry (h : s.RecordsOk) : s.windowExpiry.RecordsOk := by
  unfold State.windowExpiry
  split
  · exact h
  · exact (h.setMode _).raise ..

theorem windowMinute (h : s.RecordsOk) : s.windowMinute.RecordsOk := by
  unfold State.windowMinute
  split
  · exact h
  · split
    · exact h
    · split
      · exact h.windowExpiry
      · exact h.setMode _

end State.RecordsOk

/-- The suction test, the swap and the standby state are made of operations that keep the records. -/
theorem recordsOk_waterKept : WaterKept State.RecordsOk where
  reading _ _ h := h.reading _
  exchange _ h := h.setTanks
  reworked _ h := h.setTanks
  decide _ h := h.decideSuction
  raise _ k d h := h.raise k d
  remix _ _ h := h.setTanks
  count _ _ _ _ h := h.setTanks
  additions _ _ h := h.setTanks
  started _ _ _ h := h.setTanks

end Sys2Proof.Machine
end

section
/-! PROOFS. The records kept sound by every command: the first half of O27. -/

namespace Sys2Proof.Machine

-- One proof at a time: proofs elaborated at once add up past the memory of the check.
set_option Elab.async false

section Commands

variable {s t : State}

/-! ### Taking a command -/

theorem State.RecordsOk.heard (h : s.RecordsOk) (code : Byte) (r : Request) : (s.heard code r).RecordsOk :=
  h.frame (State.heard_frame code r s)

/-- A request whose block keeps the records. -/
theorem State.RecordsOk.of_request {code : Byte} {required : Nat} {cls : ReqClass} {body : Nat → List Word → State → Reply}
    {r : Request} (h : s.RecordsOk) (hx : takeRequest code required cls body r s = .next t)
    (hbody : ∀ l ws u, u.RecordsOk → Answers State.RecordsOk (body l ws u)) : t.RecordsOk := by
  have responded : ∀ {u : State}, u.RecordsOk → ∀ status payload, (u.respond status payload).RecordsOk :=
    fun hu _ _ => hu.frame (State.respond_frame ..)
  cases takeRequest_outcome (fun l ws => hbody l ws _ (h.heard code r)) hx with
  | linkError status _ ht =>
    rw [ht]
    exact (responded (h.frame (State.clockOut_frame _ s)) _ _).raise ..
  | refused status _ _ ht =>
    rw [ht]
    exact responded (h.heard code r) _ _
  | accepted status payload v _ hv ht =>
    rw [ht]
    exact responded (Settled.endWake (fun hv => hv.enterOperate) cls hv) _ _

/-- A block that leaves the state as it was keeps the records. -/
theorem Answers.recordsOk {x : Reply} (hx : Answers (· = s) x) (h : s.RecordsOk) : Answers State.RecordsOk x :=
  hx.mono fun _ hv => hv ▸ h

/-- A message whose receiver keeps the records. -/
theorem State.RecordsOk.of_deliver {kind : Byte} {receiver : Station → State → State} {m : Message} (h : s.RecordsOk)
    (hx : deliver kind receiver m s = .next t) (hr : ∀ st, (receiver st s).RecordsOk) : t.RecordsOk := by
  unfold deliver at hx
  split at hx
  next st _ _ =>
    obtain rfl := Host.Outcome.next.inj hx
    exact hr st
  all_goals
    obtain rfl := Host.Outcome.next.inj hx
    exact h.raise ..

theorem State.RecordsOk.of_atStep {step : OpStep} {want : Station} {kind : Nat} {k : Operation → State → State} {m : Message}
    {st : Station} (h : s.RecordsOk) (hk : ∀ o, (k o s).RecordsOk) : (atStep step want kind k m st s).RecordsOk := by
  unfold atStep
  split
  · exact h.raise ..
  next o _ =>
    split
    · exact hk o
    · exact h.raise ..

theorem expiryReceiver_recordsOk {f : State → State} (hf : f ∈ expiryReceivers) (h : s.RecordsOk) : (f s).RecordsOk := by
  simp only [expiryReceivers, List.mem_cons, List.not_mem_nil, or_false] at hf
  obtain rfl | rfl | rfl | rfl | rfl := hf
  · exact h.pumpSecond
  · exact h.balanceSecond
  · exact h.sheetMinute
  · exact recordsOk_waterKept.mixMinute h
  · exact h.windowMinute

/-! ### The resets -/

theorem AttnEntry.emptied_ok (e : AttnEntry) : ({ e with pending := false, count := 0, detail := none } : AttnEntry).Ok :=
  ⟨rfl, rfl⟩

theorem State.RecordsOk.comeUp (h : s.RecordsOk) : s.comeUp.RecordsOk := by
  refine ⟨h.jobs, fun i => ?_, h.additives, fun k => ?_, h.lith⟩
  · simp only [State.comeUp, Roster.doubtCentre, Fin.getElem_fin, Vector.getElem_ofFn]
    exact h.rods i
  · simp only [State.comeUp, Fin.getElem_fin, Vector.getElem_ofFn]
    exact AttnEntry.emptied_ok _

/-- An attention set of sound entries (R185). -/
structure AttnSound (attn : Vector AttnEntry 22) : Prop where
  entry : ∀ k : Fin 22, (attn[k]).Ok

section Kinds

variable {attn : Vector AttnEntry 22}

theorem AttnSound.cleared (h : AttnSound attn) (n : Nat) : AttnSound (clearKinds n attn) := by
  refine ⟨fun k => ?_⟩
  simp only [clearKinds, Fin.getElem_fin, Vector.getElem_ofFn]
  split
  · exact AttnEntry.emptied_ok _
  · exact h.entry k

theorem AttnSound.masked (h : AttnSound attn) (n : Nat) : AttnSound (maskKinds n attn) := by
  refine ⟨fun k => ?_⟩
  simp only [maskKinds, Fin.getElem_fin, Vector.getElem_ofFn]
  exact h.entry k

theorem AttnSound.attentionsOk (h : AttnSound attn) (hs : s.attn = attn) : s.AttentionsOk := by
  subst hs
  exact h.entry

theorem State.RecordsOk.attnSound (h : s.RecordsOk) : AttnSound s.attn := ⟨h.attn⟩

theorem State.RecordsOk.setAttn (h : s.RecordsOk) (ha : AttnSound attn) : ({ s with attn := attn } : State).RecordsOk :=
  ⟨h.jobs, h.rods, h.additives, ha.entry, h.lith⟩

end Kinds

theorem genOk_initialised {g : Nat} (h : GenOk g) (held : Bool) : GenOk (if held then nextGen g else g) := by
  cases held
  · exact h
  · exact nextGen_ok g

theorem lithInitial_first : lithInitial[0] = ⟨unknownName, .soft⟩ := by
  simp [lithInitial]

theorem State.RecordsOk.initialised (h : s.RecordsOk) : s.initialised.RecordsOk := by
  have hjobs := fun i => (State.initialised_jobSlot i s).trans (JobSlot.initialised_eq _)
  have hrods := fun i => (State.initialised_rodSlot i s).trans (RodSlot.initialised_eq _)
  have hadditives := fun i => (State.initialised_additiveSlot i s).trans (AdditiveSlot.initialised_eq _)
  have hattn : s.initialised.attn = maskKinds 0 s.attn := rfl
  have hlith : s.initialised.lith = lithInitial := rfl
  generalize s.initialised = t at hjobs hrods hadditives hattn hlith ⊢
  refine ⟨fun i => ?_, fun i => ?_, fun i => ?_, (h.attnSound.masked 0).attentionsOk hattn, ?_⟩
  · rw [hjobs]
    exact genOk_initialised (h.jobs i) _
  · rw [hrods]
    exact genOk_initialised (h.rods i) _
  · rw [hadditives]
    exact genOk_initialised (h.additives i) _
  · rw [State.LithologyOk, hlith]
    exact lithInitial_first

/-! ### The effects of the commands -/

theorem State.RecordsOk.suspendJob (h : s.RecordsOk) (i : Fin 4) : (s.suspendJob i).RecordsOk :=
  ((h.modifyJob ..).setDepth _).giveUpParcels i

theorem State.RecordsOk.closeJob (h : s.RecordsOk) (i : Fin 4) : (s.closeJob i).RecordsOk := (h.settle i).modifyJob ..

theorem State.RecordsOk.markGeometry (h : s.RecordsOk) (edited : Bool) : (s.markGeometry edited).RecordsOk :=
  h.frame (State.markGeometry_frame _ _)

theorem State.RecordsOk.loseString (h : s.RecordsOk) (a : Fin 4) (j : Job) : (s.loseString a j).RecordsOk := by
  have hrods : (s.stringRods.reverse.foldl State.loseRod s).RecordsOk :=
    h.foldl (fun {u} hu i => (hu.roster (r := { u.roster with lost := tallyUp u.roster.lost }) rfl).removeRod i) _
  have hbilled := hrods.foldl (f := fun u t => u.addUnsettled a (rodsLostLine t) 1) (fun hu _ => hu.addUnsettled ..)
    (s.stringRods.reverse.filterMap fun i => (s.rod? i).map Rod.type)
  have hbha : ∀ {u : State}, u.RecordsOk → (u.loseBha a j).RecordsOk := fun hu => by
    unfold State.loseBha
    split
    · exact ((hu.modifyJob ..).addUnsettled ..).markGeometry _
    · exact hu
  exact (((hbha hbilled).setStringLen 0).modifyJob ..).setDepth _

theorem State.RecordsOk.takeUp (h : s.RecordsOk) (o : Operation) : (s.takeUp o).RecordsOk := h.frame (frame_engine s _)

theorem State.RecordsOk.setStep (h : s.RecordsOk) (p : OpStep) (o : Operation) : (s.setStep p o).RecordsOk :=
  h.centre (State.setStep_frame ..)

theorem State.RecordsOk.engineRequest (h : s.RecordsOk) (st : Station) : (s.engineRequest st).RecordsOk :=
  h.centre (State.engineRequest_frame ..)

theorem State.RecordsOk.engineRelease (h : s.RecordsOk) (st : Station) : (s.engineRelease st).RecordsOk :=
  h.centre (State.engineRelease_frame ..)

theorem State.RecordsOk.drawAdditive (h : s.RecordsOk) (a : Fin 4) (i : Fin 16) (x : Additive) (units : Nat) (k : TankId) :
    (s.drawAdditive a i x units k).RecordsOk := by
  have hbilled : (s.drawBilled a i x units).RecordsOk := by
    refine State.RecordsOk.addUnsettled ?_ ..
    unfold State.drawDown
    split
    · exact h.setAdditive ..
    · exact (h.setAdditive ..).raise ..
  rw [State.drawAdditive_eq]
  split
  · exact recordsOk_waterKept.standbyAddition hbilled
  · exact hbilled

theorem State.RecordsOk.setLithology (h : s.RecordsOk) {k : Fin 64} (hk : k ≠ 0) (e : LithEntry) :
    ({ s with lith := s.lith.set k.val e } : State).RecordsOk := by
  refine ⟨h.jobs, h.rods, h.additives, h.attn, ?_⟩
  have hne : k.val ≠ 0 := fun he => hk (Fin.ext he)
  exact (Vector.getElem_set_ne k.isLt (by omega) hne).trans h.lith

theorem State.RecordsOk.wake (h : s.RecordsOk) (source : WakeSource) : (s.wake source).RecordsOk :=
  h.frame (State.wake_frame source s)

theorem State.RecordsOk.takeTag (h : s.RecordsOk) (v : BitVec 32) (o : Operation) : (takeTag v o s).RecordsOk := by
  have hmatched : ∀ o : Operation, (s.tagMatched o).RecordsOk := fun o => by
    unfold State.tagMatched
    split
    · refine (State.RecordsOk.setStep ?_ ..).engineRelease _
      split
      · exact h
      · exact h.modifyRod ..
      · exact h
    all_goals first | exact h.setStep .. | exact h
  have hdoubted : ∀ o : Operation, (s.doubtRod o).RecordsOk := fun o => by
    unfold State.doubtRod
    split
    · exact h
    · exact h.modifyRod ..
  unfold Machine.takeTag
  split_ifs
  · exact h.setStep ..
  · exact h.setStep ..
  · exact hmatched _
  · exact (((hdoubted _).raise ..).endOp ..).engineRelease _

theorem State.RecordsOk.moveBha (h : s.RecordsOk) (place : BhaPlace) (len : Nat → Nat → Nat) : (s.moveBha place len).RecordsOk := by
  unfold State.moveBha
  split
  · exact h
  · split
    · exact h
    · exact (h.setJob ..).setStringLen _

end Commands

end Sys2Proof.Machine
end

section
/-! PROOFS. The records through every command: the requests, the station reports, and the pulses, expiries and resets. -/

namespace Sys2Proof.Machine

-- One proof at a time: proofs elaborated at once add up past the memory of the check.
set_option Elab.async false

/-! ### What the blocks accept -/

section Requests

variable {s : State} {l : Nat} {ws : List Word}

theorem serveSetMode_recordsOk (h : s.RecordsOk) : Answers State.RecordsOk (serveSetMode l ws s) := by
  refine serveSetMode_answers.mono ?_
  rintro _ (rfl | rfl | ⟨m, _, rfl⟩)
  · exact h
  · exact h.enterOperate
  · exact h.setMode _

theorem serveSetWakeWindow_recordsOk (h : s.RecordsOk) : Answers State.RecordsOk (serveSetWakeWindow l ws s) := by
  refine serveSetWakeWindow_answers.mono ?_
  rintro _ ⟨_, _, _, rfl⟩
  exact h.setMode _

theorem serveSetClock_recordsOk (h : s.RecordsOk) : Answers State.RecordsOk (serveSetClock l ws s) := by
  refine serveSetClock_answers.mono ?_
  rintro _ ⟨_, _, rfl⟩
  exact h.setMode _

theorem serveInitialise_recordsOk (h : s.RecordsOk) : Answers State.RecordsOk (serveInitialise l ws s) := by
  refine serveInitialise_answers.mono ?_
  rintro _ ⟨_, rfl⟩
  exact h.initialised

theorem serveClearAttention_recordsOk (h : s.RecordsOk) : Answers State.RecordsOk (serveClearAttention l ws s) := by
  refine serveClearAttention_answers.mono ?_
  rintro _ ⟨n, rfl⟩
  exact h.setAttn (h.attnSound.cleared n)

theorem serveSetAttentionMask_recordsOk (h : s.RecordsOk) : Answers State.RecordsOk (serveSetAttentionMask l ws s) := by
  refine serveSetAttentionMask_answers.mono ?_
  rintro _ ⟨n, rfl⟩
  exact h.setAttn (h.attnSound.masked n)

theorem serveOpenJob_recordsOk (h : s.RecordsOk) : Answers State.RecordsOk (serveOpenJob l ws s) := by
  refine serveOpenJob_answers.mono ?_
  rintro _ ⟨i, _, _, _, _, _, _, _, _, _, _, _, _, rfl⟩
  exact h.setJob ..

theorem serveActivateJob_recordsOk (h : s.RecordsOk) : Answers State.RecordsOk (serveActivateJob l ws s) := by
  refine serveActivateJob_answers.mono ?_
  rintro _ ⟨i, j, _, _, _, rfl⟩
  exact ((h.setJob ..).frame (frame_transit _ _)).setDepth _

theorem serveSuspendJob_recordsOk (h : s.RecordsOk) : Answers State.RecordsOk (serveSuspendJob l ws s) := by
  refine serveSuspendJob_answers.mono ?_
  rintro _ ⟨i, j, _, rfl⟩
  exact h.suspendJob i

theorem serveCloseJob_recordsOk (h : s.RecordsOk) : Answers State.RecordsOk (serveCloseJob l ws s) := by
  refine serveCloseJob_answers.mono ?_
  rintro t ⟨i, j, ⟨_, ht⟩ | ⟨_, _, ht⟩⟩
  · rw [ht]
    exact (h.suspendJob i).closeJob i
  · rw [ht]
    exact h.closeJob i

theorem serveReleaseJob_recordsOk (h : s.RecordsOk) : Answers State.RecordsOk (serveReleaseJob l ws s) := by
  refine serveReleaseJob_answers.mono ?_
  rintro _ ⟨i, j, _, _, rfl⟩
  exact h.freeJob i

theorem serveSetBha_recordsOk (h : s.RecordsOk) : Answers State.RecordsOk (serveSetBha l ws s) := by
  refine serveSetBha_answers.mono ?_
  rintro _ ⟨_, _, _, _, _, _, _, _, rfl⟩
  exact (h.setJob ..).markGeometry _

theorem serveSetRate_recordsOk (h : s.RecordsOk) : Answers State.RecordsOk (serveSetRate l ws s) := by
  refine serveSetRate_answers.mono ?_
  rintro t ⟨i, j, _, _, ⟨_, ht⟩ | ⟨_, _, _, ht⟩⟩
  · rw [ht]
    exact h.setJob ..
  · rw [ht]
    exact (h.setJob ..).rebandFootage ..

theorem serveSetHoleSection_recordsOk (h : s.RecordsOk) : Answers State.RecordsOk (serveSetHoleSection l ws s) := by
  refine serveSetHoleSection_answers.mono ?_
  rintro _ ⟨_, _, _, _, _, rfl⟩
  exact (h.setJob ..).markGeometry _

theorem serveClearHoleSection_recordsOk (h : s.RecordsOk) : Answers State.RecordsOk (serveClearHoleSection l ws s) := by
  refine serveClearHoleSection_answers.mono ?_
  rintro _ ⟨_, _, _, _, _, rfl⟩
  exact (h.setJob ..).markGeometry _

theorem serveDown_recordsOk {value : Bool} (h : s.RecordsOk) : Answers State.RecordsOk (serveDown value l ws s) := by
  refine serveDown_answers.mono ?_
  rintro _ ⟨_, _, _, rfl⟩
  exact h.setJob ..

theorem serveSetRodType_recordsOk (h : s.RecordsOk) : Answers State.RecordsOk (serveSetRodType l ws s) := by
  refine serveSetRodType_answers.mono ?_
  rintro _ ⟨k, type, rfl⟩
  exact h.replaceType k type

theorem serveEnrolRod_recordsOk (h : s.RecordsOk) : Answers State.RecordsOk (serveEnrolRod l ws s) := by
  refine serveEnrolRod_answers.mono ?_
  rintro _ ⟨_, _, _, _, _, _, _, _, rfl⟩
  exact h.setRod ..

theorem serveAmendRod_recordsOk (h : s.RecordsOk) : Answers State.RecordsOk (serveAmendRod l ws s) := by
  refine serveAmendRod_answers.mono ?_
  rintro _ ⟨_, _, _, _, _, _, _, _, rfl⟩
  exact h.setRod ..

theorem serveMoveRod_recordsOk (h : s.RecordsOk) : Answers State.RecordsOk (serveMoveRod l ws s) := by
  refine serveMoveRod_answers.mono ?_
  rintro _ (rfl | ⟨_, _, _, _, _, _, _, rfl⟩)
  · exact h
  · exact h.modifyRod ..

theorem serveRetireRod_recordsOk (h : s.RecordsOk) : Answers State.RecordsOk (serveRetireRod l ws s) := by
  refine serveRetireRod_answers.mono ?_
  rintro _ ⟨_, _, worn, damaged, _, _, _, rfl⟩
  exact (h.roster (r := { s.roster with worn := worn, damaged := damaged }) rfl).removeRod _

theorem serveDeclareStringLost_recordsOk (h : s.RecordsOk) : Answers State.RecordsOk (serveDeclareStringLost l ws s) := by
  refine serveDeclareStringLost_answers.mono ?_
  rintro _ ⟨a, j, _, _, _, rfl⟩
  exact h.loseString a j

theorem serveMakeUp_recordsOk (h : s.RecordsOk) : Answers State.RecordsOk (serveMakeUp l ws s) := by
  refine serveMakeUp_answers.mono ?_
  rintro _ ⟨_, _, _, _, _, _, ⟨_, rfl⟩ | rfl⟩
  · exact h.takeUp _
  · exact (h.takeUp _).engineRequest _

theorem serveBreakOut_recordsOk (h : s.RecordsOk) : Answers State.RecordsOk (serveBreakOut l ws s) := by
  refine serveBreakOut_answers.mono ?_
  rintro _ ⟨_, _, _, _, _, _, _, _, _, _, _, _, rfl⟩
  exact (h.takeUp _).engineRequest _

theorem serveStow_recordsOk (h : s.RecordsOk) : Answers State.RecordsOk (serveStow l ws s) := by
  refine serveStow_answers.mono ?_
  rintro _ ⟨_, _, _, _, _, _, _, _, _, _, rfl⟩
  exact (h.takeUp _).engineRequest _

theorem serveRunBha_recordsOk (h : s.RecordsOk) : Answers State.RecordsOk (serveRunBha l ws s) := by
  refine serveRunBha_answers.mono ?_
  rintro _ ⟨_, _, _, _, _, rfl⟩
  exact (h.takeUp _).engineRequest _

theorem servePullBha_recordsOk (h : s.RecordsOk) : Answers State.RecordsOk (servePullBha l ws s) := by
  refine servePullBha_answers.mono ?_
  rintro _ ⟨_, _, _, _, _, _, rfl⟩
  exact (h.takeUp _).engineRequest _

theorem serveAbortOp_recordsOk (h : s.RecordsOk) : Answers State.RecordsOk (serveAbortOp l ws s) := by
  refine serveAbortOp_answers.mono ?_
  rintro _ ⟨o, _, rfl⟩
  exact h.abandon ..

theorem serveSetHeadConfig_recordsOk (h : s.RecordsOk) : Answers State.RecordsOk (serveSetHeadConfig l ws s) := by
  refine serveSetHeadConfig_answers.mono ?_
  rintro _ ⟨_, _, _, _, _, _, rfl⟩
  exact h.setDepth _

theorem serveSetPumpConfig_recordsOk (h : s.RecordsOk) : Answers State.RecordsOk (serveSetPumpConfig l ws s) := by
  refine serveSetPumpConfig_answers.mono ?_
  rintro _ ⟨_, _, _, _, _, _, _, rfl⟩
  exact h.setPumps _

theorem serveSetCircConfig_recordsOk (h : s.RecordsOk) : Answers State.RecordsOk (serveSetCircConfig l ws s) := by
  refine serveSetCircConfig_answers.mono ?_
  rintro _ ⟨_, _, rfl⟩
  exact h.setPumps _

theorem serveSetPumpRate_recordsOk (h : s.RecordsOk) : Answers State.RecordsOk (serveSetPumpRate l ws s) := by
  refine serveSetPumpRate_answers.mono ?_
  rintro _ (rfl | ⟨p, target, _, _, rfl⟩)
  · exact h
  · exact (h.setPumps _).targetCirculation p target

theorem serveStopCirculation_recordsOk (h : s.RecordsOk) : Answers State.RecordsOk (serveStopCirculation l ws s) := by
  refine serveStopCirculation_answers.mono ?_
  rintro _ (rfl | ⟨_, rfl⟩)
  · exact h
  · exact h.setPumps _

theorem serveClearCircTotal_recordsOk (h : s.RecordsOk) : Answers State.RecordsOk (serveClearCircTotal l ws s) := by
  refine serveClearCircTotal_answers.mono ?_
  rintro _ rfl
  exact h.setPumps _

theorem serveSetTankConfig_recordsOk (h : s.RecordsOk) : Answers State.RecordsOk (serveSetTankConfig l ws s) := by
  refine serveSetTankConfig_answers.mono ?_
  rintro _ ⟨k, _, _, _, _, _, _, _, rfl⟩
  exact recordsOk_waterKept.configured k (h.setTank k _) (h.setTank k _).setTanks

theorem serveSwapTanks_recordsOk (h : s.RecordsOk) : Answers State.RecordsOk (serveSwapTanks l ws s) := by
  refine serveSwapTanks_answers.mono ?_
  rintro _ ⟨_, rfl⟩
  exact recordsOk_waterKept.swap _ h

theorem serveAddWater_recordsOk (h : s.RecordsOk) : Answers State.RecordsOk (serveAddWater l ws s) := by
  refine serveAddWater_answers.mono ?_
  rintro _ ⟨k, litres, rfl⟩
  exact recordsOk_waterKept.addWater k litres h

theorem serveSetBalancePeriod_recordsOk (h : s.RecordsOk) : Answers State.RecordsOk (serveSetBalancePeriod l ws s) := by
  refine serveSetBalancePeriod_answers.mono ?_
  rintro _ ⟨_, _, _, _, rfl⟩
  exact h.setTanks

theorem serveSetLossThresholds_recordsOk (h : s.RecordsOk) : Answers State.RecordsOk (serveSetLossThresholds l ws s) := by
  refine serveSetLossThresholds_answers.mono ?_
  rintro _ ⟨_, _, _, rfl⟩
  exact h.setTanks

theorem serveAddAdditive_recordsOk (h : s.RecordsOk) : Answers State.RecordsOk (serveAddAdditive l ws s) := by
  refine serveAddAdditive_answers.mono ?_
  rintro _ ⟨_, _, _, rfl⟩
  exact h.setAdditive ..

theorem serveSetAdditivePrice_recordsOk (h : s.RecordsOk) : Answers State.RecordsOk (serveSetAdditivePrice l ws s) := by
  refine serveSetAdditivePrice_answers.mono ?_
  rintro _ ⟨_, _, _, _, rfl⟩
  exact h.setAdditive ..

theorem serveReceiveAdditive_recordsOk (h : s.RecordsOk) : Answers State.RecordsOk (serveReceiveAdditive l ws s) := by
  refine serveReceiveAdditive_answers.mono ?_
  rintro _ ⟨_, _, _, _, rfl⟩
  exact h.setAdditive ..

theorem serveStockCount_recordsOk (h : s.RecordsOk) : Answers State.RecordsOk (serveStockCount l ws s) := by
  refine serveStockCount_answers.mono ?_
  rintro _ ⟨_, _, _, _, rfl⟩
  exact h.setAdditive ..

theorem serveDrawAdditive_recordsOk (h : s.RecordsOk) : Answers State.RecordsOk (serveDrawAdditive l ws s) := by
  refine serveDrawAdditive_answers.mono ?_
  rintro _ ⟨_, _, _, _, _, _, _, rfl⟩
  exact h.drawAdditive ..

theorem serveRetireAdditive_recordsOk (h : s.RecordsOk) : Answers State.RecordsOk (serveRetireAdditive l ws s) := by
  refine serveRetireAdditive_answers.mono ?_
  rintro _ ⟨i, rfl⟩
  exact h.store i (nextGen_ok _)

theorem serveSetSurfaceLine_recordsOk (h : s.RecordsOk) : Answers State.RecordsOk (serveSetSurfaceLine l ws s) := by
  refine serveSetSurfaceLine_answers.mono ?_
  rintro _ ⟨_, rfl⟩
  exact h.frame (frame_transit _ _)

theorem serveSetParcelStep_recordsOk (h : s.RecordsOk) : Answers State.RecordsOk (serveSetParcelStep l ws s) := by
  refine serveSetParcelStep_answers.mono ?_
  rintro _ ⟨_, rfl⟩
  exact h.frame (frame_transit _ _)

theorem serveTakeSample_recordsOk (h : s.RecordsOk) : Answers State.RecordsOk (serveTakeSample l ws s) := by
  refine serveTakeSample_answers.mono ?_
  rintro _ ⟨_, _, _, _, _, _, _, hbind, rfl⟩
  exact (h.bindRange hbind).setParcels _

theorem serveRejectSample_recordsOk (h : s.RecordsOk) : Answers State.RecordsOk (serveRejectSample l ws s) := by
  refine serveRejectSample_answers.mono ?_
  rintro _ ⟨_, _, _, _, rfl⟩
  exact (h.setParcels _).markRange ..

theorem serveSetLithology_recordsOk (h : s.RecordsOk) : Answers State.RecordsOk (serveSetLithology l ws s) := by
  refine serveSetLithology_answers.mono ?_
  rintro _ ⟨k, entry, hk, rfl⟩
  exact h.setLithology hk entry

theorem serveFormationChange_recordsOk (h : s.RecordsOk) : Answers State.RecordsOk (serveFormationChange l ws s) := by
  refine serveFormationChange_answers.mono ?_
  rintro _ ⟨_, _, _, _, _, _, rfl⟩
  exact (h.setJob ..).closeForming _

theorem serveReviseInterval_recordsOk (h : s.RecordsOk) : Answers State.RecordsOk (serveReviseInterval l ws s) := by
  refine serveReviseInterval_answers.mono ?_
  rintro _ ⟨_, _, _, _, _, _, _, _, hbind⟩
  exact h.bindRange hbind

theorem serveNoteWater_recordsOk (h : s.RecordsOk) : Answers State.RecordsOk (serveNoteWater l ws s) := by
  refine serveNoteWater_answers.mono ?_
  rintro _ ⟨_, _, _, _, _, rfl⟩
  exact h.setColumn ..

theorem serveSettle_recordsOk (h : s.RecordsOk) : Answers State.RecordsOk (serveSettle l ws s) := by
  refine serveSettle_answers.mono ?_
  rintro t ⟨i, _, _, ht⟩
  rw [ht]
  exact h.settle i

end Requests

/-! ### The commands -/

section Commands

variable {s t : State}

theorem execNop_recordsOk {r : Request} (h : s.RecordsOk) (hx : execNop r s = .next t) : t.RecordsOk := by
  have hclocked := h.frame (State.clockOut_frame (frameBits (requestFrame 0 r)) s)
  simp only [execNop] at hx
  split at hx <;> obtain rfl := Host.Outcome.next.inj hx
  · exact (hclocked.frame (State.respond_frame ..)).raise ..
  · exact hclocked

/-- Every request keeps the records. -/
theorem request_recordsOk {c : Instr} {code : Byte} {r : Request} (h : s.RecordsOk) (hr : requestCode c = some (code, r))
    (hx : exec c s = .next t) : t.RecordsOk := by
  cases c
  case nop => exact execNop_recordsOk h hx
  case readMode => exact h.of_request hx fun _ _ _ hu => serveReadMode_answers.recordsOk hu
  case readJob => exact h.of_request hx fun _ _ _ hu => serveReadJob_answers.recordsOk hu
  case readRodType => exact h.of_request hx fun _ _ _ hu => serveReadRodType_answers.recordsOk hu
  case findRod => exact h.of_request hx fun _ _ _ hu => serveFindRod_answers.recordsOk hu
  case readRod => exact h.of_request hx fun _ _ _ hu => serveReadRod_answers.recordsOk hu
  case listString => exact h.of_request hx fun _ _ _ hu => serveListString_answers.recordsOk hu
  case readRoster => exact h.of_request hx fun _ _ _ hu => serveReadRoster_answers.recordsOk hu
  case readCentre => exact h.of_request hx fun _ _ _ hu => serveReadCentre_answers.recordsOk hu
  case readOperation => exact h.of_request hx fun _ _ _ hu => serveReadOperation_answers.recordsOk hu
  case readDepth => exact h.of_request hx fun _ _ _ hu => serveReadDepth_answers.recordsOk hu
  case readPumps => exact h.of_request hx fun _ _ _ hu => serveReadPumps_answers.recordsOk hu
  case readTanks => exact h.of_request hx fun _ _ _ hu => serveReadTanks_answers.recordsOk hu
  case readBalance => exact h.of_request hx fun _ _ _ hu => serveReadBalance_answers.recordsOk hu
  case readAdditive => exact h.of_request hx fun _ _ _ hu => serveReadAdditive_answers.recordsOk hu
  case readLag => exact h.of_request hx fun _ _ _ hu => serveReadLag_answers.recordsOk hu
  case readTransit => exact h.of_request hx fun _ _ _ hu => serveReadTransit_answers.recordsOk hu
  case readParcel => exact h.of_request hx fun _ _ _ hu => serveReadParcel_answers.recordsOk hu
  case readLithology => exact h.of_request hx fun _ _ _ hu => serveReadLithology_answers.recordsOk hu
  case readInterval => exact h.of_request hx fun _ _ _ hu => serveReadInterval_answers.recordsOk hu
  case readSheet => exact h.of_request hx fun _ _ _ hu => serveReadSheet_answers.recordsOk hu
  case readRates => exact h.of_request hx fun _ _ _ hu => serveReadRates_answers.recordsOk hu
  case readAttention => exact h.of_request hx fun _ _ _ hu => serveReadAttention_answers.recordsOk hu
  case setMode => exact h.of_request hx fun _ _ _ hu => serveSetMode_recordsOk hu
  case setWakeWindow => exact h.of_request hx fun _ _ _ hu => serveSetWakeWindow_recordsOk hu
  case setClock => exact h.of_request hx fun _ _ _ hu => serveSetClock_recordsOk hu
  case initialise => exact h.of_request hx fun _ _ _ hu => serveInitialise_recordsOk hu
  case clearAttention => exact h.of_request hx fun _ _ _ hu => serveClearAttention_recordsOk hu
  case setAttentionMask => exact h.of_request hx fun _ _ _ hu => serveSetAttentionMask_recordsOk hu
  case openJob => exact h.of_request hx fun _ _ _ hu => serveOpenJob_recordsOk hu
  case activateJob => exact h.of_request hx fun _ _ _ hu => serveActivateJob_recordsOk hu
  case suspendJob => exact h.of_request hx fun _ _ _ hu => serveSuspendJob_recordsOk hu
  case closeJob => exact h.of_request hx fun _ _ _ hu => serveCloseJob_recordsOk hu
  case releaseJob => exact h.of_request hx fun _ _ _ hu => serveReleaseJob_recordsOk hu
  case setBha => exact h.of_request hx fun _ _ _ hu => serveSetBha_recordsOk hu
  case setRate | setRateBands => exact h.of_request hx fun _ _ _ hu => serveSetRate_recordsOk hu
  case setHoleSection => exact h.of_request hx fun _ _ _ hu => serveSetHoleSection_recordsOk hu
  case clearHoleSection => exact h.of_request hx fun _ _ _ hu => serveClearHoleSection_recordsOk hu
  case declareDown | clearDown => exact h.of_request hx fun _ _ _ hu => serveDown_recordsOk hu
  case setRodType => exact h.of_request hx fun _ _ _ hu => serveSetRodType_recordsOk hu
  case enrolRod => exact h.of_request hx fun _ _ _ hu => serveEnrolRod_recordsOk hu
  case amendRod => exact h.of_request hx fun _ _ _ hu => serveAmendRod_recordsOk hu
  case moveRod => exact h.of_request hx fun _ _ _ hu => serveMoveRod_recordsOk hu
  case retireRod => exact h.of_request hx fun _ _ _ hu => serveRetireRod_recordsOk hu
  case declareStringLost => exact h.of_request hx fun _ _ _ hu => serveDeclareStringLost_recordsOk hu
  case makeUp => exact h.of_request hx fun _ _ _ hu => serveMakeUp_recordsOk hu
  case breakOut => exact h.of_request hx fun _ _ _ hu => serveBreakOut_recordsOk hu
  case stow => exact h.of_request hx fun _ _ _ hu => serveStow_recordsOk hu
  case runBha => exact h.of_request hx fun _ _ _ hu => serveRunBha_recordsOk hu
  case pullBha => exact h.of_request hx fun _ _ _ hu => servePullBha_recordsOk hu
  case abortOp => exact h.of_request hx fun _ _ _ hu => serveAbortOp_recordsOk hu
  case setHeadConfig => exact h.of_request hx fun _ _ _ hu => serveSetHeadConfig_recordsOk hu
  case setPumpConfig => exact h.of_request hx fun _ _ _ hu => serveSetPumpConfig_recordsOk hu
  case setCircConfig => exact h.of_request hx fun _ _ _ hu => serveSetCircConfig_recordsOk hu
  case setPumpRate => exact h.of_request hx fun _ _ _ hu => serveSetPumpRate_recordsOk hu
  case stopCirculation => exact h.of_request hx fun _ _ _ hu => serveStopCirculation_recordsOk hu
  case clearCircTotal => exact h.of_request hx fun _ _ _ hu => serveClearCircTotal_recordsOk hu
  case setTankConfig => exact h.of_request hx fun _ _ _ hu => serveSetTankConfig_recordsOk hu
  case swapTanks => exact h.of_request hx fun _ _ _ hu => serveSwapTanks_recordsOk hu
  case addWater => exact h.of_request hx fun _ _ _ hu => serveAddWater_recordsOk hu
  case setBalancePeriod => exact h.of_request hx fun _ _ _ hu => serveSetBalancePeriod_recordsOk hu
  case setLossThresholds => exact h.of_request hx fun _ _ _ hu => serveSetLossThresholds_recordsOk hu
  case addAdditive => exact h.of_request hx fun _ _ _ hu => serveAddAdditive_recordsOk hu
  case setAdditivePrice => exact h.of_request hx fun _ _ _ hu => serveSetAdditivePrice_recordsOk hu
  case receiveAdditive => exact h.of_request hx fun _ _ _ hu => serveReceiveAdditive_recordsOk hu
  case stockCount => exact h.of_request hx fun _ _ _ hu => serveStockCount_recordsOk hu
  case drawAdditive => exact h.of_request hx fun _ _ _ hu => serveDrawAdditive_recordsOk hu
  case retireAdditive => exact h.of_request hx fun _ _ _ hu => serveRetireAdditive_recordsOk hu
  case setSurfaceLine => exact h.of_request hx fun _ _ _ hu => serveSetSurfaceLine_recordsOk hu
  case setParcelStep => exact h.of_request hx fun _ _ _ hu => serveSetParcelStep_recordsOk hu
  case takeSample => exact h.of_request hx fun _ _ _ hu => serveTakeSample_recordsOk hu
  case rejectSample => exact h.of_request hx fun _ _ _ hu => serveRejectSample_recordsOk hu
  case setLithology => exact h.of_request hx fun _ _ _ hu => serveSetLithology_recordsOk hu
  case formationChange => exact h.of_request hx fun _ _ _ hu => serveFormationChange_recordsOk hu
  case reviseInterval => exact h.of_request hx fun _ _ _ hu => serveReviseInterval_recordsOk hu
  case noteWater => exact h.of_request hx fun _ _ _ hu => serveNoteWater_recordsOk hu
  case settle => exact h.of_request hx fun _ _ _ hu => serveSettle_recordsOk hu
  all_goals exact nomatch hr

/-- Every station report keeps the records. -/
theorem report_recordsOk {c : Instr} {kind : Byte} {m : Message} (h : s.RecordsOk) (hm : messageKind c = some (kind, m))
    (hx : exec c s = .next t) : t.RecordsOk := by
  cases c
  case request m =>
    refine h.of_deliver hx fun st => ?_
    unfold takeRequestReport
    split
    · exact h.raise ..
    · exact (h.centre (State.stationRequest_frame st s)).wake _
  case release m =>
    refine h.of_deliver hx fun st => ?_
    unfold takeReleaseReport
    split
    · exact h.raise ..
    · exact h.stationRelease st
  case presented m => exact h.of_deliver hx fun st => h.of_atStep fun o => h.setStep ..
  case tag m => exact h.of_deliver hx fun st => h.of_atStep fun o => h.takeTag m.value o
  case stowed m =>
    refine h.of_deliver hx fun st => h.of_atStep fun o => (State.RecordsOk.endOp ?_ ..).engineRelease _
    unfold State.rackOpRod
    split
    · exact h.modifyRod ..
    · exact h
  case torqueMade m =>
    refine h.of_deliver hx fun st => ?_
    unfold takeTorqueMade
    split
    · exact h.raise ..
    · split
      · refine State.RecordsOk.endOp ?_ ..
        unfold State.joinOpRod
        split
        · exact h
        · exact h.joinRod _
      · exact h.raise ..
  case jointBroken m =>
    refine h.of_deliver hx fun st => h.of_atStep fun o => ((State.RecordsOk.setStep ?_ ..).engineRequest _).engineRelease _
    unfold State.unjoinOpRod
    split
    · exact h
    · exact h.unjoinRod _
  case bhaSet m => exact h.of_deliver hx fun st => h.of_atStep fun o => ((h.moveBha ..).endOp ..).engineRelease _
  case bhaClear m => exact h.of_deliver hx fun st => h.of_atStep fun o => ((h.moveBha ..).endOp ..).engineRelease _
  case fault m =>
    refine h.of_deliver hx fun st => ?_
    unfold takeFault
    split
    · exact h.raise ..
    · split
      · exact h.abandon ..
      · exact h.raise ..
  case coupled m =>
    refine h.of_deliver hx fun st => ?_
    unfold takeCoupledReport
    split
    · exact h.setDepth _
    · exact h.raise ..
  case free m =>
    refine h.of_deliver hx fun st => ?_
    unfold takeFreeReport
    split
    · exact h.takeFree
    · exact h.raise ..
  case height m =>
    refine h.of_deliver hx fun st => ?_
    unfold takeHeightReport
    split
    · refine State.RecordsOk.takeHeight ?_ _
      unfold State.heightWakes
      split
      · exact h.wake _
      · exact h
    · exact h.raise ..
  case level m =>
    refine h.of_deliver hx fun st => ?_
    unfold takeLevelReport
    split
    next k _ =>
      split
      · have hlevelled := h.levelled k (levelValue m.value)
        exact recordsOk_waterKept.takeLevel _ _ hlevelled hlevelled.setTanks
      · exact h.raise ..
    · exact h.raise ..
  case flow m =>
    refine h.of_deliver hx fun st => ?_
    unfold takeFlowReport
    split
    · split
      · exact h.takeFlow _
      · exact h.raise ..
    · exact h.raise ..
  all_goals exact nomatch hm

theorem execSecondExpiry_recordsOk (h : s.RecordsOk) (hx : execSecondExpiry s = .next t) : t.RecordsOk := by
  obtain rfl := Host.Outcome.next.inj hx
  split
  · exact (h.setMode { s.mode with second := s.mode.second + 1 }).pumpSecond.balanceSecond
  · exact serve_keeps (fun f hf u hu => expiryReceiver_recordsOk hf hu) (fun _ => mem_of_mem_permuteBy) _
      ⟨h.jobs, h.rods, h.additives, h.attn, h.lith⟩

theorem execMinuteExpiry_recordsOk (h : s.RecordsOk) (hx : execMinuteExpiry s = .next t) : t.RecordsOk := by
  obtain rfl := Host.Outcome.next.inj hx
  exact serve_keeps (fun f hf u hu => expiryReceiver_recordsOk hf hu)
    (fun _ hf => minuteReceivers_subset (mem_of_mem_permuteBy hf)) _ ⟨h.jobs, h.rods, h.additives, h.attn, h.lith⟩

theorem execDiscardedFrame_recordsOk {f : RawFrame} (h : s.RecordsOk) (hx : execDiscardedFrame f s = .next t) : t.RecordsOk := by
  have herror : ∀ status, ((s.clockOut (frameBits f)).linkError status).RecordsOk := fun _ =>
    ((h.frame (State.clockOut_frame (frameBits f) s)).frame (State.respond_frame ..)).raise ..
  unfold execDiscardedFrame at hx
  split at hx
  · obtain rfl := Host.Outcome.next.inj hx
    exact h
  · split at hx <;> obtain rfl := Host.Outcome.next.inj hx
    · exact herror _
    · split
      · exact herror _
      · exact h

theorem execDiscardedStationMessage_recordsOk {b : List Byte} (h : s.RecordsOk)
    (hx : execDiscardedStationMessage b s = .next t) : t.RecordsOk := by
  unfold execDiscardedStationMessage at hx
  split at hx <;> obtain rfl := Host.Outcome.next.inj hx
  · exact h.raise ..
  · split
    · exact h
    · exact h.raise ..

/-- Every command keeps the records. -/
theorem exec_recordsOk {c : Instr} (h : s.RecordsOk) (hx : exec c s = .next t) : t.RecordsOk := by
  cases c
  case strokePulse p =>
    obtain rfl := Host.Outcome.next.inj hx
    exact (((h.setPumps _).advanceParcels _).wake _).strokeCirculation p
  case linkReset gathered =>
    obtain rfl := Host.Outcome.next.inj hx
    split
    · exact h.frame (frame_link _ _)
    · exact (h.frame (State.clockOut_frame _ s)).frame (frame_link _ _)
  case powerUp =>
    obtain rfl := Host.Outcome.next.inj hx
    exact h.comeUp.raise ..
  case secondExpiry => exact execSecondExpiry_recordsOk h hx
  case minuteExpiry => exact execMinuteExpiry_recordsOk h hx
  case rampExpiry p => exact h.frame (exec_frame_of_no_request (c := .rampExpiry p) hx (fun _ _ => nofun)) (by simp [touched])
  case stillExpiry =>
    obtain rfl := Host.Outcome.next.inj hx
    split
    · exact h
    · exact h.stillExpiry
  case balanceExpiry =>
    obtain he | he : t = s ∨ t = (s.setTanks s.tanks.elapse).reading s.tanks.activeTank.volume := execBalanceExpiry_cases hx
    · rwa [he]
    · rw [he]
      exact h.setTanks.reading _
  case mixHoldExpiry => exact recordsOk_waterKept.execMixHoldExpiry hx h
  case wakeWindowExpiry =>
    obtain rfl := Host.Outcome.next.inj hx
    exact h.windowExpiry
  case discardedFrame f => exact execDiscardedFrame_recordsOk h hx
  case discardedStationMessage b => exact execDiscardedStationMessage_recordsOk h hx
  case request | release | presented | tag | stowed | torqueMade | jointBroken | bhaSet | bhaClear | fault | coupled
      | free | height | level | flow => exact report_recordsOk h rfl hx
  all_goals exact request_recordsOk h rfl hx

end Commands

end Sys2Proof.Machine
end

section
/-! PROOFS. The tags of the live rods and the carousel's slots through every command; then O27. -/

namespace Sys2Proof.Machine

-- One proof at a time: proofs elaborated at once add up past the memory of the check.
set_option Elab.async false

/-- The live rods' tags are distinct, a carousel slot holds one rod at most, and a reserved one none (R36, R37, R39). -/
structure State.Labelled (s : State) : Prop where
  tags : s.TagsOk
  racks : s.RacksOk

/-- Every rod of `t` is one of `s`: it bears its tag, and in a carousel slot it stood before. -/
structure State.Thinned (s t : State) : Prop where
  rod : ∀ i x, t.rod? i = some x →
    ∃ y, s.rod? i = some y ∧ x.tag = y.tag ∧ ∀ slot, x.place = .carousel slot → y.place = .carousel slot

section Labels

variable {s t u : State} {i : Fin 128} {x y : Rod} {o : Operation}

/-! ### Rods kept, moved out of the carousel or removed -/

theorem State.Thinned.refl (s : State) : s.Thinned s := ⟨fun _ x hx => ⟨x, hx, rfl, fun _ h => h⟩⟩

theorem State.Thinned.trans (h : s.Thinned t) (g : t.Thinned u) : s.Thinned u := by
  refine ⟨fun i z hz => ?_⟩
  obtain ⟨y, hy, htag, hplace⟩ := g.rod i z hz
  obtain ⟨x, hx, htag', hplace'⟩ := h.rod i y hy
  exact ⟨x, hx, htag.trans htag', fun slot hslot => hplace' slot (hplace slot hslot)⟩

theorem State.Thinned.of_rods (h : ∀ i, t.rod? i = s.rod? i) : s.Thinned t :=
  ⟨fun i x hx => (State.Thinned.refl s).rod i x ((h i).symm.trans hx)⟩

theorem Frame.thinned {ps : List Part} (hf : Frame ps s t) (hp : .roster ∉ ps := by simp) : s.Thinned t :=
  .of_rods (hf.rod?_eq hp)

theorem State.Thinned.foldl {α : Type} {f : State → α → State} (hf : ∀ s x, State.Thinned s (f s x)) (xs : List α) (s : State) :
    s.Thinned (xs.foldl f s) := by
  induction xs generalizing s with
  | nil => exact .refl s
  | cons x xs ih => exact (hf s x).trans (ih _)

theorem State.Slotted.thinned (h : s.Slotted i (some y) t) (hx : s.rod? i = some x) (htag : y.tag = x.tag)
    (hplace : ∀ slot, y.place = .carousel slot → x.place = .carousel slot) : s.Thinned t := by
  refine ⟨fun k z hz => ?_⟩
  by_cases hk : k = i
  · subst hk
    obtain rfl := Option.some.inj (h.1.symm.trans hz)
    exact ⟨x, hx, htag, hplace⟩
  · exact (State.Thinned.refl s).rod k z ((h.2 k hk).symm.trans hz)

theorem State.Slotted.thinned_none (h : s.Slotted i none t) : s.Thinned t := by
  refine ⟨fun k z hz => ?_⟩
  by_cases hk : k = i
  · subst hk
    exact absurd (h.1.symm.trans hz) nofun
  · exact (State.Thinned.refl s).rod k z ((h.2 k hk).symm.trans hz)

theorem State.modifyRod_thinned {f : Rod → Rod} (hf : ∀ x, (f x).tag = x.tag)
    (hp : ∀ x slot, (f x).place = .carousel slot → x.place = .carousel slot) (i : Fin 128) (s : State) :
    s.Thinned (s.modifyRod i f) := by
  cases hx : s.rod? i with
  | none =>
    rw [State.modifyRod_none hx]
    exact .refl s
  | some x => exact (State.modifyRod_slotted hx).thinned hx (hf x) (hp x)

theorem State.regrade_thinned (i : Fin 128) (s : State) : s.Thinned (s.regrade i) := by
  cases hx : s.rod? i with
  | none =>
    rw [State.regrade_none hx]
    exact .refl s
  | some x => exact (State.regrade_slotted hx).thinned hx rfl fun _ h => h

theorem State.setStringLen_thinned (n : Nat) (s : State) : s.Thinned (s.setStringLen n) := .of_rods fun _ => rfl

theorem State.joinRod_thinned (i : Fin 128) (s : State) : s.Thinned (s.joinRod i) := by
  unfold State.joinRod
  split
  · exact .refl s
  next x hx =>
    refine State.Thinned.trans (State.Thinned.trans ?_ (State.setStringLen_thinned _ _)) (State.regrade_thinned ..)
    exact (State.setRod_slotted i _ s).thinned hx rfl fun slot h => RodPlace.noConfusion h

theorem State.placeCentre_thinned (i : Fin 128) (s : State) : s.Thinned (s.placeRod i .centre) :=
  State.modifyRod_thinned (f := fun r => { r with place := .centre }) (fun _ => rfl) (fun _ _ h => RodPlace.noConfusion h) i s

theorem State.unjoinRod_thinned (i : Fin 128) (s : State) : s.Thinned (s.unjoinRod i) := by
  unfold State.unjoinRod
  split
  · exact .refl s
  · refine State.Thinned.trans ?_ (State.setStringLen_thinned _ _)
    exact State.placeCentre_thinned i s

theorem State.replaceType_thinned (k : Fin 4) (type : RodType) (s : State) : s.Thinned (s.replaceType k type) := by
  have hgraded : ∀ u : State, u.Thinned (u.regradeType k) := fun u => by
    unfold State.regradeType
    generalize List.finRange 128 = slots
    refine State.Thinned.foldl (f := fun s i => if (s.rod? i).any (fun r => r.type == k) then s.regrade i else s) (fun s i => ?_)
      slots u
    split
    · exact State.regrade_thinned i s
    · exact .refl s
  have hset : s.Thinned { s with roster := { s.roster with types := s.roster.types.set k type } } := .of_rods fun _ => rfl
  exact (hset.trans (hgraded _)).trans (State.markGeometry_frame _ _).thinned

theorem State.loseString_thinned (a : Fin 4) (j : Job) (s : State) : s.Thinned (s.loseString a j) := by
  have hrods : s.Thinned (s.rodsLost a) := by
    refine ⟨fun k x hx => ?_⟩
    rw [State.rodsLost_rod?] at hx
    split at hx
    · exact nomatch hx
    · exact (State.Thinned.refl s).rod k x hx
  have hend : ∀ u : State, u.Thinned (((u.setStringLen 0).modifyJob a fun j => { j with bitDepth := 0 }).dropHeld) := fun u =>
    ((State.setStringLen_thinned 0 u).trans (State.modifyJob_frame ..).thinned).trans (State.dropHeld_frame _).thinned
  rw [State.loseString_eq]
  exact (hrods.trans (State.loseBha_frame a j _).thinned).trans (hend _)

/-- A rod at CENTRE that becomes unverified stays where it is (R48). -/
theorem State.comeUp_thinned (s : State) : s.Thinned s.comeUp := by
  refine ⟨fun i x hx => ?_⟩
  rw [State.rod?, show s.comeUp.roster = s.roster.doubtCentre from rfl] at hx
  simp only [Roster.doubtCentre, Fin.getElem_fin, Vector.getElem_ofFn, RodSlot.doubtCentre, Option.map_eq_some_iff] at hx
  obtain ⟨y, hy, rfl⟩ := hx
  refine ⟨y, hy, ?_⟩
  split
  · exact ⟨rfl, fun _ h => h⟩
  · exact ⟨rfl, fun _ h => h⟩

theorem State.creditString_thinned (n : Nat) (s : State) : s.Thinned (s.creditString n) :=
  State.Thinned.foldl (f := State.creditRod n) (fun s i => State.Thinned.trans
    (State.modifyRod_thinned (f := fun r => { r with drilled := satAdd32 r.drilled n }) (fun _ => rfl) (fun _ _ h => h) i s)
    (State.regrade_thinned i _)) s.stringRods s

theorem State.newHole_thinned (i : Fin 4) (j : Job) (h1 : Nat) (s : State) : s.Thinned (s.newHole i j h1) := by
  have hcredited : s.Thinned ((s.setJob i { j with holeDepth := h1, bitDepth := h1 }).creditString (h1 - j.holeDepth)) :=
    (State.setJob_frame ..).thinned.trans (State.creditString_thinned ..)
  have hdrilled : s.Thinned (s.drilled i j h1) := (hcredited.trans (State.extendColumn_frame ..).thinned).trans
    ((State.growForming_frame ..).thinned (by simp [transitParts]))
  rw [State.newHole_eq]
  exact (hdrilled.trans (State.addFill_frame ..).thinned).trans (frame_drilling _ true).thinned

theorem State.takeHeight_thinned (reported : Int) (s : State) : s.Thinned (s.takeHeight reported) := by
  have htracked : s.Thinned (s.tracked reported) := (s.tracked_frame reported).thinned
  obtain he | ⟨i, j, _, he⟩ := s.takeHeight_cases reported
  · rwa [he]
  · rw [he]
    refine htracked.trans ?_
    unfold State.testCandidate
    split
    · exact (State.setJob_frame ..).thinned.trans (State.dropHeld_frame _).thinned
    · split
      · exact (State.dropHeld_frame _).thinned.trans (State.newHole_thinned ..)
      · exact (frame_depth _ _).thinned.trans (State.raise_frame ..).thinned

theorem State.doubtRod_thinned (o : Operation) (s : State) : s.Thinned (s.doubtRod o) := by
  unfold State.doubtRod
  split
  · exact .refl s
  · exact State.modifyRod_thinned (f := fun r => { r with unverified := true }) (fun _ => rfl) (fun _ _ h => h) _ s

theorem State.tagMatched_thinned (o : Operation) (s : State) : s.Thinned (s.tagMatched o) := by
  unfold State.tagMatched
  split
  · refine State.Thinned.trans ?_ ((State.setStep_frame ..).thinned.trans (State.engineRelease_frame ..).thinned)
    split
    · exact .refl s
    · exact State.placeCentre_thinned _ s
    · exact .refl s
  · exact (State.setStep_frame ..).thinned
  · exact (State.setStep_frame ..).thinned
  · exact .refl s
  · exact .refl s

theorem State.takeTag_thinned (v : BitVec 32) (o : Operation) (s : State) : s.Thinned (takeTag v o s) := by
  unfold takeTag
  split_ifs
  · exact (State.setStep_frame ..).thinned
  · exact (State.setStep_frame ..).thinned
  · exact State.tagMatched_thinned _ s
  · exact (State.doubtRod_thinned _ s).trans (((State.raise_frame ..).thinned.trans (State.endOp_frame ..).thinned).trans
      (State.engineRelease_frame ..).thinned)

theorem State.takeJointBroken_thinned (o : Operation) (s : State) : s.Thinned (takeJointBroken o s) := by
  refine State.Thinned.trans (State.Thinned.trans (State.Thinned.trans ?_ (State.setStep_frame ..).thinned)
    (State.engineRequest_frame ..).thinned) (State.engineRelease_frame ..).thinned
  unfold State.unjoinOpRod
  split
  · exact .refl s
  · exact State.unjoinRod_thinned _ s

theorem State.moveBha_thinned (place : BhaPlace) (len : Nat → Nat → Nat) (s : State) : s.Thinned (s.moveBha place len) := by
  unfold State.moveBha
  split
  · exact .refl s
  · split
    · exact .refl s
    · exact (State.setJob_frame ..).thinned.trans (State.setStringLen_thinned _ _)

/-- The commands that may set a tag or put a rod into the carousel. -/
def placesRods : Instr → Bool
  | .enrolRod _ | .amendRod _ | .moveRod _ | .stowed _ => true
  | _ => false

theorem settled_thinned (s : State) : Settled [.roster] (fun t => s.Thinned t) where
  depends := fun u v hag h => by
    have hr : v.roster = u.roster := hag .roster (by simp)
    exact h.trans (.of_rods fun i => by rw [State.rod?, State.rod?, hr])
  aside := by simp

theorem enterOperate_thinned (s : State) : s.Thinned s.enterOperate := (State.enterOperate_frame s).thinned (by simp [operateParts])

theorem request_thinned {code : Byte} {required : Nat} {cls : ReqClass} {body : Nat → List Word → State → Reply} {r : Request}
    (hx : takeRequest code required cls body r s = .next t)
    (hbody : ∀ l ws u, s.Thinned u → Answers (fun v => s.Thinned v) (body l ws u)) : s.Thinned t :=
  (settled_thinned s).of_request (fun u hu => hu.trans (enterOperate_thinned u)) hbody hx (.refl s)

/-- Every other command sets no tag and puts no rod into the carousel. -/
theorem exec_thinned {c : Instr} (hc : placesRods c = false) (hx : exec c s = .next t) : s.Thinned t := by
  have hset := settled_thinned s
  cases c
  case enrolRod | amendRod | moveRod | stowed => cases hc
  case initialise r =>
    refine request_thinned hx fun l ws u hu => serveInitialise_answers.mono ?_
    rintro v ⟨_, rfl⟩
    refine hu.trans ⟨fun i x hx => ?_⟩
    rw [State.initialised_rod?] at hx
    exact nomatch hx
  case setRodType r =>
    refine request_thinned hx fun l ws u hu => serveSetRodType_answers.mono ?_
    rintro v ⟨k, type, rfl⟩
    exact hu.trans (State.replaceType_thinned k type u)
  case retireRod r =>
    refine request_thinned hx fun l ws u hu => serveRetireRod_answers.mono ?_
    rintro v ⟨i, _, worn, damaged, _, _, _, rfl⟩
    refine hu.trans (State.Thinned.trans ?_ (State.removeRod_slotted i _).thinned_none)
    exact .of_rods fun _ => rfl
  case declareStringLost r =>
    refine request_thinned hx fun l ws u hu => serveDeclareStringLost_answers.mono ?_
    rintro v ⟨a, j, _, _, _, rfl⟩
    exact hu.trans (State.loseString_thinned a j u)
  case tag m => exact hset.of_deliver (fun st _ => hset.of_atStep (fun o _ _ => State.takeTag_thinned _ o s) (.refl s)) hx (.refl s)
  case torqueMade m =>
    refine hset.of_deliver (fun st _ => ?_) hx (.refl s)
    unfold takeTorqueMade
    split
    · exact hset.notFitting m 6 (.refl s)
    · split
      · refine State.Thinned.trans ?_ (State.endOp_frame ..).thinned
        unfold State.joinOpRod
        split
        · exact .refl s
        · exact State.joinRod_thinned _ s
      · exact hset.notFitting m 6 (.refl s)
  case jointBroken m =>
    exact hset.of_deliver (fun st _ => hset.of_atStep (fun o _ _ => State.takeJointBroken_thinned o s) (.refl s)) hx (.refl s)
  case bhaSet m =>
    refine hset.of_deliver (fun st _ => hset.of_atStep (fun o _ _ => ?_) (.refl s)) hx (.refl s)
    exact (State.moveBha_thinned _ _ s).trans ((State.endOp_frame ..).thinned.trans (State.engineRelease_frame ..).thinned)
  case bhaClear m =>
    refine hset.of_deliver (fun st _ => hset.of_atStep (fun o _ _ => ?_) (.refl s)) hx (.refl s)
    exact (State.moveBha_thinned _ _ s).trans ((State.endOp_frame ..).thinned.trans (State.engineRelease_frame ..).thinned)
  case height m =>
    refine hset.of_deliver (fun st _ => ?_) hx (.refl s)
    unfold takeHeightReport
    split
    · exact (State.heightWakes_frame _ s).thinned.trans (State.takeHeight_thinned ..)
    · exact (State.raise_frame ..).thinned
  case powerUp =>
    obtain rfl := Host.Outcome.next.inj hx
    exact (State.comeUp_thinned s).trans (State.raise_frame ..).thinned
  all_goals
    exact hset.of_untouched (fun u hu => hu.trans (enterOperate_thinned u)) (by simp [touched, reportParts, requestParts]) hx (.refl s)

end Labels

end Sys2Proof.Machine
end

section
/-! PROOFS. Rods set down and carousel slots reserved; then O27. -/

namespace Sys2Proof.Machine

-- One proof at a time: proofs elaborated at once add up past the memory of the check.
set_option Elab.async false

/-- What is reserved in `t` is reserved in `s`. -/
def State.Reserves (s t : State) : Prop := ∀ place, t.reserved = some place → s.reserved = some place

section Reservation

variable {s t u : State} {i : Fin 128} {x y : Rod} {o : Operation} {place : RackPlace} {slot : Fin 40}

theorem State.Reserves.trans (h : s.Reserves t) (g : t.Reserves u) : s.Reserves u := fun p hp => h p (g p hp)

theorem State.Eased.reserves (h : s.Eased t) : s.Reserves t := fun p hp => by
  obtain ⟨o', ho', hdest⟩ := Option.bind_eq_some_iff.1 hp
  obtain ⟨o, ho, he⟩ := h o' ho'
  exact Option.bind_eq_some_iff.2 ⟨o, ho, he.dest.symm.trans hdest⟩

theorem Frame.reserves {ps : List Part} (hf : Frame ps s t) (hp : .engine ∉ ps := by simp) : s.Reserves t := (hf.eased hp).reserves

/-- An operation put in flight reserves its own destination. -/
theorem State.reserved_of_op (ho : t.engine.op = some o) : t.reserved = o.dest := by
  rw [State.reserved, ho]
  rfl

/-- An operation that stays in flight with its destination. -/
theorem State.reserves_setStep (p : OpStep) (o' : Operation) (ho : s.engine.op = some o) (hd : o'.dest = o.dest) :
    s.Reserves (s.setStep p o') := fun q hq => by
  rw [State.reserved_of_op ho, ← hd]
  exact hq

theorem State.rackFree_carousel (h : s.rackFree place = true) (hp : place.place = .carousel slot) :
    (∀ k y, s.rod? k = some y → y.place ≠ .carousel slot) ∧ s.reserved ≠ some (.carousel slot) := by
  cases place with
  | truck => cases hp
  | carousel slot' =>
    obtain rfl : slot' = slot := by simpa [RackPlace.place] using hp
    rw [State.rackFree, Bool.and_eq_true, Option.isNone_iff_eq_none, State.findRod_none, bne_iff_ne] at h
    exact ⟨fun k y hy => by simpa using h.1 k y hy, h.2⟩

theorem State.tagHeld_false {tag : Nat} (h : s.tagHeld tag = false) : ∀ k y, s.rod? k = some y → y.tag ≠ tag := by
  rw [State.tagHeld, Option.isSome_eq_false_iff, Option.isNone_iff_eq_none, State.findRod_none] at h
  exact fun k y hy => by simpa using h k y hy

/-! ### The labels kept -/

/-- Rods kept, moved out of the carousel or removed, with no rod left where one is reserved. -/
theorem State.Labelled.of_thinned (h : s.Labelled) (hr : s.Thinned t)
    (hfree : ∀ i x slot, s.rod? i = some x → t.reserved = some (.carousel slot) → x.place ≠ .carousel slot) : t.Labelled := by
  refine ⟨fun i k x y hx hy htag => ?_, fun i k x y slot hx hy hxs hys => ?_, fun i x slot hx hslot hxs => ?_⟩
  · obtain ⟨x', hx', hxt, _⟩ := hr.rod i x hx
    obtain ⟨y', hy', hyt, _⟩ := hr.rod k y hy
    exact h.tags i k x' y' hx' hy' (hxt.symm.trans (htag.trans hyt))
  · obtain ⟨x', hx', _, hxp⟩ := hr.rod i x hx
    obtain ⟨y', hy', _, hyp⟩ := hr.rod k y hy
    exact h.racks.1 i k x' y' slot hx' hy' (hxp slot hxs) (hyp slot hys)
  · obtain ⟨x', hx', _, hxp⟩ := hr.rod i x hx
    exact hfree i x' slot hx' hslot (hxp slot hxs)

theorem State.Labelled.thinned (h : s.Labelled) (hr : s.Thinned t) (hres : s.Reserves t) : t.Labelled :=
  h.of_thinned hr fun i x slot hx hslot => h.racks.2 i x slot hx (hres _ hslot)

/-- A free place reserved. -/
theorem State.Labelled.reserve (h : s.Labelled) (hr : s.Thinned t) (hres : ∀ p, t.reserved = some p → p = place)
    (hfree : s.rackFree place = true) : t.Labelled := by
  refine h.of_thinned hr fun i x slot hx hslot => ?_
  obtain rfl := hres _ hslot
  exact (State.rackFree_carousel hfree rfl).1 i x hx

/-- A rod set down in a slot of its own, under a tag of its own. -/
theorem State.Labelled.placed (h : s.Labelled) (hsl : s.Slotted i (some x) t) (hres : s.Reserves t)
    (htag : ∀ k y, k ≠ i → s.rod? k = some y → y.tag ≠ x.tag)
    (hrack : ∀ slot, x.place = .carousel slot → t.reserved ≠ some (.carousel slot)
      ∧ ∀ k y, k ≠ i → s.rod? k = some y → y.place ≠ .carousel slot) : t.Labelled := by
  have hself : ∀ {z}, t.rod? i = some z → z = x := fun hz => (Option.some.inj (hsl.1.symm.trans hz)).symm
  have hother : ∀ {k z}, k ≠ i → t.rod? k = some z → s.rod? k = some z := fun hk hz => (hsl.2 _ hk).symm.trans hz
  refine ⟨fun p q y z hy hz hyz => ?_, fun p q y z slot hy hz hyp hzp => ?_, fun p y slot hy hslot hyp => ?_⟩
  · by_cases hp : p = i <;> by_cases hq : q = i
    · exact hp.trans hq.symm
    · subst hp
      rw [hself hy] at hyz
      exact absurd hyz.symm (htag q z hq (hother hq hz))
    · subst hq
      rw [hself hz] at hyz
      exact absurd hyz (htag p y hp (hother hp hy))
    · exact h.tags p q y z (hother hp hy) (hother hq hz) hyz
  · by_cases hp : p = i <;> by_cases hq : q = i
    · exact hp.trans hq.symm
    · subst hp
      rw [hself hy] at hyp
      exact absurd hzp ((hrack slot hyp).2 q z hq (hother hq hz))
    · subst hq
      rw [hself hz] at hzp
      exact absurd hyp ((hrack slot hzp).2 p y hp (hother hp hy))
    · exact h.racks.1 p q y z slot (hother hp hy) (hother hq hz) hyp hzp
  · by_cases hp : p = i
    · subst hp
      rw [hself hy] at hyp
      exact (hrack slot hyp).1 hslot
    · exact h.racks.2 p y slot (hother hp hy) (hres _ hslot) hyp

theorem settled_labelled : Settled [.roster, .engine] State.Labelled where
  depends := fun u v hag h => by
    have hr : v.roster = u.roster := hag .roster (by simp)
    have he : v.engine = u.engine := hag .engine (by simp)
    refine h.thinned (.of_rods fun i => by rw [State.rod?, State.rod?, hr]) fun p hp => ?_
    rwa [State.reserved, he] at hp
  aside := by simp

theorem State.Labelled.enterOperate (h : s.Labelled) : s.enterOperate.Labelled :=
  h.thinned (enterOperate_thinned s) (enterOperate_eased s).reserves

theorem State.Labelled.of_request {code : Byte} {required : Nat} {cls : ReqClass} {body : Nat → List Word → State → Reply}
    {r : Request} (h : s.Labelled) (hx : takeRequest code required cls body r s = .next t)
    (hbody : ∀ l ws u, u.Labelled → Answers State.Labelled (body l ws u)) : t.Labelled :=
  settled_labelled.of_request (fun _ hu => hu.enterOperate) hbody hx h

/-! ### Rods set down -/

/-- A rod set down in a free place, under a tag that no other rod bears. -/
theorem State.Labelled.racked (h : s.Labelled) (hsl : s.Slotted i (some x) t) (hf : Frame rosterParts s t)
    (htag : ∀ k y, k ≠ i → s.rod? k = some y → y.tag ≠ x.tag) (hp : x.place = place.place) (hfree : s.rackFree place = true) :
    t.Labelled := by
  have hres : s.Reserves t := hf.reserves (by simp [rosterParts])
  refine h.placed hsl hres htag fun slot hslot => ?_
  obtain ⟨hempty, hunreserved⟩ := State.rackFree_carousel hfree (hp.symm.trans hslot)
  exact ⟨fun ht => hunreserved (hres _ ht), fun k y _ hy => hempty k y hy⟩

theorem State.Labelled.other_tag (h : s.Labelled) (hx : s.rod? i = some x) : ∀ k y, k ≠ i → s.rod? k = some y → y.tag ≠ x.tag :=
  fun k y hk hy htag => hk (h.tags k i y x hy hx htag)

theorem serveEnrolRod_labelled {l : Nat} {ws : List Word} (h : s.Labelled) : Answers State.Labelled (serveEnrolRod l ws s) := by
  refine serveEnrolRod_answers.mono ?_
  rintro v ⟨i, tag, type, length, place, _, htag, hfree, rfl⟩
  exact h.racked (State.setRod_slotted ..) (State.setRod_frame ..) (fun k y _ hy => State.tagHeld_false htag k y hy) rfl hfree

theorem serveAmendRod_labelled {l : Nat} {ws : List Word} (h : s.Labelled) : Answers State.Labelled (serveAmendRod l ws s) := by
  refine serveAmendRod_answers.mono ?_
  rintro v ⟨i, x, tag, length, hx, _, _, htag, rfl⟩
  have hres : s.Reserves (s.setRod i { x with tag := tag, length := length, unverified := false }) :=
    (State.setRod_frame ..).reserves (by simp [rosterParts])
  refine h.placed (State.setRod_slotted ..) hres ?_ fun slot hslot =>
    ⟨fun ht => h.racks.2 i x slot hx (hres _ ht) hslot, fun k y hk hy hys => hk (h.racks.1 k i y x slot hy hx hys hslot)⟩
  obtain rfl | hnew := htag
  · exact h.other_tag (x := x) hx
  · exact fun k y _ hy => State.tagHeld_false hnew k y hy

theorem serveMoveRod_labelled {l : Nat} {ws : List Word} (h : s.Labelled) : Answers State.Labelled (serveMoveRod l ws s) := by
  refine serveMoveRod_answers.mono ?_
  rintro v (rfl | ⟨i, x, place, hx, _, _, hfree, rfl⟩)
  · exact h
  · exact h.racked (State.modifyRod_slotted hx) (State.modifyRod_frame ..) (h.other_tag (x := x) hx) rfl hfree

/-- A rod stowed where it was reserved a place (R45). -/
theorem State.Labelled.takeStowed (h : s.Labelled) (ho : s.engine.op = some o) : (takeStowed o s).Labelled := by
  have hended : ((s.rackOpRod o).endOp o .done none 0).Labelled := by
    unfold State.rackOpRod
    split
    next i place _ hd =>
      cases hx : s.rod? i with
      | none =>
        rw [State.rackRod, State.modifyRod_none hx]
        exact h.thinned (State.endOp_frame ..).thinned fun p hp => absurd hp nofun
      | some x =>
        have hsl : s.Slotted i _ ((s.rackRod i place).endOp o .done none 0) :=
          (State.modifyRod_slotted hx).of_rods ((State.endOp_frame ..).rod?_eq)
        refine h.placed hsl (fun p hp => absurd hp nofun) (h.other_tag (x := x) hx) fun slot hslot => ⟨nofun, fun k y _ hy => ?_⟩
        have hplace : place = .carousel slot := by
          cases place with
          | truck => cases hslot
          | carousel slot' => simpa [RackPlace.place] using hslot
        exact h.racks.2 k y slot hy ((State.reserved_of_op ho).trans (hplace ▸ hd))
    · exact h.thinned (State.endOp_frame ..).thinned fun p hp => absurd hp nofun
  exact hended.thinned (State.engineRelease_frame ..).thinned (State.engineRelease_eased _ _).reserves

/-! ### Operations begun and carried on -/

theorem State.takeUp_reserved (o : Operation) (s : State) : (s.takeUp o).reserved = o.dest := rfl

theorem State.Labelled.begun (h : s.Labelled) (ho : o.dest = none) : (s.takeUp o).Labelled :=
  h.thinned (frame_engine s _).thinned fun p hp => by
    rw [State.takeUp_reserved, ho] at hp
    exact nomatch hp

theorem State.Labelled.begun_to (h : s.Labelled) (ho : o.dest = some place) (hfree : s.rackFree place = true) :
    (s.takeUp o).Labelled :=
  h.reserve (frame_engine s _).thinned (fun p hp => by
    rw [State.takeUp_reserved, ho] at hp
    exact (Option.some.inj hp).symm) hfree

theorem State.Labelled.engineRequest (h : s.Labelled) (st : Station) : (s.engineRequest st).Labelled :=
  h.thinned (State.engineRequest_frame ..).thinned (State.engineRequest_eased _ _).reserves

theorem State.tagMatched_reserves {o' : Operation} (ho : s.engine.op = some o) (hd : o'.dest = o.dest) :
    s.Reserves (s.tagMatched o') := by
  have hcentre : ∀ i, s.Reserves ((s.placeRod i .centre).setStep .awaitTorque o') := fun i => by
    have hf : Frame rosterParts s (s.placeRod i .centre) := State.modifyRod_frame ..
    have he : (s.placeRod i .centre).engine = s.engine := hf.kept .engine (by simp [rosterParts])
    exact (hf.reserves (by simp [rosterParts])).trans (State.reserves_setStep _ _ (by rw [he, ho]) hd)
  have hstay := fun p => State.reserves_setStep p o' ho hd
  unfold State.tagMatched
  split
  · refine State.Reserves.trans ?_ (State.engineRelease_eased _ _).reserves
    split
    · exact hstay _
    · exact hcentre _
    · exact hstay _
  · exact hstay _
  · exact hstay _
  · exact fun _ hp => hp
  · exact fun _ hp => hp

theorem State.takeTag_reserves (v : BitVec 32) (ho : s.engine.op = some o) : s.Reserves (takeTag v o s) := by
  unfold takeTag
  split_ifs
  · exact State.reserves_setStep _ _ ho rfl
  · exact State.reserves_setStep _ _ ho rfl
  · exact State.tagMatched_reserves ho rfl
  · exact State.Reserves.trans (t := (((s.doubtRod _).raise ..).endOp ..)) (fun p hp => nomatch (show none = some p from hp))
      (State.engineRelease_eased _ _).reserves

theorem State.takeJointBroken_reserves (ho : s.engine.op = some o) : s.Reserves (takeJointBroken o s) := by
  have hf : Frame rosterParts s (s.unjoinOpRod o) := by
    unfold State.unjoinOpRod
    split
    · exact Frame.rfl' _ s
    · exact State.unjoinRod_frame _ s
  have he : (s.unjoinOpRod o).engine = s.engine := hf.kept .engine (by simp [rosterParts])
  have hstep := (hf.reserves (by simp [rosterParts])).trans
    (State.reserves_setStep .awaitLoader o (s := s.unjoinOpRod o) (by rw [he, ho]) rfl)
  exact hstep.trans ((State.engineRequest_eased _ _).trans (State.engineRelease_eased _ _)).reserves

/-- Every command keeps the labels. -/
theorem exec_labelled {c : Instr} (h : s.Labelled) (hx : exec c s = .next t) : t.Labelled := by
  cases c
  case enrolRod => exact h.of_request hx fun _ _ _ hu => serveEnrolRod_labelled hu
  case amendRod => exact h.of_request hx fun _ _ _ hu => serveAmendRod_labelled hu
  case moveRod => exact h.of_request hx fun _ _ _ hu => serveMoveRod_labelled hu
  case stowed m =>
    exact settled_labelled.of_deliver (fun st _ => settled_labelled.of_atStep (fun o ho _ => h.takeStowed ho) h) hx h
  case makeUp =>
    refine h.of_request hx fun _ _ _ hu => serveMakeUp_answers.mono ?_
    rintro v ⟨_, _, i, x, src, _, ⟨_, rfl⟩ | rfl⟩
    · exact hu.begun rfl
    · exact State.Labelled.engineRequest (hu.begun rfl) _
  case breakOut =>
    refine h.of_request hx fun _ _ _ hu => serveBreakOut_answers.mono ?_
    rintro v ⟨_, _, i, x, dest, _, _, _, _, _, hfree, _, rfl⟩
    exact State.Labelled.engineRequest (hu.begun_to rfl hfree) _
  case stow =>
    refine h.of_request hx fun _ _ _ hu => serveStow_answers.mono ?_
    rintro v ⟨_, _, i, x, dest, _, _, _, _, hfree, rfl⟩
    exact State.Labelled.engineRequest (hu.begun_to rfl hfree) _
  case runBha =>
    refine h.of_request hx fun _ _ _ hu => serveRunBha_answers.mono ?_
    rintro v ⟨_, _, _, _, _, rfl⟩
    exact State.Labelled.engineRequest (hu.begun rfl) _
  case pullBha =>
    refine h.of_request hx fun _ _ _ hu => servePullBha_answers.mono ?_
    rintro v ⟨_, _, _, _, _, _, rfl⟩
    exact State.Labelled.engineRequest (hu.begun rfl) _
  case tag m =>
    refine settled_labelled.of_deliver (fun st _ => settled_labelled.of_atStep (fun o ho _ => ?_) h) hx h
    exact h.thinned (State.takeTag_thinned ..) (State.takeTag_reserves _ ho)
  case jointBroken m =>
    refine settled_labelled.of_deliver (fun st _ => settled_labelled.of_atStep (fun o ho _ => ?_) h) hx h
    exact h.thinned (State.takeJointBroken_thinned ..) (State.takeJointBroken_reserves ho)
  all_goals exact h.thinned (exec_thinned rfl hx) (exec_eased rfl hx).reserves

end Reservation

/-! ### O27 -/

section Records

variable {s t : State}

/-- A step takes one command, or none, off the queue. -/
theorem step_recordsOk (h : s.RecordsOk) (hx : step s = .next t) : t.RecordsOk := by
  unfold step at hx
  split at hx
  · obtain rfl := Host.Outcome.next.inj hx
    exact h
  next c rest _ =>
    have hrest : ({ s with pending := rest } : State).RecordsOk := ⟨h.jobs, h.rods, h.additives, h.attn, h.lith⟩
    exact exec_recordsOk hrest hx

end Records

/-- Settles O27; the records and the labels, each kept by every command. -/
theorem recordsInvariant : Obligations.RecordsInvariant := by
  refine ⟨fun s t hgen hattn hlith hx => recordsOk_iff.1 (step_recordsOk (recordsOk_iff.2 ⟨hgen, hattn, hlith⟩) hx),
    fun s t htags hracks hx => ?_⟩
  obtain ⟨htags', hracks'⟩ := settled_labelled.of_step (fun c u v hx hu => exec_labelled hu hx) hx ⟨htags, hracks⟩
  exact ⟨htags', hracks'⟩

end Sys2Proof.Machine
end
